-- ==== Sys2Proof/Word.lean ====
section
/-! DEFINITION. The word types of the SGA-410 and the containers with a fixed number of places. -/

namespace Sys2Proof

/-- One byte of host memory, of a link frame or of a serial line. -/
abbrev Byte := BitVec 8
/-- A 32-bit word of the Control Block or the register window. -/
abbrev Word := BitVec 32
/-- A host memory address: 64-bit (spec/00, Shared memory). -/
abbrev Addr := BitVec 64
/-- Station time: a 48-bit count of frames (R26). -/
abbrev Time := BitVec 48
/-- One audio sample: a signed 24-bit integer (spec/00, Audio). -/
abbrev Sample := BitVec 24

/-- One stereo frame (spec/00, Audio). -/
structure Frame where
  l : Sample
  r : Sample
deriving DecidableEq, Repr

/-- The frame of silence. -/
def Frame.silence : Frame := ⟨0, 0⟩

/-- The two members of a pair of like units: decks A and B, ports A and B, record slots 1 and 2. -/
inductive Side where
  | a
  | b
deriving DecidableEq, Repr

/-- A deck, A or B. -/
abbrev DeckId := Side
/-- A link port or an alert receiver port, A or B. -/
abbrev PortId := Side
/-- A record slot of the recorder: `a` is slot 1, `b` is slot 2. -/
abbrev SlotId := Side

/-- The other member of the pair. -/
def Side.other : Side → Side
  | .a => .b
  | .b => .a

/-- A caller line: place n is line n + 1. -/
abbrev LineNo := Fin 4
/-- A GPI line: place n is line n + 1. -/
abbrev GpiNo := Fin 8
/-- An alert table entry: place n is entry n + 1. -/
abbrev EntryNo := Fin 8
/-- A request slot, 0 to 15. -/
abbrev SlotNo := Fin 16

/-- Two like things, one for each side. -/
structure Two (α : Type) where
  a : α
  b : α
deriving DecidableEq, Repr

/-- The thing on one side. -/
def Two.get {α : Type} (t : Two α) : Side → α
  | .a => t.a
  | .b => t.b

/-- Replace the thing on one side. -/
def Two.set {α : Type} (t : Two α) (i : Side) (x : α) : Two α :=
  match i with
  | .a => { t with a := x }
  | .b => { t with b := x }

/-- Both sides through one function. -/
def Two.map {α β : Type} (f : α → β) (t : Two α) : Two β := ⟨f t.a, f t.b⟩

/-- Four like things, one for each caller line. -/
structure Four (α : Type) where
  x1 : α
  x2 : α
  x3 : α
  x4 : α
deriving DecidableEq, Repr

/-- The thing of one line. -/
def Four.get {α : Type} (t : Four α) (i : Fin 4) : α :=
  match i with
  | 0 => t.x1
  | 1 => t.x2
  | 2 => t.x3
  | 3 => t.x4

/-- Replace the thing of one line. -/
def Four.set {α : Type} (t : Four α) (i : Fin 4) (x : α) : Four α :=
  match i with
  | 0 => { t with x1 := x }
  | 1 => { t with x2 := x }
  | 2 => { t with x3 := x }
  | 3 => { t with x4 := x }

/-- All four through one function. -/
def Four.map {α β : Type} (f : α → β) (t : Four α) : Four β := ⟨f t.x1, f t.x2, f t.x3, f t.x4⟩

/-- The four things made from their numbers. -/
def Four.ofFn {α : Type} (f : Fin 4 → α) : Four α := ⟨f 0, f 1, f 2, f 3⟩

/-- The four in line order. -/
def Four.toList {α : Type} (t : Four α) : List α := [t.x1, t.x2, t.x3, t.x4]

/-- Eight like things, one for each GPI line or alert table entry. -/
structure Eight (α : Type) where
  x1 : α
  x2 : α
  x3 : α
  x4 : α
  x5 : α
  x6 : α
  x7 : α
  x8 : α
deriving DecidableEq, Repr

/-- The thing at one place. -/
def Eight.get {α : Type} (t : Eight α) (i : Fin 8) : α :=
  match i with
  | 0 => t.x1
  | 1 => t.x2
  | 2 => t.x3
  | 3 => t.x4
  | 4 => t.x5
  | 5 => t.x6
  | 6 => t.x7
  | 7 => t.x8

/-- Replace the thing at one place. -/
def Eight.set {α : Type} (t : Eight α) (i : Fin 8) (x : α) : Eight α :=
  match i with
  | 0 => { t with x1 := x }
  | 1 => { t with x2 := x }
  | 2 => { t with x3 := x }
  | 3 => { t with x4 := x }
  | 4 => { t with x5 := x }
  | 5 => { t with x6 := x }
  | 6 => { t with x7 := x }
  | 7 => { t with x8 := x }

/-- The eight things made from their numbers. -/
def Eight.ofFn {α : Type} (f : Fin 8 → α) : Eight α := ⟨f 0, f 1, f 2, f 3, f 4, f 5, f 6, f 7⟩

/-- All eight through one function. -/
def Eight.map {α β : Type} (f : α → β) (t : Eight α) : Eight β :=
  ⟨f t.x1, f t.x2, f t.x3, f t.x4, f t.x5, f t.x6, f t.x7, f t.x8⟩

/-- The eight in order of their numbers. -/
def Eight.toList {α : Type} (t : Eight α) : List α := [t.x1, t.x2, t.x3, t.x4, t.x5, t.x6, t.x7, t.x8]

/-- The numbers 0 to 3, in order. -/
def lines4 : List (Fin 4) := [0, 1, 2, 3]
/-- The numbers 0 to 7, in order. -/
def places8 : List (Fin 8) := [0, 1, 2, 3, 4, 5, 6, 7]

end Sys2Proof
end

