-- ==== Sys2Proof/Config.lean ====
section
/-! DEFINITION. The constants of the part that the spec fixes, and the one value it leaves open. -/

namespace Sys2Proof

/-- The silicon revision in IDENT (R1). The spec names it and gives no value: nothing constrains it (log entry 12). -/
opaque Config.revision : BitVec 8

/-- Frames in a block (spec/00, Audio). -/
abbrev Config.blockFrames : Nat := 240
/-- Unity gain (spec/00, Audio). -/
abbrev Config.unity : Nat := 32768
/-- Frames a deck FIFO holds (R56). -/
abbrev Config.fifoFrames : Nat := 16384
/-- Bytes of the longest fetch read (R57). -/
abbrev Config.fetchChunk : Nat := 4096
/-- Frames the rescue store holds (R70). -/
abbrev Config.storeFrames : Nat := 2880000
/-- Frames of delay memory (R106). -/
abbrev Config.delayFrames : Nat := 2097152
/-- Samples a record slot holds (R140). -/
abbrev Config.slotFrames : Nat := 5760000
/-- Frames in a second and in a minute (spec/00, Time). -/
abbrev Config.secondFrames : Nat := 48000
abbrev Config.minuteFrames : Nat := 2880000
/-- Frames in the send queue (R164). -/
abbrev Config.sendQueue : Nat := 16
/-- Links a walk may follow (R48). -/
abbrev Config.walkLinks : Nat := 64
/-- Entries in the log writer's queue (R182). -/
abbrev Config.logQueue : Nat := 64
/-- Signature and layout version of the header (R4). -/
abbrev Config.signature : Nat := 0x42435347
abbrev Config.layoutVersion : Nat := 1
/-- Good marks that qualify a source (R22) and bad marks that lose it (R23). -/
abbrev Config.qualifyMarks : Nat := 200
abbrev Config.lossMarks : Nat := 4
/-- One nominal block and its tolerance, in 1/1,024 of a frame (spec/02, Reference marks). -/
abbrev Config.blockUnits : Nat := 245760
abbrev Config.toleranceUnits : Nat := 245
/-- Blocks between header retries in DETACHED (R8) and between reads of a waiting walker (R44). -/
abbrev Config.retryBlocks : Nat := 20
abbrev Config.walkWait : Nat := 20
/-- Heard blocks that end a dead-air rescue (R100) and blocks of the return fade (R103). -/
abbrev Config.recoveryBlocks : Nat := 40
abbrev Config.returnFadeBlocks : Nat := 20
/-- Idle time that abandons an alert frame, in frames of the sample clock (R128). -/
abbrev Config.idleFrames : Nat := 1000
/-- Good returns that train a port (R163), and blocks between keepalives (R168). -/
abbrev Config.trainReturns : Nat := 8
abbrev Config.keepaliveBlocks : Nat := 20
/-- Largest values of a saturating 32-bit and 16-bit count. -/
abbrev Config.max32 : Nat := 4294967295
abbrev Config.max16 : Nat := 65535

end Sys2Proof
end

