-- ==== Sys2Proof/Syntax.lean ====
section
/-! DEFINITION. The commands of the SGA-410: one constructor for each row of spec/opcode_table.json. -/

namespace Sys2Proof

/-- How a bus read completes: with the bytes read, or failed (`none`) (spec/01, introduction). -/
abbrev ReadResult := Option (List Byte)

/-- How one record write of two steps ends inside a HALT or PROGRAMME_RESET (R5, R9, R39; log entry 6). -/
inductive PairWrite where
  /-- Part half and state word both complete good. -/
  | good
  /-- The part half write fails. -/
  | halfFailed
  /-- The part half is written and the state word write fails. -/
  | stateFailed
deriving DecidableEq, Repr

/-- How the writes that a deck makes inside one HALT or PROGRAMME_RESET end, each by itself, in the order in which they
are made, the one in flight first; a write past the end of the list is good (R5, R39; log entry 6). -/
abbrev DeckWrites := List PairWrite

/-- What the outside brings with a block (log entry 4): the console's frames, the caller lines' samples,
the two alert audio lines' samples, and the eight GPI samples (bit n - 1 is line n, set for HIGH). -/
structure BlockInput where
  studio : List Frame
  callers : Four (List Sample)
  alertAudio : Two (List Sample)
  gpi : BitVec 8
deriving DecidableEq, Repr

/-- The commands. A request row carries the slot it was taken from and the sequence number of the slot (R15), then
the argument words its kind uses. A read completion carries what the bus returned, a write completion whether it
was good. -/
inductive Instr where
  -- register commands and resets
  | powerOn
  | start
  | halt (deckA deckB : DeckWrites)
  | programmeReset (deckA deckB : DeckWrites)
  | fullReset
  | cbBaseWrite (high : Bool) (value : Word)
  | registerWriteIgnored (offset : Byte) (value : Word)
  -- attach, survey, requests, mirror
  | attachHeaderReadDone (read : ReadResult)
  | attachSectionReadDone (read slots : ReadResult)
  | blockBoundary (input : BlockInput)
  | surveyPass
  | headerReadDone (read : ReadResult)
  | sectionReadDone (read : ReadResult)
  | requestSlotsReadDone (read : ReadResult)
  | unknownKind (slot : SlotNo) (seq kind : Word)
  | resultWriteDone (slot : SlotNo) (ok : Bool)
  | heldResultRetry
  | detachedRetry
  | mirrorRewrite
  | mirrorWriteDone (ok : Bool)
  -- clock and station time
  | clockSelect (slot : SlotNo) (seq source : Word)
  | setTime (slot : SlotNo) (seq low high : Word)
  | setTimeApplied
  | houseMark (arrival : Nat)
  | houseMarkMissing (now : Nat)
  | linkMarkMissing (now : Nat)
  | clockSwitch
  -- studio lines
  | gpiLevelAccepted (line : GpiNo)
  -- order walker and record writes
  | walkStart
  | walkWaitExpired
  | recordReadDone (read : ReadResult)
  | walkerWriteDone (ok : Bool)
  | recordWriteDone (deck : DeckId) (ok : Bool)
  | heldWriteRetry (deck : DeckId)
  -- fetch, decks, rescue store
  | fetchIssue
  | fetchReadDone (data : List Byte)
  | fetchReadFailed
  | segmentStart (deck : DeckId)
  | hardStart (deck : DeckId)
  | deckBlock (deck : DeckId)
  | durationComplete (deck : DeckId)
  | segmentEnd (deck : DeckId)
  | segmentSkip (slot : SlotNo) (seq which : Word)
  | runOutStart
  | fillRecordReadDone (read : ReadResult)
  -- callers
  | presenceRise (line : LineNo)
  | presenceFall (line : LineNo)
  | framingLost (line : LineNo)
  | framingRegained (line : LineNo)
  | clearingEnd (line : LineNo)
  | callerHold (slot : SlotNo) (seq line : Word)
  | callerOnAir (slot : SlotNo) (seq line : Word)
  | callerTake (slot : SlotNo) (seq : Word)
  | callerDrop (slot : SlotNo) (seq line : Word)
  | callerQueue (slot : SlotNo) (seq line position : Word)
  -- dead-air monitor
  | silenceTimeReached
  | rescueStart
  | recovery
  | returnFadeEnd
  | rescueStop
  -- delay line
  | delayBlock
  | delayEngage (slot : SlotNo) (seq : Word)
  | delayExit (slot : SlotNo) (seq : Word)
  | delayDump (slot : SlotNo) (seq : Word)
  -- alert reception
  | goodCharacter (port : PortId) (value : Byte) (arrival : Nat)
  | framingError (port : PortId)
  | breakCharacter (port : PortId)
  | alertFrameIdle (port : PortId) (now : Nat)
  | alertHeader (port : PortId)
  | alertEndFrame (port : PortId)
  | recordingStart (entry : EntryNo)
  | recordingEnd (entry : EntryNo)
  | recordingFull (entry : EntryNo)
  | alertExpiry (entry : EntryNo)
  -- alert airing
  | holdUntilPassed (entry : EntryNo)
  | manualDeadlinePassed (entry : EntryNo)
  | alertForward (slot : SlotNo) (seq w0 w1 w2 : Word)
  | alertCancel (slot : SlotNo) (seq w0 w1 w2 : Word)
  | airingStart
  | toneEnd
  | airingEnd
  | gapEnd
  | cancelFadeEnd
  -- transmitter link
  | returnFrame (port : PortId) (bytes : List Byte) (arrival : Nat)
  | linkBreak (port : PortId)
  | returnTimeout (port : PortId)
  | failover
  | linkSwitch (slot : SlotNo) (seq port : Word)
  | pendingLinkSwitch
  | revert
  | programmeFrameFormed
  | frameSent (port : PortId)
  | keepaliveDue (port : PortId)
  -- faults, log, notices
  | faultAck (slot : SlotNo) (seq kinds : Word)
  | logWriteDone (ok : Bool)
  | logGap
  | noticeWrite
  | noticeWriteDone (ok : Bool)
deriving DecidableEq, Repr

end Sys2Proof
end

