-- ==== Sys2Proof/Decode.lean ====
section
/-! DEFINITION. What the table's bits spell. Every row of spec/opcode_table.json has an empty list of fields and no
bits, so no word spells a command. -/

namespace Sys2Proof

/-- The command a word spells by the table's bits: none, since the table gives no row any bits. -/
def decodeTableWord (_nbits _w : Nat) : Option Instr := none

end Sys2Proof
end

