-- ==== Sys2Proof/Machine/State.lean ====
section
/-! DEFINITION. The state of the SGA-410 as plain data, unit by unit, and the state after reset. -/

namespace Sys2Proof.Machine

open Sys2Proof

/-! ## Why a command stops -/

/-- No command of the table stops the part (INVENTORY, Faults), so there is no reason to name. -/
inductive Fault where
deriving DecidableEq, Repr

/-- Why a command has no meaning. -/
inductive Refusal where
  /-- Raised by `exec` for a command whose meaning is not written yet; safe: the model stops where the part goes on. -/
  | notModelled (mnemonic : String)
deriving DecidableEq, Repr

/-! ## Gain ramps (R90) -/

/-- A ramp: the gain in force, its target and the blocks remaining (R90). `blk` is the gain of the block in progress and
`base` the gain before the last boundary's step, so that a ramp started at a boundary takes its first step there;
`complete` says a block has been played at the target. -/
structure Ramp where
  g : Nat
  target : Nat
  m : Nat
  blk : Nat
  base : Nat
  complete : Bool
deriving DecidableEq, Repr

/-- A ramp settled at a gain (R90). -/
def Ramp.settled (g : Nat) : Ramp := ⟨g, g, 0, g, g, true⟩

/-! ## Bus interface -/

/-- Who asked for a bus access. -/
inductive BusUser where
  | attachHeader
  | attachSect
  | header
  | sect
  | slots
  | result (slot : SlotNo)
  | mirror
  | record
  | walkerWrite
  | recordWrite (deck : DeckId)
  | fillRecord
  | logWrite
  | notice
deriving DecidableEq, Repr

/-- An access whose work was given up: its completion is discarded. `quiet` tells that a reset gave it up, so that even
a failed write raises nothing (log entry 8). -/
structure StaleOp where
  user : BusUser
  quiet : Bool
deriving DecidableEq, Repr

/-- Bytes written to host memory at an address. -/
structure HostWrite where
  addr : Addr
  bytes : List Byte
deriving DecidableEq, Repr

/-- The bus-master engine. -/
structure Bus where
  stale : List StaleOp
  resetWrites : List HostWrite
deriving DecidableEq, Repr

/-! ## Survey unit (spec/01) -/

/-- The part state (R1). -/
inductive PartState where
  | standby
  | attaching
  | running
  | detached
  | halted
deriving DecidableEq, Repr

/-- The cause code (R2). -/
inductive Cause where
  | none
  | noBase
  | badSignature
  | badVersion
  | readFailed
  | hostHalt
deriving DecidableEq, Repr

/-- Control Block sections 1 to 6 (spec/01, 1.6). -/
inductive Sec where
  | station
  | anchor
  | slots
  | policy
  | callers
  | logs
deriving DecidableEq, Repr

/-- One thing for each of sections 1 to 6. -/
structure PerSec (α : Type) where
  station : α
  anchor : α
  slots : α
  policy : α
  callers : α
  logs : α
deriving DecidableEq, Repr

/-- The thing of one section. -/
def PerSec.get {α : Type} (t : PerSec α) : Sec → α
  | .station => t.station
  | .anchor => t.anchor
  | .slots => t.slots
  | .policy => t.policy
  | .callers => t.callers
  | .logs => t.logs

/-- Replace the thing of one section. -/
def PerSec.set {α : Type} (t : PerSec α) (i : Sec) (x : α) : PerSec α :=
  match i with
  | .station => { t with station := x }
  | .anchor => { t with anchor := x }
  | .slots => { t with slots := x }
  | .policy => { t with policy := x }
  | .callers => { t with callers := x }
  | .logs => { t with logs := x }

/-- The same thing for every section. -/
def PerSec.all {α : Type} (x : α) : PerSec α := ⟨x, x, x, x, x, x⟩

/-- The reasons a section is refused for (R13). -/
inductive RefuseReason where
  | logSize
  | alignment
  | enumeration
  | areaCode
  | eventCode
  | locked
deriving DecidableEq, Repr

/-- The refused-section record (R13). -/
structure RefusedSec where
  sec : Sec
  edition : Word
  reason : RefuseReason
deriving DecidableEq, Repr

/-- The result codes (R16; spec/12, Request slot). -/
inductive ResultCode where
  | done
  | unknownKind
  | badArgument
  | wrongState
  | atLimit
  | queueEmpty
  | notSafe
  | notEngaged
  | targetTooShort
  | callersOnAir
  | portDown
  | noSuchAlert
  | nothingToSkip
deriving DecidableEq, Repr

/-- Where a write of two steps stands: waiting for its turn, its first part in flight, its last part in flight, or
held after a failure (R16, R39). A result that waits is a held one whose turn in the block's attempts is to come. -/
inductive WritePhase where
  | waiting
  | first
  | last
  | held
deriving DecidableEq, Repr

/-- The states of a request slot (spec/12, Request slot). -/
inductive SlotState where
  | empty
  | posted
  | done
  | refused
deriving DecidableEq, Repr

/-- The answer of one request slot on its way to host memory (R16). -/
structure ResultWrite where
  slot : SlotNo
  code : ResultCode
  doneTime : Word
  phase : WritePhase
deriving DecidableEq, Repr

/-- What the survey unit is reading (R4, R8, R11). `re` tells a re-attach from an attach; `rest` are the sections still
to read after the one in flight. -/
inductive SurveyPhase where
  | idle
  | attachHeader (re : Bool)
  | attachSect (re : Bool) (sec : Sec) (rest : List Sec)
  | editionWord
  | table
  | sect (sec : Sec) (rest : List Sec)
  | slots
  | retryHeader
deriving DecidableEq, Repr

/-- What the pass in progress has gathered (R11, R12). -/
structure Pass where
  edition : Word
  table : PerSec Word
  failed : Bool
  changed : Bool
deriving DecidableEq, Repr

/-- The survey unit. `retrying` is the slot whose held result is being attempted (R16). -/
structure Survey where
  state : PartState
  cause : Cause
  cameFrom : PartState
  cbBase : Addr
  appliedEdition : Word
  lastSeen : Word
  applied : PerSec Word
  seen : PerSec Word
  marked : PerSec Bool
  failedReads : Nat
  retryCount : Nat
  phase : SurveyPhase
  pass : Pass
  passMade : Bool
  heldFill : Addr
  refused : Option RefusedSec
  counter : Word
  results : List ResultWrite
  resultsTried : Bool
  retrying : Option SlotNo
deriving DecidableEq, Repr

/-- The status mirror's writer (R17): the stamp of the last complete rewrite, the contents last written, whether a
rewrite is owed, the rewrite in flight and whether one was begun in this block. -/
structure Mirror where
  stamp : Word
  written : List Byte
  due : Bool
  writing : Option (List Byte × WritePhase)
  tried : Bool
deriving DecidableEq, Repr

/-! ## The settings (sections 1, 2, 4, 5, 6) -/

/-- GPI functions and senses (R29). -/
inductive GpiFunction where
  | none
  | dump
  | takeCaller
  | dropCallers
  | alertForward
  | alertCancel
  | skip
  | logOnly
deriving DecidableEq, Repr

inductive GpiSense where
  | rising
  | falling
  | both
  | levelHigh
  | levelLow
deriving DecidableEq, Repr

/-- The setting of one GPI line (R29). -/
structure GpiSetting where
  function : GpiFunction
  sense : GpiSense
deriving DecidableEq, Repr

/-- The answer of the delay line to an airing, and the alert programme policy (R107, R120). -/
inductive AlertPolicy where
  | pause
  | cut
deriving DecidableEq, Repr

/-- Fault classes (R177). -/
inductive FaultClass where
  | advisory
  | degraded
  | onAir
deriving DecidableEq, Repr

/-- Section 1, the station settings. -/
structure Station where
  noticeAddr : Addr
  noticeHoldoff : Nat
  trim : Int
  autoReturn : Bool
  studioGain : Nat
  fillGain : Nat
  fetchMark : Nat
  target : Nat
  rate : Nat
  dumpSize : Nat
  policy : AlertPolicy
  silenceThreshold : Nat
  silenceTime : Nat
  rescueEnabled : Bool
  siteAddress : Nat
  returnTimeout : Nat
  preferred : PortId
  autoRevert : Bool
  revertHold : Nat
  mask : BitVec 18
  classes : List FaultClass
  gpi : Eight GpiSetting
deriving DecidableEq, Repr

/-- The default class of each fault kind, in the order of spec/11, 11.1. -/
def defaultClasses : List FaultClass :=
  [.degraded, .advisory, .advisory, .degraded, .degraded, .degraded, .advisory, .onAir, .degraded,
   .onAir, .degraded, .degraded, .advisory, .onAir, .degraded, .degraded, .degraded, .onAir]

/-- The defaults of section 1 (R18, R29, R56, R91, R99, R107, R161, R177, R186). -/
def Station.default : Station where
  noticeAddr := 0
  noticeHoldoff := 10
  trim := 0
  autoReturn := false
  studioGain := 0
  fillGain := 32768
  fetchMark := 8192
  target := 384000
  rate := 10
  dumpSize := 96000
  policy := .pause
  silenceThreshold := 26527
  silenceTime := 3000
  rescueEnabled := true
  siteAddress := 0
  returnTimeout := 10
  preferred := .a
  autoRevert := true
  revertHold := 6000
  mask := 0
  classes := defaultClasses
  gpi := Eight.ofFn (fun _ => ⟨.none, .rising⟩)

/-- Section 2, the running order anchor (R50, R70). -/
structure Anchor where
  head : Addr
  fill : Addr
deriving DecidableEq, Repr

/-- Alert policies (R135). -/
inductive Policy where
  | auto
  | manual
  | logOnly
  | ignore
deriving DecidableEq, Repr

/-- A pair of the event policy table (R135): three ASCII bytes, the first in the low byte, and a policy. -/
structure EventPolicy where
  code : BitVec 24
  policy : Policy
deriving DecidableEq, Repr

/-- Section 4, the locale and alert policy (R135, R146). -/
structure AlertSettings where
  lock : Bool
  airTests : Bool
  defaultPolicy : Policy
  forwardHold : Nat
  manualDeadline : Nat
  attention : Nat
  gain : Nat
  locale : List Nat
  authority : List (BitVec 64)
  events : List EventPolicy
deriving DecidableEq, Repr

/-- The defaults of section 4 (R135, R146). -/
def AlertSettings.default : AlertSettings where
  lock := false
  airTests := false
  defaultPolicy := .manual
  forwardHold := 30
  manualDeadline := 900
  attention := 8
  gain := 32768
  locale := []
  authority := []
  events := []

/-- The settings of one caller line (R74). -/
structure CallerLineSetting where
  gain : Nat
  tag : Option Word
deriving DecidableEq, Repr

/-- Section 5, the caller settings (R74). -/
structure CallerSettings where
  limit : Nat
  guardSet : Bool
  holdGain : Nat
  lines : Four CallerLineSetting
deriving DecidableEq, Repr

/-- The defaults of section 5 (R74). -/
def CallerSettings.default : CallerSettings :=
  ⟨2, true, 8192, Four.ofFn (fun _ => ⟨32768, none⟩)⟩

/-- Section 6, the log descriptor's base and size (R182). -/
structure LogSettings where
  base : Addr
  size : Nat
deriving DecidableEq, Repr

/-- The section copies (R11) and the locale lock (R14). -/
structure Sections where
  station : Station
  anchor : Anchor
  policy : AlertSettings
  callers : CallerSettings
  logs : LogSettings
  locked : Bool
deriving DecidableEq, Repr

/-- The section copies after reset (R10). -/
def Sections.default : Sections :=
  ⟨Station.default, ⟨0, 0⟩, AlertSettings.default, CallerSettings.default, ⟨0, 64⟩, false⟩

/-! ## Station clock unit (spec/02) -/

/-- An external source (R18). -/
inductive ClockSource where
  | house
  | link
deriving DecidableEq, Repr

/-- The clock state with its source (R18). -/
inductive ClockState where
  | onInternal
  | qualifying (x : ClockSource)
  | onExternal (x : ClockSource)
deriving DecidableEq, Repr

/-- A pending switch: one a request made, one a qualified source made, one a loss made (R21, R22, R23). -/
inductive PendingClock where
  | requested (st : ClockState)
  | qualified (x : ClockSource)
  | lost (x : ClockSource)
deriving DecidableEq, Repr

/-- The mark point P, in 1/1,024 of a frame of the running clock, and the mark count C (R19, R20). -/
structure Mark where
  pos : Nat
  count : Word
deriving DecidableEq, Repr

/-- The station clock unit (R18). `missed` counts the missing LINK marks since P; `lost` says the reference of this
ON_EXTERNAL state has been lost, which holds until the boundary changes the state (R23, R179). -/
structure Clock where
  state : ClockState
  good : Nat
  badRun : Nat
  pending : Option PendingClock
  trim : Int
  mark : Option Mark
  missed : Nat
  lost : Bool
deriving DecidableEq, Repr

/-! ## Studio line unit (spec/02) -/

/-- The record of one GPI line (R29); levels are `true` for HIGH. `due` says the fourth differing sample has been taken
and its acceptance is to come in this block, `sampled` that a first sample has set the accepted level. -/
structure GpiLine where
  accepted : Bool
  count : Nat
  stamp : Time
  armed : Bool
  due : Bool
  sampled : Bool
deriving DecidableEq, Repr

/-! ## Segment records (spec/03) -/

/-- Record states (R38). -/
inductive RecState where
  | draft
  | ready
  | cued
  | playing
  | aired
  | skipped
  | faulted
  | abandoned
deriving DecidableEq, Repr

/-- Segment kinds (R36). -/
inductive SegKind where
  | audio
  | live
  | gap
  | mark
deriving DecidableEq, Repr

/-- Sample formats (R36, R58). -/
inductive SampleFormat where
  | s16leMono
  | s16leStereo
  | s24leStereo
  | s32leStereo
  | s32beStereo
deriving DecidableEq, Repr

/-- End reasons (R37). -/
inductive EndReason where
  | none
  | complete
  | skip
  | hardStart
  | fetchError
  | badRecord
  | halt
  | programmeReset
  | stale
deriving DecidableEq, Repr

/-- Outcome flags (R37). -/
structure OutcomeFlags where
  underrun : Bool
  late : Bool
  truncated : Bool
  fetchError : Bool
  badRecord : Bool
  byRequest : Bool
  pausedForAlert : Bool
  noFill : Bool
deriving DecidableEq, Repr

/-- No flag set. -/
def OutcomeFlags.clear : OutcomeFlags := ⟨false, false, false, false, false, false, false, false⟩

/-- The part half of a record (R37). `letter` is the code of the deck letter: 0 A, 1 B, 2 NONE. -/
structure PartHalf where
  flags : OutcomeFlags
  reason : EndReason
  letter : Byte
  cued : Time
  airedStart : Time
  airedEnd : Time
  framesAired : Nat
  underrunFrames : Nat
deriving DecidableEq, Repr

/-- A part half with every field 0. -/
def PartHalf.zero : PartHalf := ⟨OutcomeFlags.clear, .none, 0, 0, 0, 0, 0, 0⟩

/-- The host half of a record as read (R36). -/
structure HostHalf where
  next : Addr
  state : Word
  kind : Byte
  format : Byte
  hardPresent : Bool
  soft : Bool
  buffer : Addr
  length : Nat
  cueIn : Nat
  segue : Nat
  fadeIn : Nat
  fadeOut : Nat
  gain : Nat
  tag : Word
  hardTime : Time
  duration : Nat
deriving DecidableEq, Repr

/-- A host half with every field 0. -/
def HostHalf.zero : HostHalf := ⟨0, 0, 0, 0, false, false, 0, 0, 0, 0, 0, 0, 0, 0, 0, 0⟩

/-- A record write of two steps: the part half, then the state word (R39). `kept` says it has failed and is a held write,
in an attempt at it too, until it completes good or is discarded. -/
structure RecordWrite where
  addr : Addr
  half : PartHalf
  state : RecState
  phase : WritePhase
  kept : Bool
deriving DecidableEq, Repr

/-! ## Order walker (spec/03) -/

/-- Walker states (spec/03, 3.3). -/
inductive WalkState where
  | noOrder
  | toExamine
  | waitingDraft
  | atEnd
  | chainWait
deriving DecidableEq, Repr

/-- The order walker (R42). `walking` says a walk is in progress with its read in flight; `lapsed` that demand has been
absent since the end of the last walk; `surveyChanged` that this block's pass found the header edition changed (R44). -/
structure Walker where
  ptr : Addr
  state : WalkState
  links : Nat
  wait : Nat
  walking : Bool
  lapsed : Bool
  surveyChanged : Bool
  writes : List RecordWrite
deriving DecidableEq, Repr

/-! ## Decks, fetch engine, rescue store (spec/04) -/

/-- Deck states (spec/04, 4.1). -/
inductive DeckState where
  | empty
  | loading
  | ready
  | playing
  | ending
  | paused
deriving DecidableEq, Repr

/-- A deck (spec/04, 4.1). `copy` is the cue-time copy with its kind and format read; `noMore` says fetching has stopped
for the cue (R64); `owed` is an owed start and `fired` a WAIT hard start that fired and waits for READY (R59, R61);
`fading` says the fade-out of R60 has begun; `lateRaised` that FETCH_LATE was raised for the cue (R63); `sounded` counts
the blocks a LIVE or GAP has sounded (R62); `lastEnd` is the station time of the frame after the last one taken (R65);
`writes` are the record writes of the deck, oldest first (R39). -/
structure Deck where
  state : DeckState
  addr : Addr
  copy : HostHalf
  kind : SegKind
  format : SampleFormat
  part : PartHalf
  fifo : List Frame
  fetchPos : Addr
  toFetch : Nat
  played : Nat
  carry : List Byte
  noMore : Bool
  decided : Option (RecState × EndReason)
  returnTo : DeckState
  owed : Bool
  fired : Bool
  fading : Bool
  lateRaised : Bool
  sounded : Nat
  lastEnd : Time
  writes : List RecordWrite
  writeTried : Bool
  blockTaken : Bool
deriving DecidableEq, Repr

/-- An EMPTY deck (R54). -/
def Deck.blank : Deck where
  state := .empty
  addr := 0
  copy := HostHalf.zero
  kind := .audio
  format := .s16leMono
  part := PartHalf.zero
  fifo := []
  fetchPos := 0
  toFetch := 0
  played := 0
  carry := []
  noMore := false
  decided := none
  returnTo := .playing
  owed := false
  fired := false
  fading := false
  lateRaised := false
  sounded := 0
  lastEnd := 0
  writes := []
  writeTried := false
  blockTaken := false

/-- The deck unit (spec/04, 4.1): both decks, the pause, the run-out with its reader, the NO_FILL marker, and the deck
started last. `fillLive` says the run-out reader goes on from its position; `fillBlock` are the frames the fill source
has for the block in progress, none in a silent one (R69). -/
structure Decks where
  deck : Two Deck
  pause : Bool
  runOut : Bool
  noFill : Bool
  lastStarted : Option DeckId
  fillPos : Nat
  fillLive : Bool
  fillBlock : List Frame
deriving DecidableEq, Repr

/-- Who a fetch read is for (R57). -/
inductive FetchUser where
  | deck (d : DeckId)
  | loader
deriving DecidableEq, Repr

/-- The read in flight of the fetch engine (R57); `live` is false when its data is to be discarded. -/
structure FetchRead where
  user : FetchUser
  addr : Addr
  len : Nat
  live : Bool
deriving DecidableEq, Repr

/-- The fetch engine: one read in flight at a time (R57). -/
structure Fetch where
  inFlight : Option FetchRead
deriving DecidableEq, Repr

/-- Rescue store states (spec/04, 4.7). -/
inductive StoreState where
  | empty
  | loading
  | ready
deriving DecidableEq, Repr

/-- The rescue store with its loader (R70). `reading` says the fill record's read is in flight; `left` counts the frames
still to load. -/
structure Rescue where
  state : StoreState
  frames : List Frame
  len : Nat
  reading : Bool
  fill : Addr
  format : SampleFormat
  pos : Addr
  left : Nat
  carry : List Byte
deriving DecidableEq, Repr

/-! ## Caller unit (spec/05) -/

/-- Caller line states (spec/05, 5.1). -/
inductive LineState where
  | idle
  | screening
  | hold
  | onAir
  | clearing
  | outOfService
deriving DecidableEq, Repr

/-- One caller table entry with its line's last samples (R72, R73). `atStart` is the state at the start of the block in
progress, which the return stream follows (R88); `taken` says the line was taken to air in that block (R86). -/
structure Line where
  state : LineState
  tag : Option Word
  since : Time
  gain : Nat
  heldForAlert : Bool
  clearing : Nat
  oos : Bool
  remembered : Bool
  presence : Bool
  framingGood : Bool
  atStart : LineState
  taken : Bool
deriving DecidableEq, Repr

/-- The caller unit (R73, R75) and the hold gain in force (R74). -/
structure Callers where
  line : Four Line
  queue : List LineNo
  onAir : List LineNo
  holdGain : Nat
deriving DecidableEq, Repr

/-! ## Programme mixer, air switch, dead-air monitor (spec/06) -/

/-- The mixer (R91 to R94). `deckFrames` are the frames the decks took for the block, `input` what the outside brings
with the block, `output` the last block formed and `returns` the four return streams of that block. -/
structure Mixer where
  deckRamp : Two Ramp
  studio : Ramp
  fill : Ramp
  line : Four Ramp
  fillGain : Ramp
  deckFrames : Two (List Frame)
  input : BlockInput
  output : List Frame
  returns : Four (List Sample)
deriving DecidableEq, Repr

/-- Air sources (R95). -/
inductive AirSource where
  | alert
  | rescue
  | programme
  | failsafe
deriving DecidableEq, Repr

/-- A crossfade block: the departing source, whether it is still present, and whether the overlay of a return fade goes
with it (R96, R103). -/
structure Crossfade where
  source : AirSource
  present : Bool
  overlay : Bool
deriving DecidableEq, Repr

/-- An alert identity (spec/08, 8.3): the sender's eight bytes, the first in the low byte, and the message id. -/
structure Identity where
  sender : BitVec 64
  message : BitVec 16
deriving DecidableEq, Repr

/-- The flags of an air block (R98). -/
structure AirFlags where
  alert : Bool
  rescue : Bool
  delaySafe : Bool
  failsafe : Bool
deriving DecidableEq, Repr

/-- A completed air output block (R98, R164). -/
structure AirBlock where
  frames : List Frame
  time : Time
  flags : AirFlags
  ident : Option Identity
deriving DecidableEq, Repr

/-- The air switch (R95, R96, R103). -/
structure Air where
  now : AirSource
  before : AirSource
  crossfade : Option Crossfade
  fading : Bool
  fade : Ramp
  block : Option AirBlock
deriving DecidableEq, Repr

/-- Monitor states (spec/06, 6.4). -/
inductive MonitorState where
  | inactive
  | watching
  | dead
deriving DecidableEq, Repr

/-- The dead-air monitor and its reader (R99, R100, R102). `judged` is what the last boundary judged: silent, heard, or
neither. -/
structure Monitor where
  state : MonitorState
  silence : Nat
  recovery : Nat
  rescue : Bool
  judged : Option Bool
  pos : Nat
  live : Bool
deriving DecidableEq, Repr

/-! ## Delay line (spec/07) -/

/-- Delay line states (spec/07, 7.1). -/
inductive DelayState where
  | bypass
  | building
  | holding
  | squeezing
  | exiting
deriving DecidableEq, Repr

/-- The delay line (R106). `mem` is the delay memory, oldest frame first: its length is D. `out` is the programme block
given for the block in progress; `made` says the block has been processed. -/
structure Delay where
  state : DelayState
  acc : Nat
  mem : List Frame
  fadeIn : Bool
  pauseFlag : Bool
  pauseNow : Bool
  overflowRaised : Bool
  out : Option (List Frame)
  made : Bool
deriving DecidableEq, Repr

/-! ## Alerts (spec/08, spec/09) -/

/-- A frame handed to the alert table, with the station time of its last byte's block (R131). -/
structure HandedFrame where
  bytes : List Byte
  time : Time
deriving DecidableEq, Repr

/-- One alert decoder (R125). `inFrame` is IN_FRAME (else HUNT), `lineBreak` is line status BREAK (else NORMAL). -/
structure Decoder where
  inFrame : Bool
  lineBreak : Bool
  bytes : List Byte
  expected : Option Nat
  lastAt : Nat
  handed : List HandedFrame
deriving DecidableEq, Repr

/-- Alert entry states (spec/08, 8.5). -/
inductive EntryState where
  | free
  | recording
  | pending
  | queued
  | airing
  | aired
  | cancelled
  | expired
  | noted
deriving DecidableEq, Repr

/-- Resolution reasons (R135). -/
inductive Resolution where
  | test
  | unlistedSender
  | noArea
  | table
  | default
deriving DecidableEq, Repr

/-- Why a recording is marked to end (R139, R140). -/
inductive RecMark where
  | endFrame
  | lineBreak
deriving DecidableEq, Repr

/-- The flags of an alert entry (R136). -/
structure EntryFlags where
  truncated : Bool
  noAudio : Bool
  forwardOnCompletion : Bool
  deadline : Bool
  partialAir : Bool
  linkDown : Bool
deriving DecidableEq, Repr

/-- An alert table entry (R136). `started` says the recording has begun (R138), `mark` that it is marked to end, `fresh`
that no block boundary has come since it was admitted, marked, or entered PENDING (R138, R140, R148). -/
structure AlertEntry where
  state : EntryState
  ident : Identity
  originClass : Byte
  event : BitVec 24
  areas : List Nat
  issue : Word
  duration : Nat
  received : Time
  expiry : Time
  heardA : Bool
  heardB : Bool
  copies : Nat
  policy : Policy
  resolution : Resolution
  slot : Option SlotId
  recPort : PortId
  recLen : Nat
  flags : EntryFlags
  holdUntil : Option Time
  deadline : Option Time
  airedStart : Option Time
  airedEnd : Option Time
  started : Bool
  mark : Option RecMark
  fresh : Bool
deriving DecidableEq, Repr

/-- A FREE entry (R136). No rule gives its other fields a value: zeros, the policy MANUAL, the reason DEFAULT and the recording
port A (log entry 92; DESIGN CHOICE). -/
def AlertEntry.blank : AlertEntry where
  state := .free
  ident := ⟨0, 0⟩
  originClass := 0
  event := 0
  areas := []
  issue := 0
  duration := 0
  received := 0
  expiry := 0
  heardA := false
  heardB := false
  copies := 0
  policy := .manual
  resolution := .default
  slot := none
  recPort := .a
  recLen := 0
  flags := ⟨false, false, false, false, false, false⟩
  holdUntil := none
  deadline := none
  airedStart := none
  airedEnd := none
  started := false
  mark := none
  fresh := false

/-- A place in the air queue: the entry and its queueing time (R151). -/
structure Queued where
  entry : EntryNo
  time : Time
deriving DecidableEq, Repr

/-- The alert table, the recorder's two slots, the air queue, and the ALERT_TABLE_FULL condition (R137). -/
structure Alerts where
  entry : Eight AlertEntry
  slot : Two (List Sample)
  queue : List Queued
  full : Bool
deriving DecidableEq, Repr

/-- Airing states (spec/09, 9.1). -/
inductive AiringState where
  | idle
  | tone
  | message
  | fade
  | gap
deriving DecidableEq, Repr

/-- The airing (R146). `cancel` says a cancel was taken; `blockGiven` that the FADE or GAP block has been given. -/
structure Airing where
  state : AiringState
  entry : Option EntryNo
  ident : Identity
  tone : Nat
  message : Nat
  given : Nat
  answer : AlertPolicy
  gain : Ramp
  cancel : Bool
  blockGiven : Bool
deriving DecidableEq, Repr

/-! ## Transmitter link (spec/10) -/

/-- Link port states (spec/10, 10.3). -/
inductive PortState where
  | down
  | training
  | up
deriving DecidableEq, Repr

/-- Carrier states (R171). -/
inductive Carrier where
  | none
  | on
  | off
deriving DecidableEq, Repr

/-- A frame sent on a link port (R165, R168, R169). A keepalive has no frames. -/
structure LinkFrame where
  programme : Bool
  site : Byte
  seq : BitVec 16
  time : Time
  flags : AirFlags
  ident : Option Identity
  frames : List Frame
deriving DecidableEq, Repr

/-- One link port (spec/10, 10.1). `latest` is the latest good return as its 28 bytes; `goodNow` says a good return came
in this block. -/
structure Port where
  state : PortState
  training : Nat
  age : Nat
  latest : Option (List Byte)
  bad : Nat
  keepalive : Nat
  sent : Nat
  sending : Option LinkFrame
  goodNow : Bool
deriving DecidableEq, Repr

/-- The transmitter telemetry of the mirror (R171). -/
structure Telemetry where
  port : PortId
  flags : Byte
  forward : BitVec 16
  reflected : BitVec 16
  peak : Word
deriving DecidableEq, Repr

/-- The link unit (spec/10, 10.1). `downCond` is the LINK_DOWN condition (R173); `notUp` says the active port was not UP
at some point of the block (R167); `airFlags` are the flags of the latest air block (R168). -/
structure Link where
  port : Two Port
  active : PortId
  pendingSwitch : Option PortId
  hold : Option Time
  nextSeq : BitVec 16
  queue : List AirBlock
  discards : Nat
  slip : Option Time
  latency : Option Nat
  base : Time
  carrier : Carrier
  telemetry : Option Telemetry
  downCond : Bool
  notUp : Bool
  airFlags : AirFlags
deriving DecidableEq, Repr

/-! ## Fault unit and log writer (spec/11) -/

/-- The eighteen fault kinds (spec/11, 11.1). -/
inductive FaultKind where
  | cbRead
  | cbSection
  | recordBad
  | fetchError
  | fetchLate
  | writeError
  | logIndex
  | deadAir
  | clockLoss
  | linkDown
  | linkFailover
  | linkSlip
  | alertFrame
  | alertTableFull
  | alertDeadline
  | delayOverflow
  | lineFault
  | txCarrier
deriving DecidableEq, Repr

/-- The raising units (spec/12, 12.5). -/
inductive UnitId where
  | busInterface
  | surveyUnit
  | stationClock
  | studioLine
  | orderWalker
  | deckA
  | deckB
  | rescueStore
  | callerUnit
  | programmeMixer
  | delayLine
  | decoderA
  | decoderB
  | alertUnit
  | airSwitch
  | linkUnit
  | faultUnit
deriving DecidableEq, Repr

/-- The first-fault record (R180). -/
structure FirstFault where
  kind : FaultKind
  time : Time
  raisedBy : UnitId
  subject : BitVec 64
  message : BitVec 16
  snapshot : List Byte
deriving DecidableEq, Repr

/-- The fault unit (R177). -/
structure Faults where
  status : BitVec 18
  repeated : BitVec 18
  first : Option FirstFault
  multiple : Bool
deriving DecidableEq, Repr

/-- Log entry kinds (spec/12, 12.5). -/
inductive LogKind where
  | segmentStart
  | segmentEnd
  | request
  | gpi
  | callerState
  | delayState
  | dump
  | alertReceived
  | alertDuplicate
  | alertConflict
  | alertState
  | linkState
  | clockState
  | timeSet
  | fault
  | settingClamped
  | logGap
  | attach
deriving DecidableEq, Repr

/-- A log entry, less its sequence word (spec/12, 12.5). -/
structure LogEntry where
  kind : LogKind
  fromUnit : UnitId
  flags : BitVec 16
  time : Time
  detail2 : BitVec 16
  subject : BitVec 64
  detail0 : Word
  detail1 : Word
deriving DecidableEq, Repr

/-- The log write in flight (R183): the entry, its sequence value, its address, and whether it is a LOG_GAP. -/
structure LogWrite where
  entry : LogEntry
  seq : Word
  addr : Addr
  gap : Bool
  phase : WritePhase
deriving DecidableEq, Repr

/-- The notice write in flight (R186): its address, the word, and whether the urgent flag was set. -/
structure NoticeFlight where
  addr : Addr
  word : Word
  urgent : Bool
deriving DecidableEq, Repr

/-- The log writer with its notice state (R182, R186). `gapFailed` says a failed LOG_GAP waits for the next boundary
(R184); `noticed` that a notice was issued in this block; `considers` that the one which is due may be issued in it, as
found at the boundary or by a raising that set the urgent flag; `awaited` is the FAULT entry that set that flag. -/
structure LogWriter where
  head : Word
  consumed : Word
  valid : Bool
  dropped : Nat
  queue : List LogEntry
  writing : Option LogWrite
  gapFailed : Bool
  lastSent : Word
  holdoff : Nat
  urgent : Bool
  awaited : Option LogEntry
  notice : Option NoticeFlight
  noticed : Bool
  considers : Bool
deriving DecidableEq, Repr

/-! ## The whole part -/

/-- The state of the part, and the queue of commands that wait, first in, first out. -/
structure State where
  pending : List Instr
  time : Time
  pendingTime : Option Time
  bus : Bus
  survey : Survey
  sections : Sections
  mirror : Mirror
  clock : Clock
  gpi : Eight GpiLine
  walker : Walker
  decks : Decks
  fetch : Fetch
  rescue : Rescue
  callers : Callers
  mixer : Mixer
  air : Air
  monitor : Monitor
  delay : Delay
  decoder : Two Decoder
  alerts : Alerts
  airing : Airing
  link : Link
  faults : Faults
  log : LogWriter
deriving DecidableEq, Repr

/-- A block with no input: silence, every button line LOW (log entry 13). -/
def silentInput : BlockInput := ⟨[], Four.ofFn (fun _ => []), ⟨[], []⟩, 0⟩

/-- The survey unit after reset (R1, R2, R7, R10, R15). -/
def Survey.init : Survey where
  state := .standby
  cause := .none
  cameFrom := .standby
  cbBase := 0
  appliedEdition := 0
  lastSeen := 0
  applied := PerSec.all 0
  seen := PerSec.all 0
  marked := PerSec.all false
  failedReads := 0
  retryCount := 0
  phase := .idle
  pass := ⟨0, PerSec.all 0, false, false⟩
  passMade := false
  heldFill := 0
  refused := none
  counter := 0
  results := []
  resultsTried := false
  retrying := none

/-- A GPI line after reset (R29). -/
def GpiLine.init : GpiLine := ⟨false, 0, 0, true, false, false⟩

/-- A caller line after reset (R73, R74). -/
def Line.init : Line := ⟨.idle, none, 0, 32768, false, 0, false, false, false, true, .idle, false⟩

/-- The mixer after reset (R91). -/
def Mixer.init : Mixer where
  deckRamp := ⟨Ramp.settled 0, Ramp.settled 0⟩
  studio := Ramp.settled 0
  fill := Ramp.settled 0
  line := Four.ofFn (fun _ => Ramp.settled 0)
  fillGain := Ramp.settled 32768
  deckFrames := ⟨[], []⟩
  input := silentInput
  output := []
  returns := Four.ofFn (fun _ => [])

/-- A decoder after reset (R125). -/
def Decoder.init : Decoder := ⟨false, false, [], none, 0, []⟩

/-- A link port after reset (R161). -/
def Port.init : Port := ⟨.down, 0, 0, none, 0, 0, 0, none, false⟩

/-- The link unit after reset (R161). -/
def Link.init : Link where
  port := ⟨Port.init, Port.init⟩
  active := .a
  pendingSwitch := none
  hold := none
  nextSeq := 0
  queue := []
  discards := 0
  slip := none
  latency := none
  base := 0
  carrier := .none
  telemetry := none
  downCond := false
  notUp := true
  airFlags := ⟨false, false, false, true⟩

/-- The log writer after reset (R182, R186). -/
def LogWriter.init : LogWriter where
  head := 0
  consumed := 0
  valid := true
  dropped := 0
  queue := []
  writing := none
  gapFailed := false
  lastSent := 0
  holdoff := 255
  urgent := false
  awaited := none
  notice := none
  noticed := false
  considers := false

/-- The part right after power-on or FULL_RESET (R10 and the rules of each chapter it points to). -/
def State.reset : State where
  pending := []
  time := 0
  pendingTime := none
  bus := ⟨[], []⟩
  survey := Survey.init
  sections := Sections.default
  mirror := ⟨0, [], false, none, false⟩
  clock := ⟨.onInternal, 0, 0, none, 0, none, 0, false⟩
  gpi := Eight.ofFn (fun _ => GpiLine.init)
  walker := ⟨0, .noOrder, 0, 0, false, true, false, []⟩
  decks := ⟨⟨Deck.blank, Deck.blank⟩, false, false, false, none, 0, false, []⟩
  fetch := ⟨none⟩
  rescue := ⟨.empty, [], 0, false, 0, .s16leMono, 0, 0, []⟩
  callers := ⟨Four.ofFn (fun _ => Line.init), [], [], 8192⟩
  mixer := Mixer.init
  air := ⟨.failsafe, .failsafe, none, false, Ramp.settled 0, none⟩
  monitor := ⟨.inactive, 0, 0, false, none, 0, false⟩
  delay := ⟨.bypass, 0, [], false, false, false, false, none, false⟩
  decoder := ⟨Decoder.init, Decoder.init⟩
  alerts := ⟨Eight.ofFn (fun _ => AlertEntry.blank), ⟨[], []⟩, [], false⟩
  airing := ⟨.idle, none, ⟨0, 0⟩, 0, 0, 0, .cut, Ramp.settled 32768, false, false⟩
  link := Link.init
  faults := ⟨0, 0, none, false⟩
  log := LogWriter.init

end Sys2Proof.Machine
end

