-- ==== Sys2Proof/Machine/Ops.lean ====
section
/-! DEFINITION. The plain operations the meanings share: bytes, codes, station time, ramps, samples, checks. -/

namespace Sys2Proof.Machine

open Sys2Proof

/-- What a command answers. -/
abbrev Out := Host.Outcome State Fault Refusal

/-! ## Bytes (R187) -/

/-- The low n bytes of a number, least significant first. -/
def leBytes : Nat → Nat → List Byte
  | 0, _ => []
  | n + 1, v => BitVec.ofNat 8 v :: leBytes n (v / 256)

/-- The number that bytes spell, least significant first. -/
def leNat : List Byte → Nat
  | [] => 0
  | b :: bs => b.toNat + 256 * leNat bs

/-- The number that bytes spell, most significant first (alert receiver frames). -/
def beNat (bs : List Byte) : Nat := leNat bs.reverse

/-- n bytes of a structure from an offset. Missing bytes read as zero when taken as a number. -/
def slice (bs : List Byte) (off n : Nat) : List Byte := (bs.drop off).take n

/-- The little-endian field of n bytes at an offset. -/
def field (bs : List Byte) (off n : Nat) : Nat := leNat (slice bs off n)

/-- The 32-bit field at an offset. -/
def word (bs : List Byte) (off : Nat) : Word := BitVec.ofNat 32 (field bs off 4)

/-- The 64-bit field at an offset. -/
def addrAt (bs : List Byte) (off : Nat) : Addr := BitVec.ofNat 64 (field bs off 8)

/-- The first 16 bytes of a structure, zeros in place of missing bytes (R45, R130). -/
def snapshot16 (bs : List Byte) : List Byte := (bs ++ List.replicate 16 0).take 16

/-- A snapshot of zeros (R49). -/
def zeros16 : List Byte := List.replicate 16 0

/-- One bit of a number, as 0 or 1. -/
def bit (b : Bool) : Nat := if b then 1 else 0

/-- Bits packed from bit 0 upwards. -/
def packBits : List Bool → Nat
  | [] => 0
  | b :: bs => bit b + 2 * packBits bs

/-- Bytes packed from byte 0 upwards into a number. -/
def packBytes : List Nat → Nat
  | [] => 0
  | v :: vs => v % 256 + 256 * packBytes vs

/-- A count that stays at its largest value. -/
def satInc (top n : Nat) : Nat := if n < top then n + 1 else n

/-! ## Check codes (R189) -/

/-- One bit into a check register: shift left, and exclusive-OR the polynomial when the bit shifted out differs from the
data bit. -/
def crcBit {w : Nat} (poly reg : BitVec w) (b : Bool) : BitVec w :=
  if reg.msb != b then (reg <<< 1) ^^^ poly else reg <<< 1

/-- One byte, most significant bit first. -/
def crcByte {w : Nat} (poly reg : BitVec w) (b : Byte) : BitVec w :=
  [7, 6, 5, 4, 3, 2, 1, 0].foldl (fun r i => crcBit poly r (b.getLsbD i)) reg

/-- The check of an alert frame over the given bytes. -/
def crc16 (bs : List Byte) : BitVec 16 := bs.foldl (crcByte 0x1021) 0xFFFF

/-- The check of a link frame over the given bytes. -/
def crc32 (bs : List Byte) : BitVec 32 := ~~~(bs.foldl (crcByte 0x04C11DB7) 0xFFFFFFFF)

/-! ## Station time (R26) -/

/-- A station time has been reached. -/
def reached (now t : Time) : Bool := decide ((now - t).toNat < 2 ^ 47)

/-- The station time n frames after t. -/
def later (t : Time) (n : Nat) : Time := t + BitVec.ofNat 48 n

/-- The station time of the next block. -/
def nextTime (t : Time) : Time := later t Config.blockFrames

/-- The forward distance to t read as a signed 48-bit number (R137). -/
def signedDistance (now t : Time) : Int := (t - now).toInt

/-! ## Samples -/

/-- An integer saturated to the 24-bit range (spec/00, Numbers and arithmetic). -/
def saturate (v : Int) : Sample :=
  BitVec.ofInt 24 (if v < -8388608 then -8388608 else if 8388607 < v then 8388607 else v)

/-- The magnitude of a sample, with −8,388,608 taken as 8,388,608 (R100). -/
def magnitude (x : Sample) : Nat := x.toInt.natAbs

/-- Frame i of a list, silence past its end. -/
def frameAt (fs : List Frame) (i : Nat) : Frame := fs.getD i Frame.silence

/-- Sample i of a list, silence past its end. -/
def sampleAt (xs : List Sample) (i : Nat) : Sample := xs.getD i 0

/-- A block made frame by frame. -/
def makeBlock {α : Type} (f : Nat → α) : List α := (List.range Config.blockFrames).map f

/-- A block of silence. -/
def silentBlock : List Frame := makeBlock (fun _ => Frame.silence)

/-- Both channels of a frame through one function of integers. -/
def Frame.mapInt (f : Int → Int) (x : Frame) : Frame :=
  ⟨BitVec.ofInt 24 (f x.l.toInt), BitVec.ofInt 24 (f x.r.toInt)⟩

/-- A frame that carries one sample in both channels (spec/00, Mono audio). -/
def Frame.mono (x : Sample) : Frame := ⟨x, x⟩

/-! ## Gain ramps (R90) -/

/-- The gain one step nearer: (target − g) / m truncated toward zero, added to g. -/
def stepGain (g target m : Nat) : Nat :=
  ((g : Int) + ((target : Int) - (g : Int)).tdiv (m : Int)).toNat

/-- The step every ramp takes at a block boundary. -/
def Ramp.tick (r : Ramp) : Ramp :=
  if r.m = 0 then { r with blk := r.g, base := r.g, complete := true }
  else
    let g' := stepGain r.g r.target r.m
    { g := g', target := r.target, m := r.m - 1, blk := g', base := r.g, complete := false }

/-- A ramp started by an event during a block: its first step is made at the next boundary; of length 0 it is at its
target at once, and the block in progress keeps its gain. -/
def Ramp.start (r : Ramp) (target n : Nat) : Ramp :=
  if n = 0 then { r with g := target, target := target, m := 0, complete := true }
  else { r with target := target, m := n, complete := false }

/-- A ramp started by an event at a block boundary: its first step is made at that boundary, from the gain in force
before it. -/
def Ramp.startAt (r : Ramp) (target n : Nat) : Ramp :=
  if n = 0 then { r with g := target, target := target, m := 0, blk := target, base := target, complete := true }
  else
    let g' := stepGain r.base target n
    { r with g := g', target := target, m := n - 1, blk := g', complete := false }

/-- A ramp started at a boundary or during a block. -/
def Ramp.startWhen (boundary : Bool) (r : Ramp) (target n : Nat) : Ramp :=
  if boundary then r.startAt target n else r.start target n

/-! ## Codes (R188) -/

/-- The code of a side: A 0, B 1. -/
def sideCode : Side → Nat
  | .a => 0
  | .b => 1

def PartState.code : PartState → Nat
  | .standby => 0 | .attaching => 1 | .running => 2 | .detached => 3 | .halted => 4

def Cause.code : Cause → Nat
  | .none => 0 | .noBase => 1 | .badSignature => 2 | .badVersion => 3 | .readFailed => 4 | .hostHalt => 5

/-- The number of a section. -/
def Sec.index : Sec → Nat
  | .station => 1 | .anchor => 2 | .slots => 3 | .policy => 4 | .callers => 5 | .logs => 6

/-- Refused-section reasons are numbered from 1. -/
def RefuseReason.code : RefuseReason → Nat
  | .logSize => 1 | .alignment => 2 | .enumeration => 3 | .areaCode => 4 | .eventCode => 5 | .locked => 6

def ResultCode.code : ResultCode → Nat
  | .done => 0 | .unknownKind => 1 | .badArgument => 2 | .wrongState => 3 | .atLimit => 4 | .queueEmpty => 5
  | .notSafe => 6 | .notEngaged => 7 | .targetTooShort => 8 | .callersOnAir => 9 | .portDown => 10
  | .noSuchAlert => 11 | .nothingToSkip => 12

def SlotState.code : SlotState → Nat
  | .empty => 0 | .posted => 1 | .done => 2 | .refused => 3

/-- The slot state that an answer leaves (R16). -/
def ResultCode.slotState (c : ResultCode) : SlotState := if c = .done then .done else .refused

def ClockSource.code : ClockSource → Nat
  | .house => 1 | .link => 2

def ClockState.code : ClockState → Nat
  | .onInternal => 0 | .qualifying .house => 1 | .qualifying .link => 2
  | .onExternal .house => 3 | .onExternal .link => 4

def GpiFunction.code : GpiFunction → Nat
  | .none => 0 | .dump => 1 | .takeCaller => 2 | .dropCallers => 3 | .alertForward => 4 | .alertCancel => 5
  | .skip => 6 | .logOnly => 7

def GpiFunction.ofCode : Nat → Option GpiFunction
  | 0 => some .none | 1 => some .dump | 2 => some .takeCaller | 3 => some .dropCallers | 4 => some .alertForward
  | 5 => some .alertCancel | 6 => some .skip | 7 => some .logOnly | _ => none

def GpiSense.code : GpiSense → Nat
  | .rising => 0 | .falling => 1 | .both => 2 | .levelHigh => 3 | .levelLow => 4

def GpiSense.ofCode : Nat → Option GpiSense
  | 0 => some .rising | 1 => some .falling | 2 => some .both | 3 => some .levelHigh | 4 => some .levelLow | _ => none

def AlertPolicy.code : AlertPolicy → Nat
  | .pause => 0 | .cut => 1

def FaultClass.code : FaultClass → Nat
  | .advisory => 0 | .degraded => 1 | .onAir => 2

def FaultClass.ofCode : Nat → Option FaultClass
  | 0 => some .advisory | 1 => some .degraded | 2 => some .onAir | _ => none

def Policy.code : Policy → Nat
  | .auto => 0 | .manual => 1 | .logOnly => 2 | .ignore => 3

def Policy.ofCode : Nat → Option Policy
  | 0 => some .auto | 1 => some .manual | 2 => some .logOnly | 3 => some .ignore | _ => none

def Resolution.code : Resolution → Nat
  | .test => 0 | .unlistedSender => 1 | .noArea => 2 | .table => 3 | .default => 4

/-- Record state words use the values of R38. -/
def RecState.code : RecState → Nat
  | .draft => 0 | .ready => 1 | .cued => 2 | .playing => 3 | .aired => 4 | .skipped => 5 | .faulted => 6
  | .abandoned => 7

def RecState.ofCode : Nat → Option RecState
  | 0 => some .draft | 1 => some .ready | 2 => some .cued | 3 => some .playing | 4 => some .aired
  | 5 => some .skipped | 6 => some .faulted | 7 => some .abandoned | _ => none

def SegKind.ofCode : Nat → Option SegKind
  | 0 => some .audio | 1 => some .live | 2 => some .gap | 3 => some .mark | _ => none

def SampleFormat.ofCode : Nat → Option SampleFormat
  | 0 => some .s16leMono | 1 => some .s16leStereo | 2 => some .s24leStereo | 3 => some .s32leStereo
  | 4 => some .s32beStereo | _ => none

def EndReason.code : EndReason → Nat
  | .none => 0 | .complete => 1 | .skip => 2 | .hardStart => 3 | .fetchError => 4 | .badRecord => 5 | .halt => 6
  | .programmeReset => 7 | .stale => 8

def EndReason.ofCode : Nat → EndReason
  | 1 => .complete | 2 => .skip | 3 => .hardStart | 4 => .fetchError | 5 => .badRecord | 6 => .halt
  | 7 => .programmeReset | 8 => .stale | _ => .none

def WalkState.code : WalkState → Nat
  | .noOrder => 0 | .toExamine => 1 | .waitingDraft => 2 | .atEnd => 3 | .chainWait => 4

def DeckState.code : DeckState → Nat
  | .empty => 0 | .loading => 1 | .ready => 2 | .playing => 3 | .ending => 4 | .paused => 5

def StoreState.code : StoreState → Nat
  | .empty => 0 | .loading => 1 | .ready => 2

def LineState.code : LineState → Nat
  | .idle => 0 | .screening => 1 | .hold => 2 | .onAir => 3 | .clearing => 4 | .outOfService => 5

def DelayState.code : DelayState → Nat
  | .bypass => 0 | .building => 1 | .holding => 2 | .squeezing => 3 | .exiting => 4

def AiringState.code : AiringState → Nat
  | .idle => 0 | .tone => 1 | .message => 2 | .fade => 3 | .gap => 4

def MonitorState.code : MonitorState → Nat
  | .inactive => 0 | .watching => 1 | .dead => 2

def AirSource.code : AirSource → Nat
  | .alert => 0 | .rescue => 1 | .programme => 2 | .failsafe => 3

/-- In alert entry state fields FREE is 0 and the states of the alert table's state table follow from 1. -/
def EntryState.code : EntryState → Nat
  | .free => 0 | .recording => 1 | .pending => 2 | .queued => 3 | .airing => 4 | .aired => 5 | .cancelled => 6
  | .expired => 7 | .noted => 8

def PortState.code : PortState → Nat
  | .down => 0 | .training => 1 | .up => 2

def Carrier.code : Carrier → Nat
  | .none => 0 | .on => 1 | .off => 2

/-- Fault kinds are numbered 0 to 17 in the order of the fault table. -/
def FaultKind.code : FaultKind → Nat
  | .cbRead => 0 | .cbSection => 1 | .recordBad => 2 | .fetchError => 3 | .fetchLate => 4 | .writeError => 5
  | .logIndex => 6 | .deadAir => 7 | .clockLoss => 8 | .linkDown => 9 | .linkFailover => 10 | .linkSlip => 11
  | .alertFrame => 12 | .alertTableFull => 13 | .alertDeadline => 14 | .delayOverflow => 15 | .lineFault => 16
  | .txCarrier => 17

def UnitId.code : UnitId → Nat
  | .busInterface => 0 | .surveyUnit => 1 | .stationClock => 2 | .studioLine => 3 | .orderWalker => 4 | .deckA => 5
  | .deckB => 6 | .rescueStore => 7 | .callerUnit => 8 | .programmeMixer => 9 | .delayLine => 10 | .decoderA => 11
  | .decoderB => 12 | .alertUnit => 13 | .airSwitch => 14 | .linkUnit => 15 | .faultUnit => 16

def LogKind.code : LogKind → Nat
  | .segmentStart => 1 | .segmentEnd => 2 | .request => 3 | .gpi => 4 | .callerState => 5 | .delayState => 6
  | .dump => 7 | .alertReceived => 8 | .alertDuplicate => 9 | .alertConflict => 10 | .alertState => 11
  | .linkState => 12 | .clockState => 13 | .timeSet => 14 | .fault => 15 | .settingClamped => 16 | .logGap => 17
  | .attach => 18

/-- The unit that a deck raises as. -/
def deckUnit : DeckId → UnitId
  | .a => .deckA
  | .b => .deckB

/-- The unit that an alert decoder raises as. -/
def decoderUnit : PortId → UnitId
  | .a => .decoderA
  | .b => .decoderB

/-! ## Bytes of the structures the part writes (spec/12) -/

/-- Outcome flags, one bit each in the listed order. -/
def OutcomeFlags.toNat (f : OutcomeFlags) : Nat :=
  packBits [f.underrun, f.late, f.truncated, f.fetchError, f.badRecord, f.byRequest, f.pausedForAlert, f.noFill]

/-- The part half, bytes 0x40 to 0x7F of a record (spec/12, 12.4). -/
def PartHalf.bytes (p : PartHalf) : List Byte :=
  leBytes 4 p.flags.toNat ++ leBytes 1 p.reason.code ++ [p.letter] ++ leBytes 2 0 ++ leBytes 8 p.cued.toNat ++
    leBytes 8 p.airedStart.toNat ++ leBytes 8 p.airedEnd.toNat ++ leBytes 4 p.framesAired ++
    leBytes 4 p.underrunFrames ++ leBytes 24 0

/-- A log entry with its sequence word (spec/12, 12.5). -/
def LogEntry.bytes (seq : Word) (e : LogEntry) : List Byte :=
  leBytes 4 seq.toNat ++ leBytes 1 e.kind.code ++ leBytes 1 e.fromUnit.code ++ leBytes 2 e.flags.toNat ++
    leBytes 6 e.time.toNat ++ leBytes 2 e.detail2.toNat ++ leBytes 8 e.subject.toNat ++ leBytes 4 e.detail0.toNat ++
    leBytes 4 e.detail1.toNat

/-- The flags of programme frames and keepalives (R188). -/
def AirFlags.toNat (f : AirFlags) : Nat := packBits [f.alert, f.rescue, f.delaySafe, f.failsafe]

/-- Link frames carry their audio as S24LE_STEREO (spec/12, 12.8). -/
def Frame.bytes (x : Frame) : List Byte := leBytes 3 x.l.toNat ++ leBytes 3 x.r.toNat

/-- A programme frame or keepalive less its check (spec/12, 12.7). -/
def LinkFrame.body (f : LinkFrame) : List Byte :=
  let head := leBytes 1 (if f.programme then 0x50 else 0x4B) ++ [f.site] ++ leBytes 2 f.seq.toNat ++
    leBytes 6 f.time.toNat ++ leBytes 1 f.flags.toNat ++ leBytes 1 0
  if f.programme then
    let ident := f.ident.getD ⟨0, 0⟩
    head ++ leBytes 8 ident.sender.toNat ++ leBytes 2 ident.message.toNat ++ leBytes 2 0 ++
      f.frames.flatMap Frame.bytes
  else head

/-- A programme frame or keepalive as sent, its CRC-32 last (R189). -/
def LinkFrame.bytes (f : LinkFrame) : List Byte := f.body ++ leBytes 4 (crc32 f.body).toNat

end Sys2Proof.Machine
end

