-- ==== Sys2Proof/Machine/Operands.lean ====
section
/-! DEFINITION. Reading what the outside brings: headers, sections, records, request slots, samples, return frames and
alert frames (spec/12). -/

namespace Sys2Proof.Machine

open Sys2Proof

/-! ## Header (R4, R7) -/

/-- The header read good: signature and version are right. -/
def signatureRight (bs : List Byte) : Bool := field bs 0 4 == Config.signature
def versionRight (bs : List Byte) : Bool := field bs 4 4 == Config.layoutVersion

/-- The header edition and the edition table's words for sections 1 to 6. -/
def headerEdition (bs : List Byte) : Word := word bs 8
def editionTable (bs : List Byte) : PerSec Word :=
  ⟨word bs 0x14, word bs 0x18, word bs 0x1C, word bs 0x20, word bs 0x24, word bs 0x28⟩

/-! ## Sections (R13) -/

/-- A clamped field: its offset in the section, the value written and the value used. -/
structure Clamp where
  off : Nat
  written : Word
  used : Word
deriving DecidableEq, Repr

/-- A numeric setting taken at the nearer end of its range when it lies outside. -/
def clamped (v lo hi : Nat) : Nat := if v < lo then lo else if hi < v then hi else v

/-- The clamp to log for a numeric field, if any. -/
def clampOf (bs : List Byte) (off lo hi : Nat) : List Clamp :=
  let v := field bs off 4
  if clamped v lo hi = v then [] else [⟨off, BitVec.ofNat 32 v, BitVec.ofNat 32 (clamped v lo hi)⟩]

/-- A gain above 32,768 is taken as 32,768 (spec/00, Audio). -/
def gainOf (v : Nat) : Nat := min v Config.unity

/-- What a section read gives: the new contents with the fields clamped, or the reason it is refused. -/
inductive Parsed (α : Type) where
  | ok (value : α) (clamps : List Clamp)
  | refused (reason : RefuseReason)
deriving DecidableEq, Repr

/-- The clock trim is signed: −128 … 127 (R18). -/
def trimOf (v : Word) : Int := if v.toInt < -128 then -128 else if 127 < v.toInt then 127 else v.toInt

/-- Nothing but 0 and 1 is defined. -/
def twoValued (v : Nat) : Bool := v < 2

/-- The GPI setting at one line of section 1, if its codes are defined (R29). -/
def gpiSetting (bs : List Byte) (i : Fin 8) : Option GpiSetting := do
  let f ← GpiFunction.ofCode (field bs (0x70 + 2 * i.val) 1)
  let s ← GpiSense.ofCode (field bs (0x71 + 2 * i.val) 1)
  pure ⟨f, s⟩

/-- The numeric fields of section 1 with their ranges (R18, R56, R99, R107, R161, R186). -/
def stationRanges : List (Nat × Nat × Nat) :=
  [(0x08, 0, 255), (0x1C, 1024, 15360), (0x20, 0, 1920000), (0x24, 1, 50), (0x28, 48000, 480000),
   (0x30, 1, 8388607), (0x34, 200, 12000), (0x3C, 0, 255), (0x40, 2, 200), (0x4C, 200, 60000)]

/-- The clamp of the trim field, if any. -/
def trimClamp (bs : List Byte) : List Clamp :=
  let v := word bs 0x0C
  if trimOf v = v.toInt then [] else [⟨0x0C, v, BitVec.ofInt 32 (trimOf v)⟩]

/-- The clamps of section 1, in order of their offsets. -/
def stationClamps (bs : List Byte) : List Clamp :=
  clampOf bs 0x08 0 255 ++ trimClamp bs ++
    (stationRanges.drop 1).flatMap (fun r => clampOf bs r.1 r.2.1 r.2.2)

/-- Every enumerated field of section 1 holds a defined value. -/
def stationEnumsRight (bs : List Byte) : Bool :=
  [0x10, 0x2C, 0x38, 0x44, 0x48].all (fun off => twoValued (field bs off 4)) &&
  (List.range 18).all (fun n => (FaultClass.ofCode (field bs (0x54 + n) 1)).isSome) &&
  places8.all (fun i => (gpiSetting bs i).isSome)

/-- Section 1 (spec/12, Station settings). -/
def stationOf (bs : List Byte) : Station where
  noticeAddr := addrAt bs 0x00
  noticeHoldoff := clamped (field bs 0x08 4) 0 255
  trim := trimOf (word bs 0x0C)
  autoReturn := field bs 0x10 4 == 1
  studioGain := gainOf (field bs 0x14 4)
  fillGain := gainOf (field bs 0x18 4)
  fetchMark := clamped (field bs 0x1C 4) 1024 15360
  target := clamped (field bs 0x20 4) 0 1920000
  rate := clamped (field bs 0x24 4) 1 50
  dumpSize := clamped (field bs 0x28 4) 48000 480000
  policy := if field bs 0x2C 4 = 1 then .cut else .pause
  silenceThreshold := clamped (field bs 0x30 4) 1 8388607
  silenceTime := clamped (field bs 0x34 4) 200 12000
  rescueEnabled := field bs 0x38 4 == 1
  siteAddress := clamped (field bs 0x3C 4) 0 255
  returnTimeout := clamped (field bs 0x40 4) 2 200
  preferred := if field bs 0x44 4 = 1 then .b else .a
  autoRevert := field bs 0x48 4 == 1
  revertHold := clamped (field bs 0x4C 4) 200 60000
  mask := BitVec.ofNat 18 (field bs 0x50 4)
  classes := (List.range 18).map (fun n => (FaultClass.ofCode (field bs (0x54 + n) 1)).getD .advisory)
  gpi := Eight.ofFn (fun i => (gpiSetting bs i).getD ⟨.none, .rising⟩)

/-- Section 1 checked: ALIGNMENT of the notice address, then ENUMERATION (R13). -/
def parseStation (bs : List Byte) : Parsed Station :=
  if field bs 0x00 8 % 4 ≠ 0 then .refused .alignment
  else if !stationEnumsRight bs then .refused .enumeration
  else .ok (stationOf bs) (stationClamps bs)

/-- Section 2 checked: the addresses are 0 or aligned to 128 bytes (R13). -/
def parseAnchor (bs : List Byte) : Parsed Anchor :=
  if field bs 0x00 8 % 128 ≠ 0 ∨ field bs 0x08 8 % 128 ≠ 0 then .refused .alignment
  else .ok ⟨addrAt bs 0x00, addrAt bs 0x08⟩ []

/-- Three ASCII capitals in the bytes of an event code (R13, R131). -/
def eventCodeRight (bs : List Byte) : Bool :=
  bs.length == 3 && bs.all (fun b => decide (0x41 ≤ b.toNat) && decide (b.toNat ≤ 0x5A))

/-- The manual deadline: 0, or 60 … 3,600 seconds (R146). -/
def manualDeadlineOf (v : Nat) : Nat := if v = 0 then 0 else clamped v 60 3600

/-- The clamps of section 4 (R146). -/
def policyClamps (bs : List Byte) : List Clamp :=
  let d := field bs 0x14 4
  clampOf bs 0x10 0 600 ++
    (if manualDeadlineOf d = d then [] else [⟨0x14, BitVec.ofNat 32 d, BitVec.ofNat 32 (manualDeadlineOf d)⟩]) ++
    clampOf bs 0x18 0 25

/-- The numbers of entries that section 4 counts, each within its table. -/
def localeCount (bs : List Byte) : Nat := min (field bs 0x20 4) 24
def authorityCount (bs : List Byte) : Nat := min (field bs 0x24 4) 8
def policyCount (bs : List Byte) : Nat := min (field bs 0x28 4) 32

/-- Section 4 (spec/12, Locale and alert policy). Entries beyond a count are disregarded. -/
def alertSettingsOf (bs : List Byte) : AlertSettings where
  lock := (word bs 0x00).getLsbD 0
  airTests := (word bs 0x00).getLsbD 1
  defaultPolicy := (Policy.ofCode (field bs 0x04 4)).getD .manual
  forwardHold := clamped (field bs 0x10 4) 0 600
  manualDeadline := manualDeadlineOf (field bs 0x14 4)
  attention := clamped (field bs 0x18 4) 0 25
  gain := gainOf (field bs 0x1C 4)
  locale := (List.range (localeCount bs)).map (fun i => field bs (0x30 + 4 * i) 4)
  authority := (List.range (authorityCount bs)).map (fun i => BitVec.ofNat 64 (field bs (0x90 + 8 * i) 8))
  events := (List.range (policyCount bs)).map (fun i =>
    ⟨BitVec.ofNat 24 (field bs (0xD0 + 4 * i) 3), (Policy.ofCode (field bs (0xD3 + 4 * i) 1)).getD .manual⟩)

/-- Section 4 checked: LOCKED whatever its contents (R14; log entry 50), then ENUMERATION, AREA_CODE, EVENT_CODE in the
order of R13's table. -/
def parsePolicy (locked : Bool) (bs : List Byte) : Parsed AlertSettings :=
  if locked then .refused .locked
  else if (Policy.ofCode (field bs 0x04 4)).isNone ||
      (List.range (policyCount bs)).any (fun i => (Policy.ofCode (field bs (0xD3 + 4 * i) 1)).isNone) then
    .refused .enumeration
  else if decide (24 < field bs 0x20 4) ||
      (List.range (localeCount bs)).any (fun i => decide (999999 < field bs (0x30 + 4 * i) 4)) then
    .refused .areaCode
  else if decide (32 < field bs 0x28 4) || decide (8 < field bs 0x24 4) ||
      (List.range (policyCount bs)).any (fun i => !eventCodeRight (slice bs (0xD0 + 4 * i) 3)) then
    .refused .eventCode
  else .ok (alertSettingsOf bs) (policyClamps bs)

/-- Section 5 (spec/12, Caller settings). -/
def callerSettingsOf (bs : List Byte) : CallerSettings where
  limit := clamped (field bs 0x00 4) 1 3
  guardSet := field bs 0x04 4 == 1
  holdGain := gainOf (field bs 0x08 4)
  lines := Four.ofFn (fun i =>
    ⟨gainOf (field bs (0x10 + 4 * i.val) 4),
     if field bs (0x0C + i.val) 1 = 1 then some (word bs (0x20 + 4 * i.val)) else none⟩)

/-- Section 5 checked: ENUMERATION of the caller guard and the tag present bytes (R13, R74). -/
def parseCallers (bs : List Byte) : Parsed CallerSettings :=
  if !twoValued (field bs 0x04 4) || lines4.any (fun i => !twoValued (field bs (0x0C + i.val) 1)) then
    .refused .enumeration
  else .ok (callerSettingsOf bs) (clampOf bs 0x00 1 3)

/-- The log sizes: a power of two in 64 … 4,096 (R13). -/
def logSizes : List Nat := [64, 128, 256, 512, 1024, 2048, 4096]

/-- Section 6 checked: LOG_SIZE, then ALIGNMENT of the log base (R13). -/
def parseLogs (bs : List Byte) : Parsed LogSettings :=
  if !logSizes.contains (field bs 0x08 4) then .refused .logSize
  else if field bs 0x00 8 % 32 ≠ 0 then .refused .alignment
  else .ok ⟨addrAt bs 0x00, field bs 0x08 4⟩ []

/-! ## Request slots (R15) -/

/-- A request as taken: slot, sequence, kind and the three argument words. -/
structure Request where
  slot : SlotNo
  seq : Word
  kind : Word
  w0 : Word
  w1 : Word
  w2 : Word
deriving DecidableEq, Repr

/-- The state word of a slot is POSTED (spec/12, Request slot). -/
def slotPosted (bs : List Byte) (i : SlotNo) : Bool := field bs (32 * i.val) 4 == SlotState.posted.code

/-- The request in a slot. -/
def requestAt (bs : List Byte) (i : SlotNo) : Request :=
  let o := 32 * i.val
  ⟨i, word bs (o + 4), word bs (o + 8), word bs (o + 12), word bs (o + 16), word bs (o + 20)⟩

/-! ## Segment records (R36, R41) -/

/-- The host half of a record as read; the next field has its low 7 bits taken as zero. -/
def hostHalfOf (bs : List Byte) : HostHalf where
  next := BitVec.ofNat 64 (field bs 0x00 8 / 128 * 128)
  state := word bs 0x08
  kind := BitVec.ofNat 8 (field bs 0x0C 1)
  format := BitVec.ofNat 8 (field bs 0x0D 1)
  hardPresent := (BitVec.ofNat 8 (field bs 0x0E 1)).getLsbD 0
  soft := (BitVec.ofNat 8 (field bs 0x0E 1)).getLsbD 1
  buffer := addrAt bs 0x10
  length := field bs 0x18 4
  cueIn := field bs 0x1C 4
  segue := field bs 0x20 4
  fadeIn := field bs 0x24 2
  fadeOut := field bs 0x26 2
  gain := field bs 0x28 4
  tag := word bs 0x2C
  hardTime := BitVec.ofNat 48 (field bs 0x30 8)
  duration := field bs 0x38 4

/-- The outcome flags of a part half as read. -/
def outcomeFlagsOf (v : Nat) : OutcomeFlags :=
  let b := BitVec.ofNat 8 v
  ⟨b.getLsbD 0, b.getLsbD 1, b.getLsbD 2, b.getLsbD 3, b.getLsbD 4, b.getLsbD 5, b.getLsbD 6, b.getLsbD 7⟩

/-- The part half of a record as read (R46). -/
def partHalfOf (bs : List Byte) : PartHalf where
  flags := outcomeFlagsOf (field bs 0x40 4)
  reason := EndReason.ofCode (field bs 0x44 1)
  letter := BitVec.ofNat 8 (field bs 0x45 1)
  cued := BitVec.ofNat 48 (field bs 0x48 8)
  airedStart := BitVec.ofNat 48 (field bs 0x50 8)
  airedEnd := BitVec.ofNat 48 (field bs 0x58 8)
  framesAired := field bs 0x60 4
  underrunFrames := field bs 0x64 4

/-- Bytes per frame and the buffer alignment of each format (R41, R58). -/
def SampleFormat.frameBytes : SampleFormat → Nat
  | .s16leMono => 2 | .s16leStereo => 4 | .s24leStereo => 6 | .s32leStereo => 8 | .s32beStereo => 8

def SampleFormat.alignment : SampleFormat → Nat
  | .s16leMono => 2 | .s16leStereo => 2 | .s24leStereo => 1 | .s32leStereo => 4 | .s32beStereo => 4

/-- The reasons of RECORD_BAD (R45, R48, R49), coded from 0 (R188; log entry 14). -/
inductive RecordReason where
  | kind
  | format
  | alignment
  | length
  | cueIn
  | stateValue
  | chainLimit
  | readFailed
deriving DecidableEq, Repr

def RecordReason.code : RecordReason → Nat
  | .kind => 0 | .format => 1 | .alignment => 2 | .length => 3 | .cueIn => 4 | .stateValue => 5 | .chainLimit => 6
  | .readFailed => 7

/-- The validation of a READY record, its checks in the order of R41's table: the kind and format, or the first check
that fails. -/
def validate (h : HostHalf) : Except RecordReason (SegKind × SampleFormat) :=
  match SegKind.ofCode h.kind.toNat with
  | none => .error .kind
  | some .audio =>
    match SampleFormat.ofCode h.format.toNat with
    | none => .error .format
    | some f =>
      if h.buffer.toNat % f.alignment ≠ 0 then .error .alignment
      else if h.length = 0 then .error .length
      else if h.length ≤ h.cueIn then .error .cueIn
      else .ok (.audio, f)
  | some k => .ok (k, .s16leMono)

/-- The fields clamped in the cue-time copy (R41). -/
def cueCopy (k : SegKind) (h : HostHalf) : HostHalf :=
  { h with
    segue := if k = .audio then min h.segue (h.length - h.cueIn) else h.segue
    fadeIn := min h.fadeIn 2000
    fadeOut := min h.fadeOut 2000
    gain := gainOf h.gain }

/-! ## Samples (R58) -/

/-- A signed 16-bit value times 256. -/
def sample16 (bs : List Byte) : Sample := BitVec.ofNat 24 (leNat bs * 256)
/-- A signed 24-bit value. -/
def sample24 (bs : List Byte) : Sample := BitVec.ofNat 24 (leNat bs)
/-- A signed 32-bit value shifted right arithmetically by 8. -/
def sample32 (bs : List Byte) : Sample := BitVec.ofNat 24 (leNat bs / 256)

/-- One frame of a format from its bytes. -/
def frameOf (f : SampleFormat) (bs : List Byte) : Frame :=
  match f with
  | .s16leMono => Frame.mono (sample16 (slice bs 0 2))
  | .s16leStereo => ⟨sample16 (slice bs 0 2), sample16 (slice bs 2 2)⟩
  | .s24leStereo => ⟨sample24 (slice bs 0 3), sample24 (slice bs 3 3)⟩
  | .s32leStereo => ⟨sample32 (slice bs 0 4), sample32 (slice bs 4 4)⟩
  | .s32beStereo => ⟨sample32 (slice bs 0 4).reverse, sample32 (slice bs 4 4).reverse⟩

/-- The whole frames in a run of bytes, in order. -/
def framesOf (f : SampleFormat) (bs : List Byte) : List Frame :=
  (List.range (bs.length / f.frameBytes)).map (fun i => frameOf f (slice bs (i * f.frameBytes) f.frameBytes))

/-- The trailing bytes of a frame cut by the end of a run. -/
def carryOf (f : SampleFormat) (bs : List Byte) : List Byte := bs.drop (bs.length / f.frameBytes * f.frameBytes)

/-- A read's data brought to the length that was asked for (log entry 9). -/
def fitTo (n : Nat) (bs : List Byte) : List Byte := (bs ++ List.replicate n 0).take n

/-! ## Return frames (R162, R189) -/

/-- A frame is a return frame with a matching check. -/
def returnFrameRight (bs : List Byte) : Bool :=
  bs.length == 28 && field bs 0 1 == 0x52 && field bs 24 4 == (crc32 (bs.take 24)).toNat

def returnSite (bs : List Byte) : Nat := field bs 1 1
def returnAck (bs : List Byte) : BitVec 16 := BitVec.ofNat 16 (field bs 2 2)
/-- A room above 64 is taken as 64. -/
def returnRoom (bs : List Byte) : Nat := min (field bs 4 1) 64
def returnCarrierOn (bs : List Byte) : Bool := (BitVec.ofNat 8 (field bs 5 1)).getLsbD 0
def returnEcho (bs : List Byte) : Time := BitVec.ofNat 48 (field bs 14 6)
def returnMarks (bs : List Byte) : Word := word bs 20
def returnTelemetry (port : PortId) (bs : List Byte) : Telemetry :=
  ⟨port, BitVec.ofNat 8 (field bs 5 1) &&& 0x0F, BitVec.ofNat 16 (field bs 6 2), BitVec.ofNat 16 (field bs 8 2),
   word bs 10⟩

/-- The good return kept as its 28 bytes, with a room above 64 taken as 64 (R162). -/
def keptReturn (bs : List Byte) : List Byte := bs.set 4 (BitVec.ofNat 8 (returnRoom bs))

/-! ## Alert frames (R126, R127, R131) -/

def alertTypeHeader : Byte := 0x48
def alertTypeEnd : Byte := 0x45

/-- The check of a complete alert frame matches: over every byte from the type up to the last byte before it. -/
def alertCheckRight (bs : List Byte) : Bool :=
  crc16 (slice bs 1 (bs.length - 3)) == BitVec.ofNat 16 (beNat (slice bs (bs.length - 2) 2))

/-- A big-endian field of an alert frame. -/
def alertField (bs : List Byte) (off n : Nat) : Nat := beNat (slice bs off n)

/-- The frame is a header (else an end frame). -/
def isAlertHeader (bs : List Byte) : Bool := bs.getD 1 0 == alertTypeHeader

/-- Bytes of characters taken in order, the first in the low byte (senders and event codes). -/
def headerClass (bs : List Byte) : Byte := bs.getD 2 0
def headerEvent (bs : List Byte) : BitVec 24 := BitVec.ofNat 24 (field bs 3 3)
def headerIdentity (bs : List Byte) : Identity :=
  ⟨BitVec.ofNat 64 (field bs 6 8), BitVec.ofNat 16 (alertField bs 14 2)⟩
def headerIssue (bs : List Byte) : Word := BitVec.ofNat 32 (alertField bs 16 4)
def headerDuration (bs : List Byte) : Nat := alertField bs 20 2
def headerAreaCount (bs : List Byte) : Nat := alertField bs 22 1
def headerAreas (bs : List Byte) : List Nat :=
  (List.range (headerAreaCount bs)).map (fun i => alertField bs (23 + 3 * i) 3)

/-- The identity of an end frame. -/
def endIdentity (bs : List Byte) : Identity :=
  ⟨BitVec.ofNat 64 (field bs 2 8), BitVec.ofNat 16 (alertField bs 10 2)⟩

/-- The reasons of ALERT_FRAME (R130, R131), coded from 0 (R188; log entry 14). -/
inductive AlertReason where
  | type
  | crc
  | idle
  | framing
  | lineBreak
  | originClass
  | eventCode
  | duration
  | areaCount
  | areaCode
deriving DecidableEq, Repr

def AlertReason.code : AlertReason → Nat
  | .type => 0 | .crc => 1 | .idle => 2 | .framing => 3 | .lineBreak => 4 | .originClass => 5 | .eventCode => 6
  | .duration => 7 | .areaCount => 8 | .areaCode => 9

/-- The origin classes A, C, W, T. -/
def originClasses : List Byte := [0x41, 0x43, 0x57, 0x54]

/-- The content checks of a header, in the order of R131's table. -/
def headerFault (bs : List Byte) : Option AlertReason :=
  if !originClasses.contains (headerClass bs) then some .originClass
  else if !eventCodeRight (slice bs 3 3) then some .eventCode
  else if headerDuration bs < 15 ∨ 1440 < headerDuration bs ∨ headerDuration bs % 15 ≠ 0 then some .duration
  else if headerAreaCount bs < 1 ∨ 12 < headerAreaCount bs then some .areaCount
  else if (headerAreas bs).any (fun a => decide (999999 < a)) then some .areaCode
  else none

end Sys2Proof.Machine
end

