-- ==== Sys2Proof/Machine/Flags.lean ====
section
/-! DEFINITION. The conditions the spec derives from state: SAFE, demand, the tallies, presence of sources, windows. -/

namespace Sys2Proof.Machine

open Sys2Proof

/-! ## Part state -/

def State.running (s : State) : Bool := s.survey.state == .running

/-- RUNNING or DETACHED: the programme is the rank-3 source and the delay line runs (R92, R95, R109). A re-attach is made in
DETACHED, so it keeps PROGRAMME and brings no crossfade: R96 says that a return to RUNNING changes nothing at the switch,
and also that the end of a re-attach brings a crossfade from FAILSAFE (log entry 64; DESIGN CHOICE). -/
def State.onProgramme (s : State) : Bool := s.survey.state == .running || s.survey.state == .detached

/-! ## Delay line (R106 to R108) -/

/-- The actual delay: the frames the memory holds. -/
def Delay.depth (d : Delay) : Nat := d.mem.length

/-- The effective dump size E: the smaller of the dump size and T. -/
def State.effDump (s : State) : Nat := min s.sections.station.dumpSize s.sections.station.target

/-- BUILDING, HOLDING or SQUEEZING. -/
def DelayState.engaged : DelayState → Bool
  | .building | .holding | .squeezing => true
  | .bypass | .exiting => false

/-- SAFE (R108). -/
def State.safe (s : State) : Bool := s.delay.state.engaged && decide (s.effDump ≤ s.delay.depth)

/-! ## Decks (spec/04) -/

def State.deck (s : State) (d : DeckId) : Deck := s.decks.deck.get d

/-- PLAYING, ENDING or PAUSED (R54). -/
def DeckState.sounding : DeckState → Bool
  | .playing | .ending | .paused => true
  | .empty | .loading | .ready => false

/-- LOADING or READY: the deck holds the cued record (R54). -/
def DeckState.cued : DeckState → Bool
  | .loading | .ready => true
  | .empty | .playing | .ending | .paused => false

/-- Frames left to play (R59). -/
def Deck.left (d : Deck) : Nat := d.copy.length - d.copy.cueIn - d.played

/-- A LIVE or GAP has completed its duration (R62). -/
def Deck.durationDone (d : Deck) : Bool :=
  (d.kind == .live || d.kind == .gap) && 0 < d.copy.duration && d.copy.duration ≤ d.sounded * Config.blockFrames

/-- A deck holds a held write, one that is being attempted among them (R39, R43). -/
def Deck.holdsWrite (d : Deck) : Bool := d.writes.any (fun w => w.kept)

/-- A deck is EMPTY and free to be cued into (R43). -/
def Deck.open (d : Deck) : Bool := d.state == .empty && !d.holdsWrite

/-- The deck the walker would cue into, when demand holds (R43). -/
def State.demandDeck (s : State) : Option DeckId :=
  if s.decks.deck.a.state.cued || s.decks.deck.b.state.cued then none
  else if s.decks.deck.a.open then some .a
  else if s.decks.deck.b.open then some .b
  else none

/-- Demand (R43). -/
def State.demand (s : State) : Bool := s.demandDeck.isSome

/-- A deck holds a record, held and unfinished writes included (R46). -/
def Deck.holds (d : Deck) (a : Addr) : Bool :=
  (d.state != .empty && d.addr == a) || d.writes.any (fun w => w.addr == a)

/-- Some deck holds the record at an address (R46). -/
def State.heldByDeck (s : State) (a : Addr) : Bool := s.decks.deck.a.holds a || s.decks.deck.b.holds a

/-- The natural start of a deck's cued record has been reached (R59). -/
def State.naturalStart (s : State) (d : DeckId) : Bool :=
  let o := s.deck d.other
  !o.state.sounding || o.state == .ending ||
    (o.state == .playing &&
      ((o.kind == .audio && o.left ≤ o.copy.segue) || o.durationDone))

/-- No hard start, or a SOFT one whose time has been reached: the record starts by its natural start (R59, R61). -/
def State.softReady (s : State) (d : DeckId) : Bool :=
  let c := (s.deck d).copy
  !c.hardPresent || (c.soft && reached s.time c.hardTime)

/-- The record waits on a WAIT hard start (R61). -/
def Deck.waits (d : Deck) : Bool := d.copy.hardPresent && !d.copy.soft

/-- No deck sounds and no start is owed (R69). -/
def State.quiet (s : State) : Bool :=
  !(s.decks.deck.a.state.sounding || s.decks.deck.b.state.sounding || s.decks.deck.a.owed || s.decks.deck.b.owed)

/-- The studio input's target: the record gain while a LIVE segment sounds, else the studio gain (R62, R67, R91). -/
def State.studioTarget (s : State) : Nat :=
  let liveGain (d : DeckId) : Option Nat :=
    let k := s.deck d
    if k.state = .playing ∧ k.kind = .live then some k.copy.gain else none
  let newest := s.decks.lastStarted.getD .a
  ((liveGain newest).orElse (fun _ => liveGain newest.other)).getD s.sections.station.studioGain

/-! ## Studio lines (R29, R31, R32) -/

/-- The active level of a line under its setting: `true` for HIGH. BOTH with LOG_ONLY is active either way. -/
def GpiSetting.activeLevel (g : GpiSetting) (level : Bool) : Bool :=
  match g.sense with
  | .rising | .levelHigh => level
  | .falling | .levelLow => !level
  | .both => if g.function = .logOnly then true else !level

/-- BOTH with LOG_ONLY is always armed. -/
def GpiSetting.alwaysArmed (g : GpiSetting) : Bool := g.sense == .both && g.function == .logOnly

/-- A line is armed when its accepted level is not its active level (R29). -/
def GpiSetting.armedAt (g : GpiSetting) (level : Bool) : Bool := g.alwaysArmed || !g.activeLevel level

/-- A level sense (R32). -/
def GpiSense.isLevel : GpiSense → Bool
  | .levelHigh | .levelLow => true
  | .rising | .falling | .both => false

/-! ## Callers (R80, R81) -/

/-- SCREENING, HOLD and ON_AIR are the call states. -/
def LineState.call : LineState → Bool
  | .screening | .hold | .onAir => true
  | .idle | .clearing | .outOfService => false

/-- Entry to air is barred by the caller guard (R85). -/
def State.guardBars (s : State) : Bool := s.sections.callers.guardSet && !s.safe

/-- The conference limit in force is reached (R84). -/
def State.atLimit (s : State) : Bool := decide (s.sections.callers.limit ≤ s.callers.onAir.length)

/-! ## Alerts -/

/-- AIRED, CANCELLED, EXPIRED and NOTED are final (spec/08, 8.5). -/
def EntryState.final : EntryState → Bool
  | .aired | .cancelled | .expired | .noted => true
  | .free | .recording | .pending | .queued | .airing => false

/-- The alert source is present: every airing state but IDLE (spec/09, 9.1). -/
def AiringState.present : AiringState → Bool
  | .idle => false
  | .tone | .message | .fade | .gap => true

/-- An alert entry is AIRING: TONE, MESSAGE and FADE (spec/09, 9.1). -/
def AiringState.airs : AiringState → Bool
  | .tone | .message | .fade => true
  | .idle | .gap => false

/-! ## Air switch (R95) -/

/-- A source is present. -/
def State.present (s : State) : AirSource → Bool
  | .alert => s.airing.state.present
  | .rescue => s.monitor.rescue
  | .programme => s.onProgramme
  | .failsafe => !s.onProgramme

/-- The source of highest rank present. -/
def State.topSource (s : State) : AirSource :=
  if s.airing.state.present then .alert
  else if s.monitor.rescue then .rescue
  else if s.onProgramme then .programme
  else .failsafe

/-! ## Link (R163 to R175) -/

def Link.port' (l : Link) (p : PortId) : Port := l.port.get p
def Link.activePort (l : Link) : Port := l.port.get l.active

/-- The credit window of the active port's latest good return is open for the next sequence (R166). It is judged so in
every port state, which the mirror alone shows outside UP, and is not open with no good return (R163; log entry 107;
DESIGN CHOICE). -/
def Link.windowOpen (l : Link) : Bool :=
  match l.activePort.latest with
  | none => false
  | some bs => decide ((l.nextSeq - returnAck bs).toNat ≤ returnRoom bs)

/-- The three conditions of the revert hold (R175). -/
def State.revertWanted (s : State) : Bool :=
  s.sections.station.autoRevert && s.link.active != s.sections.station.preferred &&
    (s.link.port' s.sections.station.preferred).state == .up

/-! ## Faults and tallies (R35, R177) -/

/-- One bit of a fault word set. -/
def setKind (w : BitVec 18) (k : FaultKind) : BitVec 18 := w ||| (1 <<< k.code)

/-- The class in force of a fault kind. -/
def State.classOf (s : State) (k : FaultKind) : FaultClass := s.sections.station.classes.getD k.code .advisory

/-- All fault kinds in their order. -/
def faultKinds : List FaultKind :=
  [.cbRead, .cbSection, .recordBad, .fetchError, .fetchLate, .writeError, .logIndex, .deadAir, .clockLoss, .linkDown,
   .linkFailover, .linkSlip, .alertFrame, .alertTableFull, .alertDeadline, .delayOverflow, .lineFault, .txCarrier]

/-- STATION_FAULT is lit: some ON_AIR kind whose mask bit is clear has its status set (R35). -/
def State.stationFault (s : State) : Bool :=
  faultKinds.any (fun k => s.classOf k == .onAir && !s.sections.station.mask.getLsbD k.code &&
    s.faults.status.getLsbD k.code)

/-- The four tally outputs (R35). -/
structure Tallies where
  callerOnAir : Bool
  delaySafe : Bool
  alertOnAir : Bool
  stationFault : Bool
deriving DecidableEq, Repr

/-- The GPO outputs: each is lit while its condition holds. -/
def gpo (s : State) : Tallies :=
  ⟨!s.callers.onAir.isEmpty, s.safe, s.airing.state.airs, s.stationFault⟩

/-! ## Register window reads (R1) -/

/-- The registers of the window (spec/12, 12.2). -/
inductive Register where
  | ident
  | command
  | state
  | cbBaseLo
  | cbBaseHi
deriving DecidableEq, Repr

/-- What a read of a register returns, in every part state (R1). -/
def readRegister (s : State) : Register → Word
  | .ident => (0x3B : BitVec 8) ++ Config.revision ++ (0x0410 : BitVec 16)
  | .command => 0
  | .state => s.survey.appliedEdition.setWidth 16 ++ (0 : BitVec 4) ++ BitVec.ofNat 4 s.survey.cause.code ++
      (0 : BitVec 4) ++ BitVec.ofNat 4 s.survey.state.code
  | .cbBaseLo => s.survey.cbBase.setWidth 32
  | .cbBaseHi => (s.survey.cbBase >>> 32).setWidth 32

end Sys2Proof.Machine
end

