-- ==== Sys2Proof/Machine/Reports.lean ====
section
/-! DEFINITION. The log writer's and the fault unit's shared operations: handing a log entry, taking the next entry from
the queue, raising a fault (R178 to R186). -/

namespace Sys2Proof.Machine

open Sys2Proof

/-! ## The log ring (R183, R184) -/

/-- There is room: a valid index and at least one free slot. -/
def LogWriter.room (l : LogWriter) (size : Nat) : Bool :=
  l.valid && decide ((l.head - l.consumed).toNat < size)

/-- Count entries as dropped, saturating (R182). -/
def LogWriter.drop (l : LogWriter) (n : Nat) : LogWriter := { l with dropped := min (l.dropped + n) Config.max32 }

/-- The address of the ring slot for the head. -/
def ringAddr (base : Addr) (size : Nat) (head : Word) : Addr := base + BitVec.ofNat 64 (32 * (head.toNat % size))

/-- Issue the write of an entry to ring slot head modulo size. An ordinary notice that was considered at the boundary
finds a log write in flight and waits for a later boundary (R186). -/
def LogWriter.issue (l : LogWriter) (set : LogSettings) (gap : Bool) (e : LogEntry) : LogWriter :=
  { l with
    writing := some ⟨e, l.head, ringAddr set.base set.size l.head, gap, .first⟩
    considers := l.considers && l.urgent }

/-- The LOG_GAP entry for the dropped count (R184). -/
def gapEntry (now : Time) (dropped : Nat) : LogEntry :=
  ⟨.logGap, .faultUnit, 0, now, 0, 0, BitVec.ofNat 32 dropped, 0⟩

/-- Take entries from the head of the queue: write the first that finds room, after the LOG_GAP that is owed, and count
the others as dropped (R184). -/
def LogWriter.takeNext (set : LogSettings) (now : Time) : List LogEntry → LogWriter → LogWriter
  | [], l => { l with queue := [] }
  | e :: rest, l =>
    if l.room set.size && set.base != 0 then
      if l.dropped = 0 then { l with queue := rest }.issue set false e
      else if l.gapFailed then { l with queue := e :: rest }
      else { l with queue := e :: rest }.issue set true (gapEntry now l.dropped)
    else LogWriter.takeNext set now rest (l.drop 1)

/-- The FAULT entry that set the urgent flag is the next in the queue (R186). -/
def LogWriter.faultNext (l : LogWriter) : Bool := l.awaited.isSome && l.queue.head? == l.awaited

/-- An urgent notice that may be issued goes before the next log entry, unless that is the FAULT entry it waits for
(R186). -/
def LogWriter.yields (notice : Addr) (l : LogWriter) : Bool :=
  notice != 0 && l.urgent && l.considers && l.notice.isNone && !l.noticed && !l.faultNext

/-- The log writer goes on to the next entry when no write is in flight and no urgent notice goes first (R183, R186). -/
def LogWriter.pump (running : Bool) (set : LogSettings) (notice : Addr) (now : Time) (l : LogWriter) : LogWriter :=
  if running && l.writing.isNone && !l.yields notice then LogWriter.takeNext set now l.queue l else l

/-- An entry handed to the log writer: it joins the write queue or is counted as dropped (R183). -/
def LogWriter.hand (running : Bool) (set : LogSettings) (notice : Addr) (now : Time) (e : LogEntry) (l : LogWriter) :
    LogWriter :=
  if running && set.base != 0 && decide (l.queue.length < Config.logQueue) then
    { l with queue := l.queue ++ [e] }.pump running set notice now
  else l.drop 1

/-- Hand a log entry to the log writer (R183). -/
def handLog (e : LogEntry) (s : State) : State :=
  { s with log := s.log.hand s.running s.sections.logs s.sections.station.noticeAddr s.time e }

/-- Hand several entries, in order. -/
def handLogs (es : List LogEntry) (s : State) : State := es.foldl (fun s e => handLog e s) s

/-- A log entry from plain numbers (spec/12, 12.5). -/
def entryOf (kind : LogKind) (fromUnit : UnitId) (time : Time) (flags detail2 subject detail0 detail1 : Nat) : LogEntry :=
  ⟨kind, fromUnit, BitVec.ofNat 16 flags, time, BitVec.ofNat 16 detail2, BitVec.ofNat 64 subject,
   BitVec.ofNat 32 detail0, BitVec.ofNat 32 detail1⟩

/-- At HALT and at entry to DETACHED the waiting entries are counted as dropped (R183), and a notice that is due waits for
a RUNNING boundary (R186). -/
def LogWriter.flush (l : LogWriter) : LogWriter := { l.drop l.queue.length with queue := [], considers := false }

/-! ## Raising a fault (R178, R180) -/

/-- What a raising hands the fault unit. -/
structure Raising where
  kind : FaultKind
  raisedBy : UnitId
  subject : BitVec 64
  message : BitVec 16
  detail : Nat
  snapshot : List Byte
deriving DecidableEq, Repr

/-- A raising with no subject, detail or snapshot. -/
def Raising.plain (kind : FaultKind) (raisedBy : UnitId) : Raising := ⟨kind, raisedBy, 0, 0, 0, zeros16⟩

/-- The FAULT log entry (R178). -/
def faultEntry (s : State) (r : Raising) (first : Bool) : LogEntry :=
  ⟨.fault, r.raisedBy, BitVec.ofNat 16 (bit first), s.time, r.message, r.subject,
   BitVec.ofNat 32 (packBytes [r.kind.code, (s.classOf r.kind).code]), BitVec.ofNat 32 r.detail⟩

/-- What a raising does to the fault unit (R178, R180). -/
def Faults.take (f : Faults) (masked : Bool) (now : Time) (r : Raising) : Faults :=
  if masked then { f with status := setKind f.status r.kind }
  else if f.status.getLsbD r.kind.code then { f with repeated := setKind f.repeated r.kind }
  else
    match f.first with
    | none => { f with
        status := setKind f.status r.kind
        first := some ⟨r.kind, now, r.raisedBy, r.subject, r.message, r.snapshot⟩ }
    | some _ => { f with status := setKind f.status r.kind, multiple := true }

/-- A raising that finds its kind unmasked and its status clear: it is logged and recorded (R178). -/
def State.newFault (s : State) (k : FaultKind) : Bool :=
  !s.sections.station.mask.getLsbD k.code && !s.faults.status.getLsbD k.code

/-- Notices may be written: RUNNING, with a notice address (R186). -/
def State.notices (s : State) : Bool := s.running && s.sections.station.noticeAddr != 0

/-- The urgent flag is set, and the FAULT entry that first set it is awaited. The notice is considered at once when
notices may be written, else at the first boundary at which they may (R186). -/
def LogWriter.urge (now : Bool) (e : LogEntry) (l : LogWriter) : LogWriter :=
  { l with
    urgent := true, awaited := if l.urgent then l.awaited else some e, considers := l.considers || now }

/-- Raise a fault (R178): status or repeat flag, FAULT entry, first-fault record, urgent notice. -/
def raise (r : Raising) (s : State) : State :=
  let s' := { s with faults := s.faults.take (s.sections.station.mask.getLsbD r.kind.code) s.time r }
  if s.newFault r.kind then
    let e := faultEntry s r s.faults.first.isNone
    let s'' := handLog e s'
    if s.classOf r.kind = .onAir then { s'' with log := s''.log.urge s.notices e } else s''
  else s'

/-- A failed write anywhere in host memory raises WRITE_ERROR (spec/01, introduction; spec/11, 11.1). -/
def writeError (raisedBy : UnitId) (s : State) : State := raise (Raising.plain .writeError raisedBy) s

/-! ## Given-up bus accesses (log entry 8) -/

/-- The first given-up access of a user, if any. -/
def Bus.staleOf (b : Bus) (u : BusUser) : Option StaleOp := b.stale.find? (fun o => o.user == u)

/-- A given-up access has completed. -/
def Bus.settle (b : Bus) (o : StaleOp) : Bus := { b with stale := b.stale.erase o }

/-- Give up an access in flight. -/
def giveUp (u : BusUser) (inFlight : Bool) (s : State) : State :=
  if inFlight then { s with bus := { s.bus with stale := s.bus.stale ++ [⟨u, false⟩] } } else s

/-- A read completes: a given-up read is discarded, any other goes to its unit. -/
def onRead (u : BusUser) (s : State) (live : State → State) : State :=
  match s.bus.staleOf u with
  | some o => { s with bus := s.bus.settle o }
  | none => live s

/-- A write completes: a given-up write is discarded, a failed one raising WRITE_ERROR unless a reset gave it up; any
other goes to its unit. -/
def onWrite (u : BusUser) (raisedBy : UnitId) (ok : Bool) (s : State) (live : State → State) : State :=
  match s.bus.staleOf u with
  | some o =>
    let s' := { s with bus := s.bus.settle o }
    if ok || o.quiet then s' else writeError raisedBy s'
  | none => live s

/-! ## Log and notice commands (R183, R184, R186) -/

/-- A log write fails: the entry counts as dropped, but for a LOG_GAP, which waits for the next boundary (R183, R184). -/
def LogWriter.writeFailed (l : LogWriter) (gap : Bool) : LogWriter :=
  if gap then { l with writing := none, gapFailed := true } else { l.drop 1 with writing := none }

/-- A log write completes good: the head rises by one, and a LOG_GAP clears the dropped count (R183, R184). -/
def LogWriter.writeGood (l : LogWriter) (gap : Bool) : LogWriter :=
  if gap then { l with writing := none, head := l.head + 1, dropped := 0, gapFailed := false }
  else { l with writing := none, head := l.head + 1 }

/-- The log writer goes on (R183). -/
def pumpLog (s : State) : State := { s with log := s.log.pump s.running s.sections.logs s.sections.station.noticeAddr s.time }

/-- LOG_WRITE_DONE in the log writer: the entry's other fields first, its sequence word last (R183). -/
def logWriteDone (ok : Bool) (s : State) : State :=
  match s.log.writing with
  | none => s
  | some w =>
    if !ok then pumpLog (writeError .faultUnit { s with log := s.log.writeFailed w.gap })
    else if w.phase = .first then { s with log := { s.log with writing := some { w with phase := .last } } }
    else pumpLog { s with log := s.log.writeGood w.gap }

/-- LOG_WRITE_DONE (R183). -/
def execLogWriteDone (ok : Bool) (s : State) : Out :=
  .next (onWrite .logWrite .faultUnit ok s (logWriteDone ok))

/-- LOG_GAP (R184): at a RUNNING boundary with a dropped count, room and no write in flight. One that has failed is tried
again once at each later boundary. -/
def execLogGap (s : State) : Out :=
  .next (if s.running && s.log.writing.isNone && !s.log.gapFailed && decide (0 < s.log.dropped) && s.sections.logs.base != 0 &&
      s.log.room s.sections.logs.size then
    { s with log := s.log.issue s.sections.logs true (gapEntry s.time s.log.dropped) }
  else s)

/-- A notice is due (R186). -/
def LogWriter.noticeDue (l : LogWriter) : Bool := l.head != l.lastSent || l.urgent

/-- The notice that is considered at a RUNNING boundary with a notice address: an urgent one, which may wait for the
writes in flight; an ordinary one with the holdoff run out and nothing in flight at the boundary (R186). An urgent flag
kept from outside RUNNING or from a notice address of 0, or set again by a failed notice write, is met here (R186). -/
def State.considersNotice (s : State) : Bool :=
  s.notices && (s.log.urgent || (s.log.noticeDue && s.log.writing.isNone && s.log.notice.isNone &&
    decide (s.sections.station.noticeHoldoff ≤ s.log.holdoff)))

/-- A notice is written now: RUNNING with a notice address, one due and considered, nothing in flight, and the urgent flag
set or the holdoff run out; at most one in a block. An urgent one waits for the FAULT entry that set the flag when that is
the next in the queue (R186). -/
def State.noticeNow (s : State) : Bool :=
  s.notices && s.log.noticeDue && s.log.considers && s.log.writing.isNone && s.log.notice.isNone && !s.log.noticed &&
    (if s.log.urgent then !s.log.faultNext else decide (s.sections.station.noticeHoldoff ≤ s.log.holdoff))

/-- A notice is issued: the head goes to the notice address; the holdoff count returns to 0 and the urgent flag is cleared
(R186). -/
def LogWriter.notify (addr : Addr) (l : LogWriter) : LogWriter :=
  { l with
    notice := some ⟨addr, l.head, l.urgent⟩
    holdoff := 0, urgent := false, awaited := none, noticed := true, considers := false }

/-- NOTICE_WRITE (R186); the log writer then goes on with the entries that an urgent notice went before. -/
def execNoticeWrite (s : State) : Out :=
  .next (if s.noticeNow then pumpLog { s with log := s.log.notify s.sections.station.noticeAddr } else s)

/-- NOTICE_WRITE_DONE in the log writer: a failed notice stays due and is considered again at the next boundary (R186). -/
def noticeWriteDone (ok : Bool) (s : State) : State :=
  match s.log.notice with
  | none => s
  | some n =>
    if ok then { s with log := { s.log with notice := none, lastSent := n.word } }
    else writeError .faultUnit { s with log := { s.log with notice := none, urgent := s.log.urgent || n.urgent } }

/-- NOTICE_WRITE_DONE (R186). -/
def execNoticeWriteDone (ok : Bool) (s : State) : Out :=
  .next (onWrite .notice .faultUnit ok s (noticeWriteDone ok))

/-! ## Acknowledging faults (R181) -/

/-- The fault unit after an acknowledgement of a set of kinds. -/
def Faults.ack (f : Faults) (kinds : BitVec 18) : Faults :=
  let held := f.first.any (fun r => kinds.getLsbD r.kind.code)
  { status := f.status &&& ~~~kinds
    repeated := f.repeated &&& ~~~kinds
    first := if held then none else f.first
    multiple := if held then false else f.multiple }

/-- FAULT_ACK in the fault unit (R181). -/
def faultAck (kinds : Word) (s : State) : ResultCode × State :=
  if kinds >>> 18 ≠ 0 then (.badArgument, s)
  else (.done, { s with faults := s.faults.ack (kinds.setWidth 18) })

end Sys2Proof.Machine
end

