-- ==== Sys2Proof/Machine/Clock.lean ====
section
/-! DEFINITION. The station clock unit: reference marks, clock selection and switching, SET_TIME (R18 to R28). -/

namespace Sys2Proof.Machine

open Sys2Proof

/-! ## State changes (R25) -/

/-- The causes of CLOCK_STATE (R25). -/
inductive ClockCause where
  | request
  | qualified
  | loss
deriving DecidableEq, Repr

def ClockCause.code : ClockCause → Nat
  | .request => 0 | .qualified => 1 | .loss => 2

/-- The CLOCK_STATE entry (R25). -/
def clockEntry (old new : ClockState) (cause : ClockCause) (now : Time) : LogEntry :=
  entryOf .clockState .stationClock now 0 (packBytes [old.code, new.code]) 0 cause.code 0

/-- CLOCK_STATE for a change from an earlier state (R25). -/
def logClock (cause : ClockCause) (old s : State) : State :=
  if old.clock.state = s.clock.state then s
  else handLog (clockEntry old.clock.state s.clock.state cause s.time) s

/-- The state that a pending switch brings; after a loss it depends on auto-return (R23). -/
def PendingClock.brings (autoReturn : Bool) : PendingClock → ClockState
  | .requested st => st
  | .qualified x => .onExternal x
  | .lost x => if autoReturn then .qualifying x else .onInternal

/-! ## Marks (R19, R20, R22, R23) -/

/-- The marks of a source are judged: its QUALIFYING and ON_EXTERNAL states (R19, R20). -/
def Clock.judges (c : Clock) (x : ClockSource) : Bool := c.state == .qualifying x || c.state == .onExternal x

/-- The reference is lost: CLOCK_LOSS with the source as subject, and the loss replaces any pending switch (R23). -/
def loseClock (x : ClockSource) (s : State) : State :=
  raise { Raising.plain .clockLoss .stationClock with subject := BitVec.ofNat 64 x.code }
    { s with clock := { s.clock with pending := some (.lost x), lost := true } }

/-- A good mark is counted (R22, R23). While a switch from QUALIFYING is pending it is not. -/
def goodMark (s : State) : State :=
  match s.clock.state with
  | .onInternal => s
  | .qualifying x =>
    if s.clock.pending.isSome then s
    else if Config.qualifyMarks ≤ s.clock.good + 1 then
      { s with clock := { s.clock with good := s.clock.good + 1, pending := some (.qualified x) } }
    else { s with clock := { s.clock with good := s.clock.good + 1 } }
  | .onExternal _ => { s with clock := { s.clock with badRun := 0 } }

/-- A bad or missing mark is counted (R22, R23); after the loss no further one is until the boundary changes the clock state,
so a CLOCK_SELECT taken meanwhile stands (R21, R179). -/
def badMark (s : State) : State :=
  match s.clock.state with
  | .onInternal => s
  | .qualifying _ => if s.clock.pending.isSome then s else { s with clock := { s.clock with good := 0 } }
  | .onExternal x =>
    if s.clock.lost then s
    else
      let s' := { s with clock := { s.clock with badRun := min (s.clock.badRun + 1) Config.lossMarks } }
      if Config.lossMarks ≤ s.clock.badRun + 1 then loseClock x s' else s'

/-- The mark point moves (R19, R20). -/
def setMark (pos : Nat) (count : Word) (s : State) : State :=
  { s with clock := { s.clock with mark := some ⟨pos, count⟩, missed := 0 } }

/-- A mark's distance is within the tolerance of n blocks (spec/02, Reference marks). -/
def withinBlocks (n dist : Nat) : Bool :=
  decide (n * Config.blockUnits ≤ dist + n * Config.toleranceUnits) &&
    decide (dist ≤ n * Config.blockUnits + n * Config.toleranceUnits)

/-- HOUSE_MARK (R19). -/
def houseMark (arrival : Nat) (s : State) : State :=
  match s.clock.mark with
  | none => setMark arrival 0 s
  | some m => setMark arrival 0 (if withinBlocks 1 (arrival - m.pos) then goodMark s else badMark s)

def execHouseMark (arrival : Nat) (s : State) : Out :=
  .next (if s.clock.judges .house then houseMark arrival s else s)

/-- No house mark has come by P + 246,005 units (R19). -/
def Clock.houseLate (c : Clock) (now : Nat) : Bool :=
  c.judges .house && c.mark.any (fun m => decide (m.pos + Config.blockUnits + Config.toleranceUnits ≤ now))

/-- HOUSE_MARK_MISSING (R19): one missing mark, and P advances one block. -/
def execHouseMarkMissing (now : Nat) (s : State) : Out :=
  .next (if s.clock.houseLate now then
    let s' := badMark s
    { s' with clock := { s'.clock with mark := s'.clock.mark.map (fun m => { m with pos := m.pos + Config.blockUnits }) } }
  else s)

/-- A good return frame of the active port handed to the clock unit: LINK_MARK (R20). -/
def linkMark (count : Word) (arrival : Nat) (s : State) : State :=
  if !s.clock.judges .link then s
  else
    match s.clock.mark with
    | none => setMark arrival count s
    | some m =>
      let n := (count - m.count).toNat
      if n = 0 then s
      else
        setMark arrival count
          (if n ≤ 16 && withinBlocks n (arrival - m.pos) then goodMark s else badMark s)

/-- The running clock has passed the window of the next missing LINK mark (R20). -/
def Clock.linkLate (c : Clock) (now : Nat) : Bool :=
  c.judges .link &&
    c.mark.any (fun m => decide (m.pos + (2 + c.missed) * Config.blockUnits + Config.toleranceUnits < now))

/-- LINK_MARK_MISSING (R20): one missing mark; P and C stay. -/
def execLinkMarkMissing (now : Nat) (s : State) : Out :=
  .next (if s.clock.linkLate now then
    let s' := badMark s
    { s' with clock := { s'.clock with missed := s'.clock.missed + 1 } }
  else s)

/-! ## Selecting and switching (R21 to R24) -/

/-- The clock after a change of state: counts at 0, the loss over, and the mark point kept only into ON_EXTERNAL (R22, R23,
R179). -/
def Clock.enter (st : ClockState) (c : Clock) : Clock :=
  match st with
  | .onExternal _ => { c with state := st, good := 0, badRun := 0, pending := none, lost := false }
  | .qualifying _ | .onInternal =>
    { c with state := st, good := 0, badRun := 0, pending := none, lost := false, mark := none, missed := 0 }

/-- The cause of the change that a pending switch makes (R25). A request that has replaced a loss makes the switch its own,
with cause REQUEST (log entry 59; DESIGN CHOICE). -/
def PendingClock.cause : PendingClock → ClockCause
  | .requested _ => .request
  | .qualified _ => .qualified
  | .lost _ => .loss

/-- CLOCK_SWITCH (R22): at the boundary the pending switch takes effect. -/
def execClockSwitch (s : State) : Out :=
  .next (match s.clock.pending with
    | none => s
    | some p =>
      logClock p.cause s { s with clock := s.clock.enter (p.brings s.sections.station.autoReturn) })

/-- The clock runs on an external source. -/
def ClockState.external : ClockState → Bool
  | .onExternal _ => true
  | .onInternal | .qualifying _ => false

/-- A request's new state: at once, or pending where the change waits for a boundary (R21). -/
def selectState (st : ClockState) (s : State) : State :=
  if s.clock.state.external || s.clock.pending.isSome then
    { s with clock := { s.clock with pending := some (.requested st) } }
  else logClock .request s { s with clock := s.clock.enter st }

/-- The state a request is decided against (R21). -/
def State.clockBasis (s : State) : ClockState :=
  match s.clock.pending with
  | none => s.clock.state
  | some p => p.brings s.sections.station.autoReturn

/-- A switch away from ON_EXTERNAL is pending by request alone, its source not lost: the one that a CLOCK_SELECT of the
same source cancels. After a loss a request is decided against what the boundary brings (R21). -/
def Clock.leaves (c : Clock) : Bool := c.pending.isSome && !c.lost

/-- CLOCK_SELECT with INTERNAL (R21). -/
def selectInternal (s : State) : State :=
  match s.clockBasis with
  | .onInternal => s
  | .qualifying _ | .onExternal _ => selectState .onInternal s

/-- CLOCK_SELECT with an external source (R21). -/
def selectSource (x : ClockSource) (s : State) : ResultCode × State :=
  if s.clock.state = .onExternal x ∧ s.clock.leaves then
    (.done, { s with clock := { s.clock with pending := none } })
  else if s.clockBasis = .onExternal x ∨ s.clockBasis = .qualifying x then (.done, s)
  else if x = .link ∧ s.link.activePort.state ≠ .up then (.portDown, s)
  else (.done, selectState (.qualifying x) s)

/-- CLOCK_SELECT (R21): INTERNAL 0, HOUSE 1, LINK 2. -/
def clockSelect (source : Word) (s : State) : ResultCode × State :=
  if source = 0 then (.done, selectInternal s)
  else if source = 1 then selectSource .house s
  else if source = 2 then selectSource .link s
  else (.badArgument, s)

/-- The active link port has changed (R24). -/
def clockPortChanged (s : State) : State :=
  match s.clock.state with
  | .onExternal .link =>
    let s' := { s with clock := { s.clock with mark := none, missed := 0 } }
    if s.clock.lost then s' else loseClock .link s'
  | .qualifying .link =>
    { s with clock := { s.clock with
      good := 0, mark := none, missed := 0
      pending := if s.clock.pending = some (.qualified .link) then none else s.clock.pending } }
  | .onInternal | .qualifying .house | .onExternal .house => s

/-! ## Setting the time (R27, R28) -/

/-- The station time of two argument words (R27). -/
def timeOf (low high : Word) : Time := BitVec.ofNat 48 (low.toNat + 2 ^ 32 * high.toNat)

/-- SET_TIME (R27). -/
def setTime (low high : Word) (s : State) : ResultCode × State :=
  if high >>> 16 ≠ 0 then (.badArgument, s) else (.done, { s with pendingTime := some (timeOf low high) })

/-- The TIME_SET entry (R27). -/
def timeSetEntry (old new : Time) : LogEntry :=
  entryOf .timeSet .stationClock new 0 0 old.toNat (new.toNat % 2 ^ 32) (new.toNat / 2 ^ 32)

/-- An alert entry's timers moved by Δ (R28). -/
def AlertEntry.shift (dt : Time) (e : AlertEntry) : AlertEntry :=
  if e.state = .free then e
  else { e with expiry := e.expiry + dt, holdUntil := e.holdUntil.map (· + dt), deadline := e.deadline.map (· + dt) }

/-- A GPI line whose count began in the block that begins at this boundary takes the block's station time (R30). -/
def GpiLine.restamp (new : Time) (g : GpiLine) : GpiLine := if g.count = 1 then { g with stamp := new } else g

/-- The boundary at which a SET_TIME is applied (R27, R28). -/
def applyTime (new : Time) (s : State) : State :=
  let dt := new - s.time
  handLog (timeSetEntry s.time new)
    { s with
      time := new
      pendingTime := none
      alerts := { s.alerts with entry := s.alerts.entry.map (AlertEntry.shift dt) }
      link := { s.link with hold := s.link.hold.map (· + dt), slip := s.link.slip.map (· + dt), base := new }
      gpi := s.gpi.map (GpiLine.restamp new) }

/-- SET_TIME_APPLIED (R28): station time, which this boundary has raised by 240, takes the pending value instead. -/
def execSetTimeApplied (s : State) : Out :=
  .next (match s.pendingTime with
    | none => s
    | some new => applyTime new s)

end Sys2Proof.Machine
end

