-- ==== Sys2Proof/Machine/Link.lean ====
section
/-! DEFINITION. The transmitter link: return frames, port supervision, the send queue, sending, latency and telemetry,
and changes of the active port (R161 to R176). -/

namespace Sys2Proof.Machine

open Sys2Proof

/-! ## Ports (R163) -/

/-- Replace a port. -/
def State.setPort (s : State) (p : PortId) (x : Port) : State :=
  { s with link := { s.link with port := s.link.port.set p x } }

/-- The causes of LINK_STATE (spec/12, 12.5). -/
inductive LinkCause where
  | good
  | trained
  | timeout
  | lineBreak
  | failover
  | switch
  | revert
deriving DecidableEq, Repr

def LinkCause.code : LinkCause → Nat
  | .good => 0 | .trained => 1 | .timeout => 2 | .lineBreak => 3 | .failover => 4 | .switch => 5 | .revert => 6

/-- The LINK_STATE entry (R163). -/
def linkEntry (p : PortId) (old : PortState) (cause : LinkCause) (s : State) : LogEntry :=
  entryOf .linkState .linkUnit s.time 0 (packBytes [old.code, (s.link.port.get p).state.code]) (sideCode p)
    (packBytes [sideCode s.link.active, cause.code]) s.link.nextSeq.toNat

/-- A raising of the link unit with a port as subject. -/
def raisePort (kind : FaultKind) (p : PortId) (s : State) : State :=
  raise { Raising.plain kind .linkUnit with subject := BitVec.ofNat 64 (sideCode p) } s

/-- LINK_DOWN: the active port has entered DOWN while the other is not UP, and the condition did not hold (R173, R179). -/
def noteDown (p : PortId) (s : State) : State :=
  if p = s.link.active ∧ (s.link.port.get p.other).state ≠ .up ∧ !s.link.downCond then
    raisePort .linkDown p { s with link := { s.link with downCond := true } }
  else s

/-- A port in TRAINING or UP enters DOWN (R163). LINK_STATE is written before the FAULT entry of LINK_DOWN (R173; log entry
84; DESIGN CHOICE). -/
def portFalls (p : PortId) (cause : LinkCause) (s : State) : State :=
  let x := s.link.port.get p
  let s1 := s.setPort p { x with state := .down, training := 0 }
  let s2 := if p = s.link.active then { s1 with link := { s1.link with notUp := true } } else s1
  noteDown p (handLog (linkEntry p x.state cause s2) s2)

/-- LINK_BREAK (R163). -/
def execLinkBreak (p : PortId) (s : State) : Out :=
  .next (if (s.link.port.get p).state = .down then s else portFalls p .lineBreak s)

/-! ## The revert hold (R175) -/

/-- The revert hold as a boundary judges it: it begins when its three conditions hold, and ends when one does not. A
condition that fails and holds again between two boundaries leaves it running (log entry 108; DESIGN CHOICE). -/
def workOutHold (s : State) : State :=
  let full := later s.time (s.sections.station.revertHold * Config.blockFrames)
  { s with link := { s.link with hold := if s.revertWanted then some (s.link.hold.getD full) else none } }

/-- A port's return age has reached the return timeout (R163). -/
def State.timedOut (s : State) (p : PortId) : Bool :=
  (s.link.port.get p).state != .down && decide (s.sections.station.returnTimeout ≤ (s.link.port.get p).age)

/-- RETURN_TIMEOUT (R163). -/
def execReturnTimeout (p : PortId) (s : State) : Out :=
  .next (if s.timedOut p then workOutHold (portFalls p .timeout s) else s)

/-! ## Sending (R165 to R169) -/

/-- The programme frame that an air block makes as it is sent (R169). -/
def programmeFrame (site : Nat) (seq : BitVec 16) (b : AirBlock) : LinkFrame :=
  ⟨true, BitVec.ofNat 8 site, seq, b.time, b.flags, b.ident, b.frames⟩

/-- The active port may send the head of the queue: by the window while UP (R166), blind at a boundary else (R167). A port not
UP whose keepalive goes out at the boundary is sending then and considers no more in that block, so no blind frame leaves in
it (R167, R168; log entry 95; DESIGN CHOICE). -/
def State.maySend (s : State) (boundary : Bool) : Bool :=
  let x := s.link.activePort
  x.sending.isNone &&
    (if x.state = .up then decide (x.sent < 3) && s.link.windowOpen else boundary && x.sent == 0)

/-- The active port considers sending (R166, R167). -/
def considerSend (boundary : Bool) (s : State) : State :=
  match s.link.queue with
  | [] => s
  | b :: rest =>
    if s.maySend boundary then
      let x := s.link.activePort
      let f := programmeFrame s.sections.station.siteAddress s.link.nextSeq b
      { s with link := { s.link with
        queue := rest
        nextSeq := s.link.nextSeq + 1
        port := s.link.port.set s.link.active
          { x with sending := some f, sent := x.sent + 1, keepalive := 0 } } }
    else s

/-- FRAME_SENT (R166): the port considers sending again; one that is not UP does so at block boundaries alone (R167; log entry
95; DESIGN CHOICE). -/
def execFrameSent (p : PortId) (s : State) : Out :=
  let x := s.link.port.get p
  .next (if x.sending.isSome then
    let s1 := s.setPort p { x with sending := none }
    if p = s.link.active then considerSend false s1 else s1
  else s)

/-- A keepalive (R168). -/
def keepaliveFrame (s : State) : LinkFrame :=
  ⟨false, BitVec.ofNat 8 s.sections.station.siteAddress, s.link.nextSeq - 1, s.time, s.link.airFlags, none, []⟩

/-- KEEPALIVE_DUE (R168): the port has sent nothing for 20 blocks. -/
def execKeepaliveDue (p : PortId) (s : State) : Out :=
  let x := s.link.port.get p
  .next (if Config.keepaliveBlocks ≤ x.keepalive ∧ x.sending.isNone then
    s.setPort p { x with sending := some (keepaliveFrame s), keepalive := 0 }
  else s)

/-! ## The send queue (R164) -/

/-- A discard raises LINK_SLIP when there is no slip time or 48,000 frames have passed since it (R164). -/
def State.slipDue (s : State) : Bool :=
  match s.link.slip with
  | none => true
  | some t => decide (48000 ≤ (s.time - t).toNat)

/-- The oldest frame is discarded (R164). -/
def discardOldest (s : State) : State :=
  let s1 := { s with link := { s.link with
    queue := s.link.queue.drop 1, discards := satInc Config.max32 s.link.discards } }
  if s.slipDue then raise (Raising.plain .linkSlip .linkUnit) { s1 with link := { s1.link with slip := some s.time } }
  else s1

/-- PROGRAMME_FRAME_FORMED (R164): the air block just completed joins the send queue, and the active port considers
sending. -/
def execProgrammeFrameFormed (s : State) : Out :=
  .next (match s.air.block with
    | none => s
    | some b =>
      let s1 := if Config.sendQueue ≤ s.link.queue.length then discardOldest s else s
      considerSend true { s1 with
        air := { s1.air with block := none }
        link := { s1.link with queue := s1.link.queue ++ [b] } })

/-! ## Return frames (R162, R163, R170, R171) -/

/-- A bad return (R162, R163). -/
def badReturn (p : PortId) (s : State) : State :=
  let x := s.link.port.get p
  s.setPort p { x with
    bad := satInc Config.max32 x.bad, training := if x.state = .training then 0 else x.training }

/-- The port's state on a good return (R163). -/
def Port.good (bs : List Byte) (x : Port) : Port :=
  let y := { x with age := 0, latest := some (keptReturn bs), goodNow := true }
  match x.state with
  | .down => { y with state := .training, training := 1 }
  | .training =>
    if Config.trainReturns ≤ x.training + 1 then { y with state := .up, training := Config.trainReturns }
    else { y with training := x.training + 1 }
  | .up => y

/-- A good return acts on its port (R163): the LINK_STATE entry of a change, and the end of the LINK_DOWN condition when
the active port is UP (R173). -/
def portGood (p : PortId) (bs : List Byte) (s : State) : State :=
  let x := s.link.port.get p
  let y := x.good bs
  let s1 := s.setPort p y
  let s2 := if p = s.link.active ∧ y.state = .up then { s1 with link := { s1.link with downCond := false } } else s1
  if x.state = y.state then s2
  else handLog (linkEntry p x.state (if y.state = .up then .trained else .good) s2) s2

/-- Telemetry and the carrier state (R171). -/
def noteTelemetry (p : PortId) (bs : List Byte) (s : State) : State :=
  let on := returnCarrierOn bs
  let s1 := { s with link := { s.link with
    telemetry := some (returnTelemetry p bs), carrier := if on then .on else .off } }
  if s.link.carrier = .on ∧ !on then raisePort .txCarrier p s1 else s1

/-- The latency from a good return of the active port (R170). -/
def noteLatency (bs : List Byte) (s : State) : State :=
  let e := returnEcho bs
  if (e - s.link.base).toNat ≤ (s.time - s.link.base).toNat then
    { s with link := { s.link with latency := some (s.time - e).toNat } }
  else s

/-- A good return (R162): the port and the telemetry, and for the active port the clock, the latency and the sender. A
TX_CARRIER that it raises comes before a CLOCK_LOSS (log entry 96; DESIGN CHOICE), and after the LINK_STATE of the port
(log entry 109; DESIGN CHOICE). -/
def goodReturn (p : PortId) (bs : List Byte) (arrival : Nat) (s : State) : State :=
  let s1 := noteTelemetry p bs (portGood p bs s)
  if p = s.link.active then considerSend false (noteLatency bs (linkMark (returnMarks bs) arrival s1)) else s1

/-- RETURN_FRAME (R162): a bad return, a return for another site, or a good return. -/
def returnFrame (p : PortId) (bs : List Byte) (arrival : Nat) (s : State) : State :=
  if !returnFrameRight bs then badReturn p s
  else if returnSite bs ≠ s.sections.station.siteAddress then s
  else goodReturn p bs arrival s

def execReturnFrame (p : PortId) (bs : List Byte) (arrival : Nat) (s : State) : Out :=
  .next (returnFrame p bs arrival s)

/-! ## Changes of the active port (R172, R174, R175) -/

/-- An UP port becomes active: LINK_STATE with its cause, the clock unit told, the LINK_DOWN condition ended. The send
queue and the next sequence go on (R172). -/
def changePort (p : PortId) (cause : LinkCause) (s : State) : State :=
  let s1 := { s with link := { s.link with active := p, pendingSwitch := none, downCond := false, notUp := false } }
  handLog (linkEntry p (s.link.port.get p).state cause s1) s1

/-- The active port is DOWN and the other UP (R172). -/
def State.failoverDue (s : State) : Bool :=
  s.link.activePort.state == .down && (s.link.port.get s.link.active.other).state == .up

/-- FAILOVER (R172): LINK_FAILOVER names the new active port, and the revert hold is worked out again. Where the clock
loses its LINK reference by it (R24), LINK_FAILOVER is raised before CLOCK_LOSS (log entry 100; DESIGN CHOICE). -/
def execFailover (s : State) : Out :=
  .next (if s.failoverDue then
    let p := s.link.active.other
    workOutHold (clockPortChanged (raisePort .linkFailover p (changePort p .failover s)))
  else s)

/-- A pending switch can be made: its port is UP at the boundary and not active (R174). A port that has fallen and is UP
again by then counts as still UP (log entry 113; DESIGN CHOICE). -/
def State.switchable (s : State) (p : PortId) : Bool := (s.link.port.get p).state == .up && p != s.link.active

/-- PENDING_LINK_SWITCH (R174): made when its port is still UP and no failover is to be made, cleared without effect
else. -/
def execPendingLinkSwitch (s : State) : Out :=
  .next (match s.link.pendingSwitch with
    | none => s
    | some p =>
      if s.failoverDue then s
      else if s.switchable p then workOutHold (clockPortChanged (changePort p .switch s))
      else { s with link := { s.link with pendingSwitch := none } })

/-- The revert hold has ended with its conditions still holding (R175). -/
def State.revertDue (s : State) : Bool :=
  s.revertWanted && s.link.hold.any (reached s.time) && !s.failoverDue && s.link.pendingSwitch.isNone

/-- REVERT (R175): the preferred port becomes active. -/
def execRevert (s : State) : Out :=
  .next (if s.revertDue then
    workOutHold (clockPortChanged (changePort s.sections.station.preferred .revert s))
  else s)

/-- LINK_SWITCH (R174): A 0, B 1. -/
def linkSwitch (port : Word) (s : State) : ResultCode × State :=
  let named : Option PortId := if port = 0 then some .a else if port = 1 then some .b else none
  match named with
  | none => (.badArgument, s)
  | some p =>
    if p = s.link.active then (.done, { s with link := { s.link with pendingSwitch := none } })
    else if (s.link.port.get p).state ≠ .up then (.portDown, s)
    else (.done, { s with link := { s.link with pendingSwitch := some p } })

/-! ## A block begins (R163, R164, R168) -/

/-- A port as a block begins: its return age rises unless the block brought a good return, the keepalive count rises, no
frame has been sent. -/
def Port.blockBegins (x : Port) : Port :=
  { x with
    age := if x.state = .down ∨ x.goodNow then x.age else satInc 200 x.age
    goodNow := false
    keepalive := satInc Config.keepaliveBlocks x.keepalive
    sent := 0 }

/-- The link unit as a block begins, with the flags of the air block that has ended (R167, R168). -/
def Link.blockBegins (flags : AirFlags) (l : Link) : Link :=
  { l with port := l.port.map Port.blockBegins, notUp := l.activePort.state != .up, airFlags := flags }

end Sys2Proof.Machine
end

