-- ==== Sys2Proof/Machine/Mix.lean ====
section
/-! DEFINITION. The audio arithmetic of a block: the programme mix, the returns, the alert block and the air block
(R88, R92 to R98, R103, R154). Each is worked out from the block in progress. -/

namespace Sys2Proof.Machine

open Sys2Proof

/-! ## Run-out fill and rescue (R71) -/

/-- The 240 frames of the rescue store from a reader's position, the first frame following the last (R71). -/
def Rescue.framesFrom (r : Rescue) (pos : Nat) : List Frame :=
  makeBlock (fun i => if r.frames.length = 0 then Frame.silence else frameAt r.frames ((pos + i) % r.frames.length))

/-- A reader's position one block on (R71). -/
def Rescue.advance (r : Rescue) (pos : Nat) : Nat :=
  if r.frames.length = 0 then 0 else (pos + Config.blockFrames) % r.frames.length

/-- The frames the fill source takes for a block as it begins: the reader's, or none in a silent block (R69, R92). -/
def Rescue.fillOf (r : Rescue) (live : Bool) (pos : Nat) : List Frame := if live then r.framesFrom pos else []

/-- The dead-air reader's frames: the store's while it is READY, silence else (R71, R95). -/
def State.rescueFrames (s : State) : List Frame :=
  if s.rescue.state = .ready ∧ s.monitor.live then s.rescue.framesFrom s.monitor.pos else silentBlock

/-! ## Programme mix (R92 to R94) -/

/-- A caller line's sample: silence while its framing is LOST (R72). -/
def State.callerSample (s : State) (n : LineNo) (i : Nat) : Sample :=
  if (s.callers.line.get n).framingGood then sampleAt (s.mixer.input.callers.get n) i else 0

/-- A caller line's product, the same in both channels (R92). -/
def State.callerProduct (s : State) (n : LineNo) (i : Nat) : Int :=
  (s.callerSample n i).toInt * ((s.mixer.line.get n).blk : Int)

/-- The product of a stereo input in each channel (R92). -/
def stereoProduct (fs : List Frame) (g : Nat) (i : Nat) : Int × Int :=
  let x := frameAt fs i
  (x.l.toInt * (g : Int), x.r.toInt * (g : Int))

/-- The unsaturated sums of both channels for frame i (R93). -/
def State.sums (s : State) (i : Nat) : Int × Int :=
  let a := stereoProduct s.mixer.deckFrames.a s.mixer.deckRamp.a.blk i
  let b := stereoProduct s.mixer.deckFrames.b s.mixer.deckRamp.b.blk i
  let c := stereoProduct s.mixer.input.studio s.mixer.studio.blk i
  let f := stereoProduct s.decks.fillBlock s.mixer.fill.blk i
  let v := s.callerProduct 0 i + s.callerProduct 1 i + s.callerProduct 2 i + s.callerProduct 3 i
  (a.1 + b.1 + c.1 + f.1 + v, a.2 + b.2 + c.2 + f.2 + v)

/-- The programme mixer's output block: each sum divided by 32,768 with floor, saturated (R93). -/
def State.mixBlock (s : State) : List Frame :=
  makeBlock (fun i => ⟨saturate ((s.sums i).1 / 32768), saturate ((s.sums i).2 / 32768)⟩)

/-- The mix-minus return of a line (R94). -/
def State.mixMinus (s : State) (n : LineNo) : List Sample :=
  makeBlock (fun i =>
    let p := s.callerProduct n i
    saturate (((s.sums i).1 - p + ((s.sums i).2 - p)) / 65536))

/-- The hold feed of an air output block (R88). -/
def holdFeed (h : Nat) (air : List Frame) : List Sample :=
  makeBlock (fun i =>
    let x := frameAt air i
    BitVec.ofInt 24 ((x.l.toInt * (h : Int) + x.r.toInt * (h : Int)) / 65536))

/-- The return stream of a line by its state at the start of the block (R88). -/
def State.returnOf (s : State) (air : List Frame) (n : LineNo) : List Sample :=
  match (s.callers.line.get n).atStart with
  | .onAir => s.mixMinus n
  | .screening | .hold => holdFeed s.callers.holdGain air
  | .idle | .clearing | .outOfService => makeBlock (fun _ => 0)

/-! ## Alert block (R154, R157) -/

/-- The quarter cycle of the attention tone: 2,097,152 × sin(2πi / 48), rounded, for i from 0 to 12. -/
def toneQuarter : List Int :=
  [0, 273733, 542783, 802545, 1048576, 1276665, 1482910, 1663783, 1816187, 1937516, 2025693, 2079211, 2097152]

/-- tone(i) for i in 0 … 47 (R154). -/
def toneSample (i : Nat) : Int :=
  if i ≤ 12 then toneQuarter.getD i 0
  else if i ≤ 24 then toneQuarter.getD (24 - i) 0
  else if i ≤ 36 then -(toneQuarter.getD (i - 24) 0)
  else -(toneQuarter.getD (48 - i) 0)

/-- The recording of the airing entry: the contents of its record slot. -/
def State.airingSamples (s : State) : List Sample :=
  match s.airing.entry with
  | none => []
  | some e =>
    match (s.alerts.entry.get e).slot with
    | none => []
    | some k => s.alerts.slot.get k

/-- The mono sample of frame i in the block the airing gives next: tone, then recording (R153, R154). -/
def State.airingSample (s : State) (i : Nat) : Int :=
  if s.airing.given < s.airing.tone then toneSample (i % 48)
  else (sampleAt s.airingSamples ((s.airing.given - s.airing.tone) * Config.blockFrames + i)).toInt

/-- A mono sample at the alert gain (R154). -/
def State.alertSample (s : State) (i : Nat) : Sample :=
  BitVec.ofInt 24 (s.airingSample i * (s.airing.gain.blk : Int) / 32768)

/-- The fade of the FADE block: times (239 − f), over 240, truncated toward zero (R157). -/
def fadeOutSample (x : Sample) (f : Nat) : Sample := BitVec.ofInt 24 ((x.toInt * (239 - (f : Int))).tdiv 240)

/-- The alert block (R146, R154, R157). -/
def State.alertBlock (s : State) : List Frame :=
  match s.airing.state with
  | .tone | .message => makeBlock (fun i => Frame.mono (s.alertSample i))
  | .fade => makeBlock (fun i => Frame.mono (fadeOutSample (s.alertSample i) i))
  | .idle | .gap => silentBlock

/-! ## Air block (R95, R96, R103) -/

/-- A sample scaled by a gain with floor. -/
def scaled (x : Sample) (g : Nat) : Int := x.toInt * (g : Int) / 32768

/-- The block each source gives (R95). -/
def State.sourceBlock (s : State) : AirSource → List Frame
  | .alert => s.alertBlock
  | .rescue =>
    let fs := s.rescueFrames
    makeBlock (fun i =>
      let x := frameAt fs i
      ⟨BitVec.ofInt 24 (scaled x.l s.mixer.fillGain.blk), BitVec.ofInt 24 (scaled x.r s.mixer.fillGain.blk)⟩)
  | .programme => s.delay.out.getD silentBlock
  | .failsafe => s.mixer.input.studio

/-- A programme block with the overlay of the return fade (R103). -/
def State.overlay (s : State) (p : List Frame) : List Frame :=
  let fs := s.rescueFrames
  makeBlock (fun i =>
    let x := frameAt fs i
    let y := frameAt p i
    ⟨saturate (y.l.toInt + scaled x.l s.air.fade.blk), saturate (y.r.toInt + scaled x.r s.air.fade.blk)⟩)

/-- The mean of two samples with floor (R96). -/
def mean (a b : Sample) : Sample := BitVec.ofInt 24 ((a.toInt + b.toInt) / 2)

/-- The departing source's block in a crossfade: silence when it is no longer present (R96). -/
def State.departing (s : State) (c : Crossfade) : List Frame :=
  let p := if c.present then s.sourceBlock c.source else silentBlock
  if c.overlay then s.overlay p else p

/-- The air output block (R95, R96, R103). -/
def State.airFrames (s : State) : List Frame :=
  let here := s.sourceBlock s.air.now
  match s.air.crossfade with
  | some c =>
    let away := s.departing c
    makeBlock (fun i =>
      let a := frameAt away i
      let b := frameAt here i
      ⟨mean a.l b.l, mean a.r b.r⟩)
  | none => if s.air.fading then s.overlay here else makeBlock (frameAt here)

/-- The air output block with what goes with it (R98). -/
def State.airBlockNow (s : State) : AirBlock where
  frames := s.airFrames
  time := s.time
  flags :=
    { alert := s.air.now == .alert
      rescue := s.air.now == .rescue || s.air.fading
      delaySafe := s.safe
      failsafe := s.air.now == .failsafe }
  ident := if s.air.now = .alert then some s.airing.ident else none

/-! ## Silence (R100) -/

/-- The largest sample magnitude of a block. -/
def peak (fs : List Frame) : Nat := fs.foldl (fun m x => max m (max (magnitude x.l) (magnitude x.r))) 0

/-- What an active monitor judges of the programme block: silent, heard, or neither when there was no output (R100). -/
def State.judge (s : State) : Option Bool :=
  if s.monitor.state = .inactive then none
  else s.delay.out.map (fun fs => decide (peak fs < s.sections.station.silenceThreshold))

end Sys2Proof.Machine
end

