-- ==== Sys2Proof/Machine/Air.lean ====
section
/-! DEFINITION. The air switch's choice and the dead-air monitor (R95 to R105). -/

namespace Sys2Proof.Machine

open Sys2Proof

/-! ## Arbitration (R95, R96, R103) -/

/-- The switch compares the source of highest rank with the source of the block before: a change makes the block that
begins a crossfade block, and ends a return fade (R95, R96, R103). It is worked out anew after each event of a boundary
that makes a source present or absent. -/
def arbitrate (s : State) : State :=
  let now := s.topSource
  let change := now != s.air.before
  let fade := s.air.fading || s.air.crossfade.any (fun c => c.overlay)
  { s with air := { s.air with
    now := now
    crossfade := if change then some ⟨s.air.before, s.present s.air.before, fade⟩ else none
    fading := fade && !change } }

/-! ## Dead air (R100, R101) -/

/-- A rescue begins: the RESCUE source is present and its reader at frame 0 (R101). -/
def beginRescue (s : State) : State :=
  arbitrate { s with monitor := { s.monitor with rescue := true, pos := 0, live := s.rescue.state == .ready } }

/-- Dead-air rescue is ENABLED and the store READY (R101). -/
def State.mayRescue (s : State) : Bool := s.sections.station.rescueEnabled && s.rescue.state == .ready

/-- A silent block brings the silence count to the silence time (R100). -/
def State.goesDead (s : State) : Bool :=
  s.monitor.state == .watching && s.monitor.judged == some true &&
    decide (s.sections.station.silenceTime ≤ s.monitor.silence)

/-- SILENCE_TIME_REACHED (R101): DEAD, DEAD_AIR, and a rescue when it may begin. -/
def execSilenceTimeReached (s : State) : Out :=
  .next (if s.goesDead then
    let s1 := raise (Raising.plain .deadAir .airSwitch)
      { s with monitor := { s.monitor with state := .dead, recovery := 0, judged := none } }
    if s.mayRescue then beginRescue s1 else s1
  else s)

/-- RESCUE_START (R101): a later boundary in DEAD at which a rescue may begin. -/
def execRescueStart (s : State) : Out :=
  .next (if s.monitor.state = .dead ∧ !s.monitor.rescue ∧ s.mayRescue then beginRescue s else s)

/-- The recovery count has reached 40 (R100). -/
def State.recovers (s : State) : Bool :=
  s.monitor.state == .dead && decide (Config.recoveryBlocks ≤ s.monitor.recovery)

/-- RECOVERY (R103): WATCHING with both counts at 0 and the rescue over; from RESCUE the switch returns by a return fade,
whose source is PROGRAMME, so a change at the same boundary departs from the programme with its overlay. The rescue ramp
starts from the fill gain before that gain's own step at this boundary (log entry 77; DESIGN CHOICE). -/
def execRecovery (s : State) : Out :=
  .next (if s.recovers then
    let s1 := { s with monitor := { s.monitor with
      state := .watching, silence := 0, recovery := 0, rescue := false, judged := none } }
    if s.monitor.rescue ∧ s.air.before = .rescue ∧ s1.topSource = .programme then
      { s1 with air := { s1.air with
        now := .programme, before := .programme, crossfade := none, fading := true
        fade := (Ramp.settled s.mixer.fillGain.base).startAt 0 Config.returnFadeBlocks } }
    else arbitrate s1
  else s)

/-- RETURN_FADE_END (R103): the fade is complete, and the reader stops. -/
def execReturnFadeEnd (s : State) : Out :=
  .next (if s.air.fading && s.air.fade.complete then { s with air := { s.air with fading := false } } else s)

/-- RESCUE_STOP (R104): dead-air rescue DISABLED ends a rescue at the boundary after its application. -/
def execRescueStop (s : State) : Out :=
  .next (if s.monitor.rescue && !s.sections.station.rescueEnabled then
    arbitrate { s with monitor := { s.monitor with rescue := false } }
  else s)

/-! ## Part states (R99, R105) -/

/-- The monitor enters WATCHING as the part enters RUNNING at the end of an attach (R99). -/
def monitorStarts (s : State) : State :=
  { s with monitor := { s.monitor with state := .watching, silence := 0, recovery := 0, judged := none } }

/-- HALT (R105): INACTIVE with both counts at 0, and the rescue over. -/
def monitorHalts (s : State) : State :=
  { s with monitor := { s.monitor with state := .inactive, silence := 0, recovery := 0, rescue := false, judged := none } }

/-- PROGRAMME_RESET (R105). A return fade ends at once: the block in progress is formed without its overlay and without
the RESCUE flag (R9; log entry 103; DESIGN CHOICE). -/
def monitorReset (s : State) : State :=
  { s with
    monitor := { s.monitor with
      state := if s.monitor.state = .dead then .watching else s.monitor.state
      silence := 0, recovery := 0, rescue := false, judged := none }
    air := { s.air with fading := false } }

/-- The judgement of the programme block that has ended (R100). -/
def Monitor.judge (silent : Option Bool) (m : Monitor) : Monitor :=
  match m.state, silent with
  | .watching, some true => { m with silence := m.silence + 1, judged := silent }
  | .watching, some false => { m with silence := 0, judged := silent }
  | .dead, some true => { m with recovery := 0, judged := silent }
  | .dead, some false => { m with recovery := m.recovery + 1, judged := silent }
  | .inactive, _ | .watching, none | .dead, none => { m with judged := none }

/-- The dead-air reader as a block begins (R71, R102): it advances through a rescue and a return fade, and starts again
at frame 0 when the store has become READY. -/
def readerBegins (s : State) : State :=
  if s.monitor.rescue || s.air.fading then
    if s.rescue.state = .ready then
      { s with monitor := { s.monitor with
        pos := if s.monitor.live then s.rescue.advance s.monitor.pos else 0, live := true } }
    else { s with monitor := { s.monitor with live := false } }
  else { s with monitor := { s.monitor with live := false } }

end Sys2Proof.Machine
end

