-- ==== Sys2Proof/Machine/Alerts.lean ====
section
/-! DEFINITION. Alert reception and the alert table: the decoders, policy resolution, admission, the recorder, expiry,
and the pending rules at entry to PENDING (R125 to R145, R147, R151). -/

namespace Sys2Proof.Machine

open Sys2Proof

/-! ## Decoders (R125 to R131) -/

/-- Replace a decoder. -/
def State.setDecoder (s : State) (p : PortId) (d : Decoder) : State := { s with decoder := s.decoder.set p d }

/-- A decoder back in HUNT with no bytes held. -/
def Decoder.hunt (d : Decoder) : Decoder := { d with inFrame := false, bytes := [], expected := none }

/-- An abandoned or failed frame: ALERT_FRAME with the port, the reason and the frame's first bytes (R130). -/
def badFrame (p : PortId) (reason : AlertReason) (held : List Byte) (s : State) : State :=
  raise { Raising.plain .alertFrame (decoderUnit p) with
    subject := BitVec.ofNat 64 (sideCode p), detail := reason.code, snapshot := snapshot16 held }
    (s.setDecoder p (s.decoder.get p).hunt)

/-- A frame that passed its checks waits for the alert table, with the station time of this block (R131). -/
def handFrame (p : PortId) (bs : List Byte) (s : State) : State :=
  let d := (s.decoder.get p).hunt
  s.setDecoder p { d with handed := d.handed ++ [⟨bs, s.time⟩] }

/-- A complete frame (R127, R131). -/
def completeFrame (p : PortId) (bs : List Byte) (s : State) : State :=
  if !alertCheckRight bs then badFrame p .crc bs s
  else if isAlertHeader bs then
    match headerFault bs with
    | some r => badFrame p r bs s
    | none => handFrame p bs s
  else handFrame p bs s

/-- The length a frame is expected to have once that is known: 14 for an end frame, 25 + 3 n for a header (R127). -/
def frameLength (bs : List Byte) : Option Nat :=
  if bs.getD 1 0 = alertTypeEnd then some 14
  else if 23 ≤ bs.length then some (25 + 3 * headerAreaCount bs)
  else none

/-- A good character in IN_FRAME (R126, R127). -/
def extendFrame (p : PortId) (value : Byte) (arrival : Nat) (s : State) : State :=
  let d := s.decoder.get p
  let bs := d.bytes ++ [value]
  let s' := s.setDecoder p { d with bytes := bs, expected := frameLength bs, lineBreak := false, lastAt := arrival }
  if bs.length = 2 ∧ value ≠ alertTypeHeader ∧ value ≠ alertTypeEnd then badFrame p .type bs s'
  else if frameLength bs = some bs.length then completeFrame p bs s'
  else s'

/-- GOOD_CHARACTER (R125, R126). -/
def goodCharacter (p : PortId) (value : Byte) (arrival : Nat) (s : State) : State :=
  let d := s.decoder.get p
  if d.inFrame then extendFrame p value arrival s
  else if value = 0x7E then
    s.setDecoder p { d with
      inFrame := true, bytes := [value], expected := none, lineBreak := false, lastAt := arrival }
  else s.setDecoder p { d with lineBreak := false }

def execGoodCharacter (p : PortId) (value : Byte) (arrival : Nat) (s : State) : Out :=
  .next (goodCharacter p value arrival s)

/-- FRAMING_ERROR (R129). -/
def execFramingError (p : PortId) (s : State) : Out :=
  .next (if (s.decoder.get p).inFrame then badFrame p .framing (s.decoder.get p).bytes s else s)

/-- An entry marked to end its recording; the first mark stands (log entry 25). -/
def AlertEntry.marked (m : RecMark) (e : AlertEntry) : AlertEntry :=
  if e.mark.isNone then { e with mark := some m, fresh := true } else e

/-- Every recording from a port's audio line is marked to end (R129, R140). -/
def markBreak (p : PortId) (s : State) : State :=
  { s with alerts := { s.alerts with entry := s.alerts.entry.map (fun e =>
    if e.state = .recording ∧ e.recPort = p then e.marked .lineBreak else e) } }

/-- BREAK_CHARACTER (R129): a frame in progress is abandoned; recordings end when the status moves to BREAK. -/
def breakCharacter (p : PortId) (s : State) : State :=
  let d := s.decoder.get p
  let s1 := if d.inFrame then badFrame p .lineBreak d.bytes s else s
  let s2 := s1.setDecoder p { s1.decoder.get p with lineBreak := true }
  if d.lineBreak then s2 else markBreak p s2

def execBreakCharacter (p : PortId) (s : State) : Out := .next (breakCharacter p s)

/-- ALERT_FRAME_IDLE (R128): 1,000 frames in IN_FRAME with no character. -/
def execAlertFrameIdle (p : PortId) (now : Nat) (s : State) : Out :=
  let d := s.decoder.get p
  .next (if d.inFrame && decide (d.lastAt + Config.idleFrames ≤ now) then badFrame p .idle d.bytes s else s)

/-! ## Entries -/

/-- An entry of the alert table. -/
def State.entry (s : State) (n : EntryNo) : AlertEntry := s.alerts.entry.get n

/-- Replace an entry. -/
def State.setEntry (s : State) (n : EntryNo) (e : AlertEntry) : State :=
  { s with alerts := { s.alerts with entry := s.alerts.entry.set n e } }

/-- The index of an entry, 1 to 8. -/
def entryIndex (n : EntryNo) : Nat := n.val + 1

/-- The causes of ALERT_STATE (R145, R160). -/
inductive AlertCause where
  | evicted
  | recorded
  | full
  | lineBreak
  | expired
  | hold
  | deadline
  | forward
  | forwardOnCompletion
  | start
  | complete
  | cancel
deriving DecidableEq, Repr

def AlertCause.code : AlertCause → Nat
  | .evicted => 0 | .recorded => 1 | .full => 2 | .lineBreak => 3 | .expired => 4 | .hold => 5 | .deadline => 6
  | .forward => 7 | .forwardOnCompletion => 8 | .start => 9 | .complete => 10 | .cancel => 11

/-- The entry flags in the order of R136. -/
def EntryFlags.toNat (f : EntryFlags) : Nat :=
  packBits [f.truncated, f.noAudio, f.forwardOnCompletion, f.deadline, f.partialAir, f.linkDown]

/-- An ALERT_STATE entry: `last` is the recording length, or the blocks given for COMPLETE and CANCEL; `cut` the policy
answer at START (R145, R160). -/
def alertStateEntry (n : EntryNo) (old new : EntryState) (cause : AlertCause) (cut : Bool) (last : Nat)
    (e : AlertEntry) (now : Time) : LogEntry :=
  entryOf .alertState .alertUnit now (e.flags.toNat + 64 * bit cut) e.ident.message.toNat e.ident.sender.toNat
    (packBytes [entryIndex n, old.code, new.code, cause.code]) last

/-- Write ALERT_STATE for an entry as it now stands. The policy answer's bit is START's alone, and 0 here (R160; log entry
106; DESIGN CHOICE). -/
def logAlert (n : EntryNo) (old : EntryState) (cause : AlertCause) (last : Nat) (s : State) : State :=
  handLog (alertStateEntry n old (s.entry n).state cause false last (s.entry n) s.time) s

/-- An entry in a final state: its slot is free and its timers no longer apply (R141, R143). A recording stops with what it
has: the block in progress is not written and not counted (log entry 66; DESIGN CHOICE). FORWARD_ON_COMPLETION stays set
where it was set (R149; log entry 82; DESIGN CHOICE). -/
def AlertEntry.finished (st : EntryState) (e : AlertEntry) : AlertEntry :=
  { e with state := st, slot := none, holdUntil := none, deadline := none, started := false, mark := none }

/-- An entry reaches a final state: it leaves the air queue, and the ALERT_TABLE_FULL condition ends (R137, R143). -/
def finishEntry (n : EntryNo) (st : EntryState) (s : State) : State :=
  { s with alerts := { s.alerts with
    entry := s.alerts.entry.set n ((s.entry n).finished st)
    queue := s.alerts.queue.filter (fun q => q.entry != n)
    full := false } }

/-! ## The air queue (R151) -/

/-- Class rank: A, C, W, T (R151). -/
def classRank (c : Byte) : Nat := if c = 0x41 then 0 else if c = 0x43 then 1 else if c = 0x57 then 2 else 3

/-- The keys of a queued entry, in order (R151). Queueing times are compared as plain numbers, across the wrap of station
time and after a backward SET_TIME too (log entry 81; DESIGN CHOICE). -/
def State.queueKey (s : State) (q : Queued) : Nat × Nat × Nat :=
  (classRank (s.entry q.entry).originClass, q.time.toNat, q.entry.val)

/-- Comparison of keys, most significant first. -/
def keyBefore (x y : Nat × Nat × Nat) : Bool :=
  decide (x.1 < y.1) ||
    (x.1 == y.1 && (decide (x.2.1 < y.2.1) || (x.2.1 == y.2.1 && decide (x.2.2 < y.2.2))))

/-- Put a queued entry in its place. -/
def State.placeQueued (s : State) (q : Queued) : List Queued → List Queued
  | [] => [q]
  | x :: xs => if keyBefore (s.queueKey q) (s.queueKey x) then q :: x :: xs else x :: s.placeQueued q xs

/-- An entry enters QUEUED (R147 to R151): FORWARD_ON_COMPLETION is cleared and its timers no longer apply. -/
def enterQueued (n : EntryNo) (cause : AlertCause) (s : State) : State :=
  let e := s.entry n
  let s1 := s.setEntry n { e with
    state := .queued, holdUntil := none, deadline := none
    flags := { e.flags with forwardOnCompletion := false, deadline := e.flags.deadline || cause == .deadline } }
  let s2 := { s1 with alerts := { s1.alerts with queue := s1.placeQueued ⟨n, s.time⟩ s1.alerts.queue } }
  logAlert n e.state cause e.recLen s2

/-! ## Entry to PENDING (R147) -/

/-- Seconds of station time. -/
def seconds (n : Nat) : Nat := n * Config.secondFrames

/-- The timers of an entry that has entered PENDING, or its queueing at once (R147). -/
def settlePending (n : EntryNo) (s : State) : State :=
  let e := s.entry n
  let p := s.sections.policy
  if e.policy = .manual ∧ e.flags.forwardOnCompletion then enterQueued n .forwardOnCompletion s
  else if e.policy = .auto then s.setEntry n { e with holdUntil := some (later s.time (seconds p.forwardHold)) }
  else if e.policy = .manual ∧ p.manualDeadline ≠ 0 then
    s.setEntry n { e with deadline := some (later s.time (seconds p.manualDeadline)) }
  else s

/-! ## Identity, duplicates and conflicts (R132, R133) -/

/-- The entry that holds an identity, in any state other than FREE (R132). -/
def State.holder (s : State) (i : Identity) : Option EntryNo :=
  places8.find? (fun n => (s.entry n).state != .free && (s.entry n).ident == i)

/-- The fields in which a header differs from an entry: CLASS, EVENT, ISSUE_TIME, DURATION, AREAS (R133). -/
def differences (e : AlertEntry) (bs : List Byte) : List Bool :=
  [e.originClass != headerClass bs, e.event != headerEvent bs, e.issue != headerIssue bs,
   e.duration != headerDuration bs, e.areas != headerAreas bs]

/-- A port added to the heard-on set. -/
def AlertEntry.hear (p : PortId) (e : AlertEntry) : AlertEntry :=
  match p with
  | .a => { e with heardA := true }
  | .b => { e with heardB := true }

/-- A duplicate (R132): the copy count and the heard-on set; no entry for IGNORE. -/
def duplicateHeader (n : EntryNo) (p : PortId) (s : State) : State :=
  let e := s.entry n
  let e' := { e with copies := satInc Config.max16 e.copies }.hear p
  let s' := s.setEntry n e'
  if e.policy = .ignore then s'
  else
    handLog (entryOf .alertDuplicate .alertUnit s.time 0 e.ident.message.toNat e.ident.sender.toNat
      (packBytes [entryIndex n, sideCode p, e.state.code]) e'.copies) s'

/-- A conflict (R133): the entry is unchanged. -/
def conflictHeader (n : EntryNo) (p : PortId) (bs : List Byte) (s : State) : State :=
  let e := s.entry n
  handLog (entryOf .alertConflict .alertUnit s.time 0 e.ident.message.toNat e.ident.sender.toNat
    (packBytes [entryIndex n, sideCode p]) (packBits (differences e bs))) s

/-! ## Resolution (R134, R135) -/

/-- Two area codes match (R134). -/
def codesMatch (x y : Nat) : Bool := x == y || ((x % 1000 == 0 || y % 1000 == 0) && x / 1000 == y / 1000)

/-- An alert's areas match the locale (R134). -/
def localeMatches (locale areas : List Nat) : Bool := areas.any (fun a => locale.any (codesMatch a))

/-- The policy of a new alert and the reason, the steps in order (R135). -/
def resolve (p : AlertSettings) (cls : Byte) (event : BitVec 24) (sender : BitVec 64) (areas : List Nat) :
    Policy × Resolution :=
  if cls = 0x54 ∧ !p.airTests then (.logOnly, .test)
  else if !p.authority.isEmpty && !p.authority.contains sender then (.logOnly, .unlistedSender)
  else if !localeMatches p.locale areas then (.logOnly, .noArea)
  else
    match p.events.find? (fun x => x.code == event) with
    | some x => (x.policy, .table)
    | none => (p.defaultPolicy, .default)

/-! ## Admission (R137) -/

/-- The FREE entry of lowest index. -/
def State.freeEntry (s : State) : Option EntryNo := places8.find? (fun n => (s.entry n).state == .free)

/-- The final entry with the earliest expiry, the lower index first on equal expiries. -/
def State.evictable (s : State) : Option EntryNo :=
  (places8.filter (fun n => (s.entry n).state.final)).foldl
    (fun best n =>
      match best with
      | none => some n
      | some m =>
        if signedDistance s.time (s.entry n).expiry < signedDistance s.time (s.entry m).expiry then some n else some m)
    none

/-- A record slot is free when no entry holds it. -/
def State.slotFree (s : State) (k : SlotId) : Bool := !s.alerts.entry.toList.any (fun e => e.slot == some k)

/-- The lowest free record slot. -/
def State.freeSlot (s : State) : Option SlotId :=
  if s.slotFree .a then some .a else if s.slotFree .b then some .b else none

/-- The ALERT_RECEIVED entry (R137). `index` is 0 for an alert not admitted, and UNLISTED_SENDER says there too that
step 2 of R135 decided (log entry 104; DESIGN CHOICE). -/
def receivedEntry (now : Time) (admitted : Bool) (index : Nat) (p : PortId) (bs : List Byte) (st : EntryState)
    (r : Policy × Resolution) : LogEntry :=
  let i := headerIdentity bs
  entryOf .alertReceived .alertUnit now (packBits [!admitted, r.2 == .unlistedSender]) i.message.toNat i.sender.toNat
    (packBytes [index, sideCode p, (headerClass bs).toNat, st.code])
    ((headerEvent bs).toNat + 2 ^ 24 * (r.1.code + 16 * r.2.code))

/-- The entry that an admitted header makes (R136, R137). -/
def admittedEntry (p : PortId) (f : HandedFrame) (r : Policy × Resolution) (slot : Option SlotId) : AlertEntry :=
  let airs := r.1 == .auto || r.1 == .manual
  { AlertEntry.blank with
    state := if !airs then .noted else if slot.isSome then .recording else .pending
    ident := headerIdentity f.bytes
    originClass := headerClass f.bytes
    event := headerEvent f.bytes
    areas := headerAreas f.bytes
    issue := headerIssue f.bytes
    duration := headerDuration f.bytes
    received := f.time
    expiry := later f.time (headerDuration f.bytes * Config.minuteFrames)
    heardA := p == .a
    heardB := p == .b
    copies := 1
    policy := r.1
    resolution := r.2
    slot := if airs then slot else none
    recPort := p
    flags := { AlertEntry.blank.flags with noAudio := airs && slot.isNone }
    fresh := true }

/-- A new alert takes an entry (R137). -/
def admitAlert (n : EntryNo) (p : PortId) (f : HandedFrame) (r : Policy × Resolution) (s : State) : State :=
  let e := admittedEntry p f r s.freeSlot
  let s1 := s.setEntry n e
  let s2 := if e.state.final then { s1 with alerts := { s1.alerts with full := false } } else s1
  let s3 := handLog (receivedEntry s.time true (entryIndex n) p f.bytes e.state r) s2
  if e.state = .pending then settlePending n s3 else s3

/-- A final entry is evicted (R137). Its ALERT_STATE entry carries the flags the evicted alert held (log entry 79; DESIGN
CHOICE). -/
def evict (n : EntryNo) (s : State) : State :=
  let e := s.entry n
  handLog (alertStateEntry n e.state .free .evicted false e.recLen e s.time) (s.setEntry n AlertEntry.blank)

/-- A new alert that finds no place (R137): ALERT_TABLE_FULL once while the condition holds, and ALERT_RECEIVED, with FREE
as the state entered (log entry 80; DESIGN CHOICE), after the raising (log entry 97; DEDUCED). -/
def refuseAlert (p : PortId) (f : HandedFrame) (r : Policy × Resolution) (s : State) : State :=
  let i := headerIdentity f.bytes
  let s1 := if s.alerts.full then s
    else raise { Raising.plain .alertTableFull .alertUnit with subject := i.sender, message := i.message }
      { s with alerts := { s.alerts with full := true } }
  handLog (receivedEntry s.time false 0 p f.bytes .free r) s1

/-- A new alert: resolved, then admitted (R135, R137). -/
def newAlert (p : PortId) (f : HandedFrame) (s : State) : State :=
  let r := resolve s.sections.policy (headerClass f.bytes) (headerEvent f.bytes) (headerIdentity f.bytes).sender
    (headerAreas f.bytes)
  match s.freeEntry with
  | some n => admitAlert n p f r s
  | none =>
    match s.evictable with
    | some n => admitAlert n p f r (evict n s)
    | none => refuseAlert p f r s

/-- A header handed to the alert table (R132). -/
def tableHeader (p : PortId) (f : HandedFrame) (s : State) : State :=
  match s.holder (headerIdentity f.bytes) with
  | none => newAlert p f s
  | some n => if (differences (s.entry n) f.bytes).any id then conflictHeader n p f.bytes s else duplicateHeader n p s

/-- An end frame handed to the alert table (R139). -/
def tableEnd (p : PortId) (f : HandedFrame) (s : State) : State :=
  match s.holder (endIdentity f.bytes) with
  | none => s
  | some n =>
    let e := s.entry n
    if e.state = .recording ∧ e.recPort = p then s.setEntry n (e.marked .endFrame) else s

/-- The frame that a port has handed first, if it is of the kind the table is to take. -/
def State.firstHanded (s : State) (p : PortId) (header : Bool) : Option HandedFrame :=
  match (s.decoder.get p).handed with
  | [] => none
  | f :: _ => if isAlertHeader f.bytes = header then some f else none

/-- The port's first handed frame is taken. -/
def takeHanded (p : PortId) (s : State) : State :=
  s.setDecoder p { s.decoder.get p with handed := (s.decoder.get p).handed.drop 1 }

/-- ALERT_HEADER (R132). -/
def execAlertHeader (p : PortId) (s : State) : Out :=
  .next (match s.firstHanded p true with
    | none => s
    | some f => tableHeader p f (takeHanded p s))

/-- ALERT_END_FRAME (R139). -/
def execAlertEndFrame (p : PortId) (s : State) : Out :=
  .next (match s.firstHanded p false with
    | none => s
    | some f => tableEnd p f (takeHanded p s))

/-! ## The recorder (R138 to R140) -/

/-- RECORDING_START (R138): at the first boundary after the header's block. -/
def execRecordingStart (n : EntryNo) (s : State) : Out :=
  let e := s.entry n
  .next (if e.state = .recording ∧ !e.started ∧ !e.fresh then s.setEntry n { e with started := true } else s)

/-- The samples of a slot with a block written at a frame (R138). -/
def writeBlock (len : Nat) (block old : List Sample) : List Sample :=
  old.take len ++ block ++ old.drop (len + block.length)

/-- One recording's block of its port's audio line, written at the end of the block (R138). -/
def recordBlock (n : EntryNo) (s : State) : State :=
  let e := s.entry n
  match e.slot with
  | none => s
  | some k =>
    if e.state = .recording ∧ e.started ∧ e.recLen < Config.slotFrames then
      let audio := s.mixer.input.alertAudio.get e.recPort
      let block := makeBlock (sampleAt audio)
      let s' := { s with alerts := { s.alerts with
        slot := s.alerts.slot.set k (writeBlock e.recLen block (s.alerts.slot.get k)) } }
      s'.setEntry n { e with recLen := e.recLen + Config.blockFrames }
    else s

/-- A recording ends and its entry enters PENDING (R140). -/
def endRecording (n : EntryNo) (truncated : Bool) (cause : AlertCause) (s : State) : State :=
  let e := s.entry n
  let s1 := s.setEntry n { e with
    state := .pending, started := false, mark := none, fresh := true
    flags := { e.flags with
      truncated := e.flags.truncated || truncated, noAudio := e.flags.noAudio || e.recLen == 0 } }
  settlePending n (logAlert n .recording cause e.recLen s1)

/-- No entry of lower index waits for the same event: one event moves its entries in increasing index (R145). -/
def State.isFirst (s : State) (waits : AlertEntry → Bool) (n : EntryNo) : Bool :=
  places8.all (fun m => !(decide (m < n) && waits (s.entry m)))

/-- A recording ends at this boundary: an end frame or a break came in the block before it, or the slot is full (R140). -/
def AlertEntry.recordingEnds (e : AlertEntry) : Bool :=
  e.state == .recording && ((e.mark.isSome && !e.fresh) || decide (Config.slotFrames ≤ e.recLen))

/-- RECORDING_END (R140): at the boundary after the end frame's or the break's block. The recordings that end at one
boundary end in increasing entry index, whatever ends them (R145). -/
def execRecordingEnd (n : EntryNo) (s : State) : Out :=
  let e := s.entry n
  .next (if e.state = .recording ∧ !e.fresh ∧ s.isFirst AlertEntry.recordingEnds n then
    match e.mark with
    | none => s
    | some .endFrame => endRecording n false .recorded s
    | some .lineBreak => endRecording n true .lineBreak s
  else s)

/-- RECORDING_FULL (R140), in its turn among the recordings that end at the boundary (R145). An end frame taken in the
block that fills the slot comes first, and ends the recording with TRUNCATED clear. -/
def execRecordingFull (n : EntryNo) (s : State) : Out :=
  let e := s.entry n
  .next (if e.state = .recording ∧ Config.slotFrames ≤ e.recLen ∧ s.isFirst AlertEntry.recordingEnds n then
    if e.mark = some .endFrame ∧ !e.fresh then endRecording n false .recorded s else endRecording n true .full s
  else s)

/-! ## Expiry (R142) -/

/-- RECORDING, PENDING and QUEUED entries expire. -/
def EntryState.expires : EntryState → Bool
  | .recording | .pending | .queued => true
  | .free | .airing | .aired | .cancelled | .expired | .noted => false

/-- An entry expires (R142). -/
def expireEntry (n : EntryNo) (s : State) : State :=
  let e := s.entry n
  logAlert n e.state .expired e.recLen (finishEntry n .expired s)

/-- An entry whose expiry has been reached (R142). -/
def AlertEntry.expiresNow (now : Time) (e : AlertEntry) : Bool := e.state.expires && reached now e.expiry

/-- ALERT_EXPIRY (R142); the expiries of one boundary pass in increasing entry index (R145). -/
def execAlertExpiry (n : EntryNo) (s : State) : Out :=
  .next (if (s.entry n).expiresNow s.time && s.isFirst (AlertEntry.expiresNow s.time) n then expireEntry n s else s)

/-- No boundary has yet come since an event of the block that begins (R138, R140, R148). -/
def Alerts.settled (a : Alerts) : Alerts := { a with entry := a.entry.map (fun e => { e with fresh := false }) }

end Sys2Proof.Machine
end

