-- ==== Sys2Proof/Machine/Callers.lean ====
section
/-! DEFINITION. The caller unit: the table's changes, the next-up queue and on-air order, requests and buttons, the
holds, and the settings (R72 to R89). -/

namespace Sys2Proof.Machine

open Sys2Proof

/-! ## The table -/

/-- The causes of CALLER_STATE (R89). -/
inductive CallerCause where
  | presence
  | framing
  | request
  | button
  | limit
  | alert
  | halt
  | reset
  | cleared
deriving DecidableEq, Repr

def CallerCause.code : CallerCause → Nat
  | .presence => 0 | .framing => 1 | .request => 2 | .button => 3 | .limit => 4 | .alert => 5 | .halt => 6
  | .reset => 7 | .cleared => 8

/-- A line's entry. -/
def State.line (s : State) (n : LineNo) : Line := s.callers.line.get n

/-- The number that a request or the log gives a line, 1 to 4. -/
def lineNumber (n : LineNo) : Nat := n.val + 1

/-- The line a request names, if its number is in 1 … 4 (R79 to R83). -/
def lineOf (w : Word) : Option LineNo :=
  if w = 1 then some 0 else if w = 2 then some 1 else if w = 3 then some 2 else if w = 4 then some 3 else none

/-- Replace a line's entry. -/
def State.setLine (s : State) (n : LineNo) (l : Line) : State :=
  { s with callers := { s.callers with line := s.callers.line.set n l } }

/-- A line's place in the queue from 1, or 0 (R89). -/
def queuePlace (q : List LineNo) (n : LineNo) : Nat := if q.contains n then q.findIdx (· == n) + 1 else 0

/-- The CALLER_STATE entry of a line as it now stands (R89). The tag word of a line without a tag is 0 (log entry 89; DESIGN
CHOICE). -/
def callerEntry (n : LineNo) (old : LineState) (cause : CallerCause) (s : State) : LogEntry :=
  let l := s.line n
  entryOf .callerState .callerUnit s.time (packBits [l.heldForAlert, l.tag.isSome])
    (packBytes [old.code, l.state.code]) (lineNumber n) (l.tag.getD 0).toNat
    (packBytes [queuePlace s.callers.queue n, cause.code])

/-- Start a ramp of a line's mix gain during a block (R88). -/
def State.rampLine (s : State) (n : LineNo) (target len : Nat) : State :=
  { s with mixer := { s.mixer with line := s.mixer.line.set n ((s.mixer.line.get n).start target len) } }

/-! ## Calls arriving and leaving (R76 to R78) -/

/-- A line enters SCREENING with the tag of the section 5 copy (R76). -/
def toScreening (n : LineNo) (s : State) : State :=
  let l := s.line n
  let s' := s.setLine n { l with
    state := .screening, tag := (s.sections.callers.lines.get n).tag, since := s.time, heldForAlert := false,
    remembered := false }
  handLog (callerEntry n l.state .presence s') s'

/-- A line leaves the queue and the on-air order. -/
def Callers.without (c : Callers) (n : LineNo) : Callers :=
  { c with queue := c.queue.filter (· != n), onAir := c.onAir.filter (· != n) }

/-- A line enters CLEARING (R77): it leaves the queue or the on-air order, and an ON_AIR line's mix gain fades over 2
blocks. -/
def toClearing (n : LineNo) (cause : CallerCause) (s : State) : State :=
  let l := s.line n
  let c := s.callers.without n
  let s1 := { s with callers := { c with line := c.line.set n { l with
    state := .clearing, since := s.time, heldForAlert := false, clearing := 2 } } }
  let s2 := if l.state = .onAir then s1.rampLine n 0 2 else s1
  handLog (callerEntry n l.state cause s2) s2

/-- PRESENCE_RISE (R76): the sampled level goes from low to high. -/
def presenceRise (n : LineNo) (s : State) : State :=
  let l := s.line n
  let s' := s.setLine n { l with presence := true }
  match l.state with
  | .idle => toScreening n s'
  | .clearing => s.setLine n { l with presence := true, remembered := true }
  | .screening | .hold | .onAir | .outOfService => s'

def execPresenceRise (n : LineNo) (s : State) : Out :=
  .next (if (s.line n).presence then s else presenceRise n s)

/-- PRESENCE_FALL (R77): the sampled level goes from high to low. -/
def presenceFall (n : LineNo) (s : State) : State :=
  let l := s.line n
  let s' := s.setLine n { l with presence := false, remembered := false }
  if l.state.call then toClearing n .presence s' else s'

def execPresenceFall (n : LineNo) (s : State) : Out :=
  .next (if (s.line n).presence then presenceFall n s else s)

/-- FRAMING_LOST (R78): LINE_FAULT with the line as subject, the out-of-service mark, and CLEARING from a call state or
IDLE. -/
def framingLost (n : LineNo) (s : State) : State :=
  let s1 := raise { Raising.plain .lineFault .callerUnit with subject := BitVec.ofNat 64 (lineNumber n) } s
  let l := s1.line n
  let s2 := s1.setLine n { l with framingGood := false, oos := true }
  if l.state.call || l.state == .idle then toClearing n .framing s2 else s2

def execFramingLost (n : LineNo) (s : State) : Out :=
  .next (if (s.line n).framingGood then framingLost n s else s)

/-- A line leaves OUT_OF_SERVICE for IDLE with its mark cleared (R78). -/
def toService (n : LineNo) (s : State) : State :=
  let l := s.line n
  let s' := s.setLine n { l with state := .idle, since := s.time, oos := false }
  handLog (callerEntry n l.state .framing s') s'

/-- FRAMING_REGAINED (R78): a line in OUT_OF_SERVICE goes to IDLE; one still CLEARING passes there when its clearing
ends. -/
def framingRegained (n : LineNo) (s : State) : State :=
  let l := s.line n
  let s' := s.setLine n { l with framingGood := true }
  if l.state = .outOfService then toService n s' else s'

def execFramingRegained (n : LineNo) (s : State) : Out :=
  .next (if (s.line n).framingGood then s else framingRegained n s)

/-- The line leaves CLEARING: to OUT_OF_SERVICE with the mark set, to IDLE else (R77, R78). A remembered rise is taken in
the same block, and framing already regained takes the line on to IDLE (R76, R78). -/
def clearingEnd (n : LineNo) (s : State) : State :=
  let l := s.line n
  let next : LineState := if l.oos then .outOfService else .idle
  let s1 := s.setLine n { l with state := next, tag := none, since := s.time, remembered := false }
  let s2 := handLog (callerEntry n l.state .cleared s1) s1
  if l.oos then (if l.framingGood then toService n s2 else s2)
  else if l.remembered then toScreening n s2
  else s2

/-- CLEARING_END (R77): at the boundary where the count has reached 0. -/
def execClearingEnd (n : LineNo) (s : State) : Out :=
  .next (if (s.line n).state = .clearing ∧ (s.line n).clearing = 0 then clearingEnd n s else s)

/-! ## Hold and air (R79 to R83) -/

/-- Lines go from ON_AIR to HOLD at the head of the queue in on-air order (R75): each with its mix gain faded over 2
blocks and a CALLER_STATE entry. `boundary` says the event is taken at a block boundary (R90). -/
def Callers.held (now : Time) (flag : Bool) (ls : List LineNo) (c : Callers) : Callers where
  line := Four.ofFn (fun n =>
    let l := c.line.get n
    if ls.contains n then { l with state := .hold, since := now, heldForAlert := flag } else l)
  queue := ls ++ c.queue
  onAir := c.onAir.filter (fun n => !ls.contains n)
  holdGain := c.holdGain

def holdGroup (boundary flag : Bool) (cause : CallerCause) (ls : List LineNo) (s : State) : State :=
  let s1 := { s with
    callers := s.callers.held s.time flag ls
    mixer := { s.mixer with line := Four.ofFn (fun n =>
      let r := s.mixer.line.get n
      if ls.contains n then r.startWhen boundary 0 2 else r) } }
  handLogs (ls.map (fun n => callerEntry n (s.line n).state cause s1)) s1

/-- CALLER_HOLD (R79). -/
def callerHold (w : Word) (s : State) : ResultCode × State :=
  match lineOf w with
  | none => (.badArgument, s)
  | some n =>
    let l := s.line n
    match l.state with
    | .screening =>
      let s1 := s.setLine n { l with state := .hold, since := s.time, heldForAlert := false }
      let s2 := { s1 with callers := { s1.callers with queue := s1.callers.queue ++ [n] } }
      (.done, handLog (callerEntry n l.state .request s2) s2)
    | .onAir => (.done, holdGroup false false .request [n] s)
    | .hold => (.done, s.setLine n { l with heldForAlert := false })
    | .idle | .clearing | .outOfService => (.wrongState, s)

/-- A line enters ON_AIR (R80): out of the queue, last in the on-air order, its mix gain ramped to its line gain over 2
blocks. -/
def toAir (n : LineNo) (cause : CallerCause) (s : State) : State :=
  let l := s.line n
  let c := s.callers.without n
  let s1 := { s with callers := { c with
    line := c.line.set n { l with state := .onAir, since := s.time, heldForAlert := false, taken := true }
    onAir := c.onAir ++ [n] } }
  let s2 := s1.rampLine n l.gain 2
  handLog (callerEntry n l.state cause s2) s2

/-- CALLER_ON_AIR (R80), its conditions in order. -/
def callerOnAir (w : Word) (s : State) : ResultCode × State :=
  match lineOf w with
  | none => (.badArgument, s)
  | some n =>
    let st := (s.line n).state
    if !(st == .screening || st == .hold) || !s.onProgramme then (.wrongState, s)
    else if s.guardBars then (.notSafe, s)
    else if s.atLimit then (.atLimit, s)
    else (.done, toAir n .request s)

/-- CALLER_TAKE and the TAKE_CALLER button (R81), the conditions in order. -/
def callerTake (cause : CallerCause) (s : State) : ResultCode × State :=
  if !s.onProgramme then (.wrongState, s)
  else if s.guardBars then (.notSafe, s)
  else if s.atLimit then (.atLimit, s)
  else
    match s.callers.queue with
    | [] => (.queueEmpty, s)
    | n :: _ => (.done, toAir n cause s)

/-- CALLER_DROP (R82). -/
def callerDrop (w : Word) (s : State) : ResultCode × State :=
  match lineOf w with
  | none => (.badArgument, s)
  | some n => if (s.line n).state.call then (.done, toClearing n .request s) else (.wrongState, s)

/-- The DROP_CALLERS button (R82): every ON_AIR line to CLEARING, in on-air order. -/
def dropCallers (s : State) : ResultCode × State :=
  match s.callers.onAir with
  | [] => (.wrongState, s)
  | ls => (.done, ls.foldl (fun s n => toClearing n .button s) s)

/-- A line put in at a place counted from 1; beyond the tail it goes to the tail (R83). -/
def insertPlace (n : LineNo) (p : Nat) (q : List LineNo) : List LineNo := q.take (p - 1) ++ n :: q.drop (p - 1)

/-- CALLER_QUEUE (R83). -/
def callerQueue (w p : Word) (s : State) : ResultCode × State :=
  match lineOf w with
  | none => (.badArgument, s)
  | some n =>
    if p = 0 ∨ 4 < p.toNat then (.badArgument, s)
    else if (s.line n).state ≠ .hold then (.wrongState, s)
    else (.done, { s with callers := { s.callers with
      queue := insertPlace n p.toNat (s.callers.queue.filter (· != n)) } })

/-! ## Holds by other units, and settings (R74, R84, R86, R87) -/

/-- Every ON_AIR line held, by HALT or PROGRAMME_RESET (R87). -/
def holdAll (cause : CallerCause) (s : State) : State := holdGroup false false cause s.callers.onAir s

/-- The lines that an airing's start holds: those on air but for one taken in the block that begins with it (R86). -/
def Callers.heldByAiring (c : Callers) : List LineNo := c.onAir.filter (fun n => !(c.line.get n).taken)

/-- The hold at an airing's start (R86). -/
def holdForAiring (s : State) : State := holdGroup true true .alert s.callers.heldByAiring s

/-- The surplus lines of a lowered limit: the last of the on-air order (R84). -/
def surplus (limit : Nat) (onAir : List LineNo) : List LineNo := onAir.drop limit

/-- One line under an applied section 5 (R74): its line gain, and its tag, which only a line in a call state has. -/
def Line.setting (x : CallerLineSetting) (l : Line) : Line :=
  { l with gain := x.gain, tag := if l.state.call then x.tag else none }

/-- The mix gain of an ON_AIR line whose line gain has changed moves over 4 blocks (R74, R91). -/
def regain (l : Line) (g : Nat) (r : Ramp) : Ramp :=
  if l.state = .onAir ∧ l.gain ≠ g then r.start g 4 else r

/-- Section 5 applied in the caller unit (R74, R84); the limit and guard are read from the copy. -/
def applyCallers (x : CallerSettings) (s : State) : State :=
  let s1 := { s with
    callers := { s.callers with line := Four.ofFn (fun n => (s.line n).setting (x.lines.get n)) }
    mixer := { s.mixer with line := Four.ofFn (fun n => regain (s.line n) (x.lines.get n).gain (s.mixer.line.get n)) } }
  holdGroup false false .limit (surplus x.limit s1.callers.onAir) s1

/-- What the caller unit does when a block begins (R77, R88): clearing counts fall, the states and the hold gain in force
are taken for the returns of the block. The hold gain in force is that of the section 5 copy, so after a START it is the
default from the next boundary until the attach applies the section (log entry 63; DESIGN CHOICE). A change of state that a
later event of the boundary makes, as a remembered rise taken by CLEARING_END, changes the return from the next boundary
on, as one made during the block (log entry 110; DESIGN CHOICE). -/
def Callers.blockBegins (holdGain : Nat) (c : Callers) : Callers :=
  { c with
    line := c.line.map (fun l =>
      { l with
        clearing := if l.state = .clearing then l.clearing - 1 else l.clearing, atStart := l.state, taken := false })
    holdGain := holdGain }

end Sys2Proof.Machine
end

