-- ==== Sys2Proof/Machine/Decks.lean ====
section
/-! DEFINITION. The decks: record writes, starts, hard starts, fades, ends, skips, the alert pause and run-out
(R37 to R40, R54, R55, R59 to R69). -/

namespace Sys2Proof.Machine

open Sys2Proof

/-! ## Small operations -/

/-- Replace a deck. -/
def State.setDeck (s : State) (d : DeckId) (k : Deck) : State :=
  { s with decks := { s.decks with deck := s.decks.deck.set d k } }

/-- Change a deck's gain ramp. -/
def State.mapDeckRamp (s : State) (d : DeckId) (f : Ramp → Ramp) : State :=
  { s with mixer := { s.mixer with deckRamp := s.mixer.deckRamp.set d (f (s.mixer.deckRamp.get d)) } }

/-- The walker is told that demand does not hold (R44). -/
def noteDemand (s : State) : State := if s.demand then s else { s with walker := { s.walker with lapsed := true } }

/-- The studio input's ramp follows its target over 4 blocks when that has changed (R62, R67, R91). A LIVE start, end, pause
or release that leaves the target where it was begins no new ramp, and the one under way runs on (log entry 91; DESIGN
CHOICE). -/
def refreshStudio (boundary : Bool) (s : State) : State :=
  if s.studioTarget = s.mixer.studio.target then s
  else { s with mixer := { s.mixer with studio := s.mixer.studio.startWhen boundary s.studioTarget 4 } }

/-- A fetch read in flight for a user is discarded on completion (R57, R70). -/
def Fetch.discard (u : FetchUser) (f : Fetch) : Fetch :=
  { inFlight := f.inFlight.map (fun r => if r.user = u then { r with live := false } else r) }

/-! ## Record writes (R39) -/

/-- The write at the head of the list is begun when it waits for its turn and the part may write. -/
def issueHead (running : Bool) : List RecordWrite → List RecordWrite
  | [] => []
  | w :: ws => if running && w.phase == .waiting then { w with phase := .first } :: ws else w :: ws

/-- A write that is held (R39). -/
def RecordWrite.hold (w : RecordWrite) : RecordWrite := { w with phase := .held, kept := true }

/-- A held write with no attempt at it in flight, whether it waits for its retry or, after a re-attach, for its turn: a newer
write of its record takes its place. An attempt in flight goes on, and the newer write waits behind it (R39; log entry 23). -/
def RecordWrite.replaceable (w : RecordWrite) : Bool := w.phase == .held || (w.kept && w.phase == .waiting)

/-- A write joins a deck's writes, in the place of the held one of its record (R39). -/
def joinWrite (w : RecordWrite) (ws : List RecordWrite) : List RecordWrite :=
  ws.filter (fun x => !(x.addr == w.addr && x.replaceable)) ++ [w]

/-- A newer write takes the place of a held one for the same record, and is then itself the held write; any other joins
the writes in order (R39). Outside RUNNING it is kept and not attempted. -/
def pushWrite (running : Bool) (addr : Addr) (half : PartHalf) (st : RecState) (ws : List RecordWrite) :
    List RecordWrite :=
  let old := ws.filter (fun x => x.addr == addr && x.replaceable)
  let w : RecordWrite := ⟨addr, half, st, .waiting, !old.isEmpty⟩
  issueHead running (joinWrite (if !running || old.any (fun x => x.phase == .held) then w.hold else w) ws)

/-- The writes after the one in flight failed: it is held, and the newest that waited behind it for its record, if any,
takes its place at the head, where each later RUNNING block attempts it. The writes of other records stay as they are,
after it (R39; log entry 23). -/
def failHead : List RecordWrite → List RecordWrite
  | [] => []
  | w :: ws =>
    ((ws.filter (fun x => x.addr == w.addr)).getLastD w).hold :: ws.filter (fun x => x.addr != w.addr)

/-- The writes after a good completion: the state word follows the part half, the next write follows the state word.
Outside RUNNING nothing further is begun, and a write left with its part half alone is held, its record's newest in its
place. -/
def goodHead (running : Bool) : List RecordWrite → List RecordWrite
  | [] => []
  | w :: ws =>
    match w.phase with
    | .first => if running then { w with phase := .last } :: ws else failHead (w :: ws)
    | .last => issueHead running ws
    | .waiting | .held => w :: ws

/-- The write in flight, if any. -/
def inFlightHead (ws : List RecordWrite) : Bool :=
  match ws with
  | [] => false
  | w :: _ => w.phase == .first || w.phase == .last

/-- RECORD_WRITE_DONE in a deck (R39). -/
def recordWriteDone (d : DeckId) (ok : Bool) (s : State) : State :=
  let k := s.deck d
  if !inFlightHead k.writes then s
  else if ok then noteDemand (s.setDeck d { k with writes := goodHead s.running k.writes })
  else
    let s' := writeError (deckUnit d) s
    noteDemand (s'.setDeck d { k with writes := failHead k.writes, writeTried := true })

def execRecordWriteDone (d : DeckId) (ok : Bool) (s : State) : Out :=
  .next (onWrite (.recordWrite d) (deckUnit d) ok s (recordWriteDone d ok))

/-- The head of a deck's writes is held. -/
def Deck.heldHead (k : Deck) : Bool :=
  match k.writes with
  | [] => false
  | w :: _ => w.phase == .held

/-- The held write at the head is attempted again, its part half first; it stays a held write meanwhile. -/
def retryHead : List RecordWrite → List RecordWrite
  | [] => []
  | w :: ws => { w with phase := .first } :: ws

/-- HELD_WRITE_RETRY (R39): one attempt in a RUNNING block. -/
def execHeldWriteRetry (d : DeckId) (s : State) : Out :=
  let k := s.deck d
  .next (if s.running && k.heldHead && !k.writeTried then
    s.setDeck d { k with writes := retryHead k.writes, writeTried := true }
  else s)

/-! ## Log entries (R40) -/

/-- A SEGMENT_START or SEGMENT_END entry (R40). -/
def segmentEntry (kind : LogKind) (u : UnitId) (time : Time) (addr : Addr) (tag : Word) (p : PartHalf) (st : RecState) :
    LogEntry :=
  entryOf kind u time (p.flags.toNat + 256 * st.code) (packBytes [p.reason.code, p.letter.toNat]) addr.toNat tag.toNat
    p.framesAired

/-! ## Ending (R60, R62, R64, R65) -/

/-- The deck unit's deck after it is emptied: its writes stay (R54, R68). -/
def Deck.emptied (k : Deck) (ws : List RecordWrite) : Deck :=
  { Deck.blank with writes := ws, writeTried := k.writeTried, blockTaken := k.blockTaken }

/-- A deck with its audio gone: EMPTY, gain 0 at once, its fetch read discarded, the studio target returned. -/
def clearDeck (boundary : Bool) (d : DeckId) (ws : List RecordWrite) (s : State) : State :=
  let s1 := (s.setDeck d ((s.deck d).emptied ws)).mapDeckRamp d (fun r => r.startWhen boundary 0 0)
  refreshStudio boundary { s1 with fetch := s1.fetch.discard (.deck d) }

/-- Frames or duration were left to play: what sets TRUNCATED (R37, R65). -/
def Deck.unfinished (k : Deck) : Bool :=
  match k.kind with
  | .audio => decide (0 < k.left)
  | .live | .gap => decide (k.sounded * Config.blockFrames < k.copy.duration)
  | .mark => false

/-- The part half at a deck's end: the aired end and frames aired when it has sounded (R37, R62, R65). -/
def Deck.finalHalf (k : Deck) (reason : EndReason) (truncated : Bool) : PartHalf :=
  { k.part with
    flags := { k.part.flags with truncated := k.part.flags.truncated || truncated }
    reason := reason
    airedEnd := if k.state.sounding then k.lastEnd else 0
    framesAired := if k.kind = .live ∨ k.kind = .gap then k.sounded * Config.blockFrames else k.part.framesAired }

/-- The time of a SEGMENT_END entry: the aired end of a segment that sounded, else the present block's (R40). -/
def Deck.endTime (k : Deck) (now : Time) : Time := if k.state.sounding then k.lastEnd else now

/-- A deck ends its record: the part half and the final state written, SEGMENT_END, and the deck EMPTY (R65). -/
def endDeck (boundary : Bool) (d : DeckId) (st : RecState) (reason : EndReason) (truncated : Bool) (s : State) : State :=
  let k := s.deck d
  let p := k.finalHalf reason truncated
  let s1 := clearDeck boundary d (pushWrite s.running k.addr p st k.writes) s
  noteDemand (handLog (segmentEntry .segmentEnd (deckUnit d) (k.endTime s.time) k.addr k.copy.tag p st) s1)

/-- The deck's last frame has been played, or its last buffered frame, or the fade of its decided end is over (R62,
R65). -/
def Deck.over (k : Deck) (fadeDone : Bool) : Bool :=
  (k.state == .playing || k.state == .ending) && !k.blockTaken &&
  match k.kind with
  | .audio => k.left == 0 || (k.noMore && k.fifo.isEmpty) ||
      (k.state == .ending && (k.decided.any (fun x => x.1 == .skipped)) && fadeDone)
  | .live | .gap => k.state == .ending && fadeDone
  | .mark => false

/-- The final state and end reason: the decided end when there is one (R65). -/
def Deck.finalEnd (k : Deck) : RecState × EndReason := k.decided.getD (.aired, .complete)

/-- A cued record that is not READY when the other deck ends at a boundary: its natural start is reached there and its
start is owed (R59). -/
def State.owesAtEnd (s : State) (d : DeckId) : Bool :=
  let k := s.deck d
  k.state == .loading && !k.waits && !s.decks.pause && s.softReady d

/-- A deck ends at a block boundary, and the other's cued record may be owed its start (R59, R65). -/
def endAtBoundary (d : DeckId) (st : RecState) (reason : EndReason) (truncated : Bool) (s : State) : State :=
  let t := endDeck true d st reason truncated s
  if t.owesAtEnd d.other then t.setDeck d.other { t.deck d.other with owed := true } else t

/-- SEGMENT_END (R65): at the boundary, before this block's frames are taken. -/
def execSegmentEnd (d : DeckId) (s : State) : Out :=
  let k := s.deck d
  .next (if k.over (s.mixer.deckRamp.get d).complete then
    endAtBoundary d k.finalEnd.1 k.finalEnd.2 k.unfinished s
  else s)

/-- DURATION_COMPLETE (R62): a PLAYING LIVE or GAP whose blocks reach its duration ends AIRED. -/
def execDurationComplete (d : DeckId) (s : State) : Out :=
  let k := s.deck d
  .next (if k.state = .playing ∧ k.durationDone then endAtBoundary d .aired .complete false s else s)

/-! ## Fades (R60) -/

/-- The blocks that the frames left take. -/
def Deck.blocksLeft (k : Deck) : Nat := (k.left + 239) / 240

/-- The fade-out is to begin (R60). It begins in PLAYING alone: a segment left with its buffered frames after a fetch error
plays them "with no added fade" (R64), though R60's count of frames left would still begin one (log entry 61; DESIGN
CHOICE). -/
def Deck.fadesNow (k : Deck) : Bool :=
  k.state == .playing && k.kind == .audio && !k.fading && decide (0 < k.copy.fadeOut) && decide (0 < k.left) &&
    decide (k.blocksLeft ≤ k.copy.fadeOut)

/-- The fade of a cut or a skip: over the record's fade-out, 1 block when that is 0 and for LIVE and GAP (R60, R62). -/
def Deck.cutLength (k : Deck) : Nat := if k.kind = .audio ∧ 0 < k.copy.fadeOut then k.copy.fadeOut else 1

/-- The ramp of a cut or a skip; a fade-out running with fewer blocks left is kept (R60). -/
def cutRamp (boundary : Bool) (k : Deck) (r : Ramp) : Ramp :=
  if k.kind = .audio ∧ k.fading ∧ r.m + bit boundary < k.cutLength then r else r.startWhen boundary 0 k.cutLength

/-- A PLAYING segment is cut or skipped: ENDING with a decided end and its fade (R61, R66). -/
def cutDeck (boundary : Bool) (d : DeckId) (reason : EndReason) (byRequest : Bool) (s : State) : State :=
  let k := s.deck d
  let s1 := s.setDeck d { k with
    state := .ending
    decided := some (.skipped, reason)
    fading := true
    part := { k.part with flags := { k.part.flags with byRequest := k.part.flags.byRequest || byRequest } } }
  refreshStudio boundary (s1.mapDeckRamp d (cutRamp boundary k))

/-! ## Starting (R59, R61, R62) -/

/-- A start more than one block after the hard start time (R61). -/
def Deck.isLate (k : Deck) (now : Time) : Bool :=
  k.copy.hardPresent && reached now k.copy.hardTime && decide (240 < (now - k.copy.hardTime).toNat)

/-- The part half at the start (R59). -/
def Deck.startHalf (k : Deck) (now : Time) (owed noFill : Bool) : PartHalf :=
  { k.part with
    airedStart := now
    flags := { k.part.flags with
      underrun := k.part.flags.underrun || owed
      late := k.part.flags.late || k.isLate now
      noFill := k.part.flags.noFill || noFill } }

/-- The gain ramp at the start: the fade-in, and a fade-out due at once (R60). -/
def startRamp (k : Deck) (r : Ramp) : Ramp :=
  match k.kind with
  | .audio =>
    let r1 := { r with g := 0, target := 0, m := 0, base := 0 }
    let r2 := r1.startAt k.copy.gain k.copy.fadeIn
    if k.fadesNow then r2.startAt 0 k.blocksLeft else r2
  | .live | .gap | .mark => r.startAt 0 0

/-- Run-out ends as a record starts: the fill ramps to 0 over 1 block (R69). -/
def endRunOut (s : State) : State :=
  if s.decks.runOut then
    { s with
      decks := { s.decks with runOut := false }
      mixer := { s.mixer with fill := s.mixer.fill.startAt 0 1 } }
  else s

/-- A MARK, or a GAP of duration 0, ends in the block in which it starts (R62). -/
def Deck.instant (k : Deck) : Bool := k.kind == .mark || (k.kind == .gap && k.copy.duration == 0)

/-- A cued record starts at a block boundary (R59). -/
def startDeck (d : DeckId) (owed : Bool) (s : State) : State :=
  let k := s.deck d
  let p := k.startHalf s.time owed s.decks.noFill
  let playing := { k with
    state := .playing, part := p, owed := false, fired := false, fading := false, lastEnd := s.time }
  let k1 := { playing with fading := playing.fadesNow
                           writes := pushWrite s.running k.addr p .playing k.writes }
  let s1 := endRunOut (s.setDeck d k1)
  let s2 := { s1 with decks := { s1.decks with noFill := false, lastStarted := some d } }
  let s3 := refreshStudio true (s2.mapDeckRamp d (startRamp playing))
  let s4 := noteDemand (handLog (segmentEntry .segmentStart (deckUnit d) p.airedStart k.addr k.copy.tag p .playing) s3)
  if k.instant then endDeck true d .aired .complete false s4 else s4

/-- A cued record's start boundary has come (R59, R61): READY with the pause not in force, and an owed start, a fired WAIT
hard start, or the natural start of a record that does not wait on one. -/
def State.startsNow (s : State) (d : DeckId) : Bool :=
  let k := s.deck d
  k.state == .ready && !s.decks.pause && (k.owed || k.fired || (!k.waits && s.softReady d && s.naturalStart d))

/-- SEGMENT_START (R59). -/
def execSegmentStart (d : DeckId) (s : State) : Out :=
  .next (if s.startsNow d then startDeck d (s.deck d).owed s else s)

/-- A WAIT hard start fires (R61): its time is reached, the pause is not in force, and it has not fired before. -/
def State.firesNow (s : State) (d : DeckId) : Bool :=
  let k := s.deck d
  k.state.cued && k.waits && reached s.time k.copy.hardTime && !s.decks.pause && !k.owed && !k.fired

/-- The record fires: it cuts the segment before it, and starts, is owed, or waits for READY under run-out (R61). -/
def hardStart (d : DeckId) (s : State) : State :=
  let o := s.deck d.other
  let s1 := if o.state = .playing then cutDeck true d.other .hardStart false s else s
  let k := s1.deck d
  if k.state = .ready then startDeck d false s1
  else if o.state.sounding then s1.setDeck d { k with owed := true }
  else s1.setDeck d { k with fired := true }

/-- HARD_START (R61). -/
def execHardStart (d : DeckId) (s : State) : Out :=
  .next (if s.firesNow d then hardStart d s else s)

/-- A start becomes owed at a boundary: the natural start is reached with the other deck sounding, and the deck is not
READY (R59). -/
def State.owesNow (s : State) (d : DeckId) : Bool :=
  let k := s.deck d
  k.state == .loading && !k.waits && !s.decks.pause && (s.deck d.other).state.sounding && s.softReady d &&
    s.naturalStart d

/-- A boundary's owed starts. -/
def noteOwed (d : DeckId) (s : State) : State :=
  if s.owesNow d then s.setDeck d { s.deck d with owed := true } else s

/-! ## Playing (R63) -/

/-- The frames a deck takes in a block (R63). -/
def Deck.takes (k : Deck) : Nat := min (min 240 k.fifo.length) k.left

/-- The frames missing from a block: up to its end or up to the last frame (R63). A deck left with nothing to fetch does
not count them (R64). -/
def Deck.missing (k : Deck) : Nat := if k.noMore then 0 else min 240 k.left - k.takes

/-- The deck after a block (R63). -/
def Deck.played' (k : Deck) (now : Time) : Deck :=
  let n := k.takes
  { k with
    fifo := k.fifo.drop n
    played := k.played + n
    lastEnd := if n = 0 then k.lastEnd else later now n
    lateRaised := k.lateRaised || decide (0 < k.missing)
    blockTaken := true
    part := { k.part with
      framesAired := k.part.framesAired + n
      underrunFrames := k.part.underrunFrames + k.missing
      flags := { k.part.flags with underrun := k.part.flags.underrun || decide (0 < k.missing) } } }

/-- A deck plays a block (R63). -/
def deckBlock (d : DeckId) (s : State) : State :=
  let k := s.deck d
  let s1 := s.setDeck d (k.played' s.time)
  let s2 := { s1 with mixer := { s1.mixer with
    deckFrames := s1.mixer.deckFrames.set d (k.fifo.take k.takes) } }
  if 0 < k.missing ∧ !k.lateRaised then
    raise { Raising.plain .fetchLate (deckUnit d) with subject := k.addr } s2
  else s2

/-- DECK_BLOCK (R63): a PLAYING or ENDING AUDIO deck, once in a block. -/
def execDeckBlock (d : DeckId) (s : State) : Out :=
  let k := s.deck d
  .next (if (k.state = .playing ∨ k.state = .ending) ∧ k.kind = .audio ∧ !k.blockTaken then deckBlock d s else s)

/-! ## Skips (R66) -/

/-- A deck that a PLAYING skip may end. -/
def Deck.skippable (k : Deck) : Bool := k.state == .playing || k.state == .paused

/-- The target of a PLAYING skip: the segment started last among those in PLAYING or PAUSED (R66). -/
def State.skipTarget (s : State) : Option DeckId :=
  let newest := s.decks.lastStarted.getD .a
  if (s.deck newest).skippable then some newest
  else if (s.deck newest.other).skippable then some newest.other
  else none

/-- The deck that holds the cued record (R54). -/
def State.cuedDeck (s : State) : Option DeckId :=
  if s.decks.deck.a.state.cued then some .a else if s.decks.deck.b.state.cued then some .b else none

/-- A deck's part half with BY_REQUEST set. -/
def markRequest (d : DeckId) (s : State) : State :=
  let k := s.deck d
  s.setDeck d { k with part := { k.part with flags := { k.part.flags with byRequest := true } } }

/-- SEGMENT_SKIP with PLAYING, and the SKIP button (R66). -/
def skipPlaying (s : State) : ResultCode × State :=
  match s.skipTarget with
  | none => (.nothingToSkip, s)
  | some d =>
    if (s.deck d).state = .paused then
      (.done, endDeck false d .skipped .skip (s.deck d).unfinished (markRequest d s))
    else (.done, cutDeck false d .skip true s)

/-- SEGMENT_SKIP with CUED (R66). The record keeps TRUNCATED clear: R66 does not list it among what the skip sets, though
R37's words on the flag would have it set (log entry 60; DESIGN CHOICE). -/
def skipCued (s : State) : ResultCode × State :=
  match s.cuedDeck with
  | none => (.nothingToSkip, s)
  | some d => (.done, endDeck false d .skipped .skip false (markRequest d s))

/-- SEGMENT_SKIP (R66): PLAYING 0, CUED 1. -/
def segmentSkip (which : Word) (s : State) : ResultCode × State :=
  if which = 0 then skipPlaying s
  else if which = 1 then skipCued s
  else (.badArgument, s)

/-! ## The alert pause (R67) -/

/-- A deck at the pause. -/
def Deck.paused (k : Deck) : Deck :=
  if k.state = .playing ∨ k.state = .ending then
    { k with
      state := .paused
      returnTo := k.state
      part := { k.part with flags := { k.part.flags with pausedForAlert := true } } }
  else k

/-- A deck at the release. -/
def Deck.released (k : Deck) : Deck := if k.state = .paused then { k with state := k.returnTo } else k

/-- The decks are paused at an airing's start (R67). -/
def pauseDecks (s : State) : State :=
  if s.decks.pause then s
  else refreshStudio true { s with decks := { s.decks with pause := true, deck := s.decks.deck.map Deck.paused } }

/-- The decks are released at the end of the run (R67); starts held by the pause proceed, or become owed, at this
boundary (R59). -/
def releaseDecks (s : State) : State :=
  if s.decks.pause then
    noteOwed .b (noteOwed .a (refreshStudio true
      { s with decks := { s.decks with pause := false, deck := s.decks.deck.map Deck.released } }))
  else s

/-! ## Run-out (R69) -/

/-- RUN_OUT_START (R69): at a boundary with no deck sounding and no start owed. A MARK or a GAP of duration 0 that has
started and ended at this boundary sounds no more, so run-out comes in again from the store's first frame (R62; log entry
102; DESIGN CHOICE). With the store not READY the fill's ramp does not begin here, but when the store becomes READY (log
entry 111; DESIGN CHOICE). -/
def execRunOutStart (s : State) : Out :=
  .next (if s.onProgramme && !s.decks.runOut && s.quiet then
    let live := s.rescue.state == .ready
    { s with
      decks := { s.decks with runOut := true, fillPos := 0, fillLive := live, fillBlock := s.rescue.fillOf live 0 }
      mixer := { s.mixer with
        fill := if live then s.mixer.fill.startAt s.sections.station.fillGain 1 else s.mixer.fill } }
  else s)

/-- A run-out block in which the fill source was silent, the store not being READY, marks NO_FILL (R69). -/
def noteNoFill (s : State) : State :=
  if s.decks.runOut && s.onProgramme && s.decks.fillBlock.isEmpty then
    { s with decks := { s.decks with noFill := true } }
  else s

/-- The run-out reader as a block begins: it advances, starts again at frame 0 when the store has become READY, and is
silent from here, its gain at 0, when the store is not READY (R69, R71; log entry 111; DESIGN CHOICE). -/
def runOutBegins (s : State) : State :=
  if !s.decks.runOut then { s with decks := { s.decks with fillLive := false, fillBlock := [] } }
  else if s.rescue.state = .ready then
    if s.decks.fillLive then
      let pos := s.rescue.advance s.decks.fillPos
      { s with decks := { s.decks with fillPos := pos, fillBlock := s.rescue.fillOf true pos } }
    else
      { s with
        decks := { s.decks with fillPos := 0, fillLive := true, fillBlock := s.rescue.fillOf true 0 }
        mixer := { s.mixer with fill := (s.mixer.fill.startAt 0 0).startAt s.sections.station.fillGain 1 } }
  else
    { s with
      decks := { s.decks with fillLive := false, fillBlock := [] }
      mixer := { s.mixer with fill := s.mixer.fill.startAt 0 0 } }

/-! ## Emptying at HALT and PROGRAMME_RESET (R5, R9, R68) -/

/-- The record writes of a deck with one for each record, its newest (R5, R39). -/
def newestWrites : List RecordWrite → List RecordWrite
  | [] => []
  | w :: ws => if ws.any (fun x => x.addr == w.addr) then newestWrites ws else w :: newestWrites ws

/-- The bytes a record write puts in host memory: part half, then state word (R39). -/
def RecordWrite.halfWrite (w : RecordWrite) : HostWrite := ⟨w.addr + 0x40, w.half.bytes⟩
def RecordWrite.stateWrite (w : RecordWrite) : HostWrite := ⟨w.addr + 0x08, leBytes 4 w.state.code⟩

/-- The part of a record write that is not on the bus yet: of one in flight, the state word when its part half is there,
and nothing when its state word is (R38, R39). -/
def RecordWrite.halfLeft (w : RecordWrite) : List HostWrite :=
  match w.phase with
  | .first | .last => []
  | .waiting | .held => [w.halfWrite]
def RecordWrite.stateLeft (w : RecordWrite) : List HostWrite :=
  match w.phase with
  | .last => []
  | .first | .waiting | .held => [w.stateWrite]

/-- What one attempt writes: the one attempt at a write in flight is that write, which goes on to its end. -/
def RecordWrite.made (o : PairWrite) (w : RecordWrite) : List HostWrite :=
  match o with
  | .good => w.halfLeft ++ w.stateLeft
  | .halfFailed => []
  | .stateFailed => w.halfLeft

/-- One attempt at one write of a deck; a failed one raises WRITE_ERROR and is discarded (R5, R39). -/
def attemptWrite (d : DeckId) (o : PairWrite) (w : RecordWrite) (s : State) : State :=
  let s' := { s with bus := { s.bus with resetWrites := s.bus.resetWrites ++ w.made o } }
  if o = .good then s' else writeError (deckUnit d) s'

/-- One attempt at every write of a deck, oldest first, each with its own outcome (R5, R39). -/
def attemptWrites (d : DeckId) : DeckWrites → List RecordWrite → State → State
  | _, [], s => s
  | os, w :: ws, s => attemptWrites d os.tail ws (attemptWrite d (os.headD .good) w s)

/-- A deck is emptied with its writes made now: at HALT, and at PROGRAMME_RESET in RUNNING. Those that waited are made in
their order, after the one in flight (log entry 6). A record the deck holds ends ABANDONED and TRUNCATED (R68), and its SEGMENT_END is
handed as it does so, before its write ends (R40). -/
def abandonDeck (d : DeckId) (reason : EndReason) (os : DeckWrites) (s : State) : State :=
  let k := s.deck d
  let s1 := clearDeck false d [] s
  if k.state = .empty then attemptWrites d os k.writes s1
  else
    let p := k.finalHalf reason true
    attemptWrites d os (joinWrite ⟨k.addr, p, .abandoned, .waiting, false⟩ k.writes)
      (handLog (segmentEntry .segmentEnd (deckUnit d) (k.endTime s.time) k.addr k.copy.tag p .abandoned) s1)

/-- A deck is emptied with nothing written: PROGRAMME_RESET in DETACHED and HALTED (R9). -/
def dropDeck (d : DeckId) (s : State) : State :=
  clearDeck false d [] (giveUp (.recordWrite d) (inFlightHead (s.deck d).writes) s)

/-- Run-out ends with the decks emptied; an owed start went with its deck (R68). -/
def stopRunOut (s : State) : State :=
  if s.decks.runOut then
    { s with
      decks := { s.decks with runOut := false }
      mixer := { s.mixer with fill := s.mixer.fill.start 0 1 } }
  else s

end Sys2Proof.Machine
end

