-- ==== Sys2Proof/Machine/Delay.lean ====
section
/-! DEFINITION. The delay line: its log entries, the re-fire of level DUMP lines, dumps, requests, settings, the block,
the alert pause and the resets (R106 to R124, R32). -/

namespace Sys2Proof.Machine

open Sys2Proof

/-! ## State changes (R108) -/

/-- The causes of DELAY_STATE (R108). -/
inductive DelayCause where
  | request
  | setting
  | reached
  | dump
  | pause
  | reset
deriving DecidableEq, Repr

def DelayCause.code : DelayCause → Nat
  | .request => 0 | .setting => 1 | .reached => 2 | .dump => 3 | .pause => 4 | .reset => 5

/-- The DELAY_STATE entry: the old state, and the line as it stands (R108). -/
def delayStateEntry (old : DelayState) (cause : DelayCause) (s : State) : LogEntry :=
  entryOf .delayState .delayLine s.time (bit s.safe) (packBytes [old.code, s.delay.state.code])
    (s.effDump + 2 ^ 32 * cause.code) s.delay.depth s.sections.station.target

/-- DELAY_STATE is written when the state or SAFE has changed from an earlier one (R108). -/
def logDelay (cause : DelayCause) (old s : State) : State :=
  if old.delay.state = s.delay.state ∧ old.safe = s.safe then s
  else handLog (delayStateEntry old.delay.state cause s) s

/-- The state worked out again from D against T (R116, R117, R121). -/
def workOut (t d : Nat) : DelayState := if d < t then .building else if d = t then .holding else .squeezing

/-- An engaged line has its state worked out again; BYPASS and EXITING stay (R116). -/
def Delay.rework (t : Nat) (d : Delay) : Delay :=
  if d.state.engaged then { d with state := workOut t d.depth } else d

/-! ## Dumping (R117 to R119) -/

/-- Where a dump came from: a request slot or a GPI line (R117). -/
inductive DumpSource where
  | slot (n : SlotNo)
  | line (n : GpiNo)
deriving DecidableEq, Repr

/-- The subject of a DUMP entry: bits 0 to 7 slot or line, bit 8 the source. -/
def DumpSource.subject : DumpSource → Nat
  | .slot n => n.val
  | .line n => n.val + 1 + 256

/-- A sample times num / 240, truncated toward zero (R118, R119). -/
def fadeSample (num : Nat) (x : Sample) : Sample := BitVec.ofInt 24 ((x.toInt * (num : Int)).tdiv 240)

def fadeFrame (num : Nat) (x : Frame) : Frame := ⟨fadeSample num x.l, fadeSample num x.r⟩

/-- The frames of the tail faded out: a frame with i frames after it is multiplied by (i + 1) / 240 (R118). -/
def fadeTail : List Frame → List Frame
  | [] => []
  | x :: xs => fadeFrame (xs.length + 1) x :: fadeTail xs

/-- The junction softened: the newest 240 retained frames faded, older ones kept (R118). -/
def soften (fs : List Frame) : List Frame := fs.take (fs.length - 240) ++ fadeTail (fs.drop (fs.length - 240))

/-- The line after a dump of n frames (R117 to R119). -/
def Delay.dumped (t n : Nat) (d : Delay) : Delay :=
  let kept := soften (d.mem.take (d.depth - n))
  let d' := { d with mem := kept, acc := 0, fadeIn := true }
  if d.state = .exiting then
    if kept.isEmpty && !d.pauseNow then { d' with state := .bypass } else d'
  else d'.rework t

/-- The frames a dump removes: the smaller of E and D (R117). -/
def State.dumpCount (s : State) : Nat := min s.effDump s.delay.depth

/-- The DUMP entry (R117). -/
def dumpEntry (src : DumpSource) (before s : State) : LogEntry :=
  entryOf .dump .delayLine s.time (bit (decide (before.delay.depth < before.effDump))) s.delay.state.code src.subject
    before.delay.depth s.delay.depth

/-- The conditions of a dump, in order (R117). -/
def State.dumpRefusal (s : State) : ResultCode :=
  if s.delay.state = .bypass then .notEngaged
  else if !s.onProgramme then .wrongState
  else .done

/-- A dump (R117): from DELAY_DUMP or from a button. -/
def dump (src : DumpSource) (s : State) : ResultCode × State :=
  match s.dumpRefusal with
  | .done =>
    let s1 := { s with delay := s.delay.dumped s.sections.station.target s.dumpCount }
    (.done, logDelay .dump s (handLog (dumpEntry src s s1) s1))
  | r => (r, s)

/-! ## The re-fire of level DUMP lines (R32) -/

/-- The GPI entry of a firing (R33): the capture stamp is its time. -/
def gpiEntry (n : GpiNo) (g : GpiSetting) (level : Bool) (stamp : Time) (r : ResultCode) (refire : Bool) : LogEntry :=
  entryOf .gpi .studioLine stamp (bit refire) (packBytes [g.function.code, g.sense.code]) (n.val + 1) (bit level) r.code

/-- A line with function DUMP under a level sense whose accepted level is active (R32). A line that is active without an
activation, held through a reset or made active by a settings change (R29), is among them (log entry 74; DESIGN CHOICE). -/
def State.heldDump (s : State) (n : GpiNo) : Bool :=
  let g := s.sections.station.gpi.get n
  g.function == .dump && g.sense.isLevel && g.activeLevel (s.gpi.get n).accepted

/-- One line's re-fire: the GPI entry with REFIRE and the station time of the block, and the dump (R32). -/
def refire (n : GpiNo) (s : State) : State :=
  if s.heldDump n then
    let (r, _) := dump (.line n) s
    (dump (.line n) (handLog
      (gpiEntry n (s.sections.station.gpi.get n) (s.gpi.get n).accepted s.time r true) s)).2
  else s

/-- Each held level DUMP line fires for itself (R32), in line order, 1 to 8, which no rule states (log entry 86; DESIGN
CHOICE). -/
def refireAll (s : State) : State := places8.foldl (fun s n => refire n s) s

/-- After an event of the delay line: DELAY_STATE for a change of state or SAFE, and the re-fires when SAFE returned
(R108, R32). DELAY_STATE comes before the entries of the re-fires (log entry 109; DESIGN CHOICE). -/
def noteDelay (cause : DelayCause) (old s : State) : State :=
  let s' := logDelay cause old s
  if !old.safe && s.safe then refireAll s' else s'

/-! ## Requests (R114, R115) -/

/-- The shortest target an engagement takes (R114). -/
abbrev shortestTarget : Nat := 48000

/-- DELAY_ENGAGE (R114). -/
def delayEngage (s : State) : ResultCode × State :=
  match s.delay.state with
  | .bypass =>
    if s.sections.station.target < shortestTarget then (.targetTooShort, s)
    else (.done, noteDelay .request s { s with delay := { s.delay with state := .building, acc := 0 } })
  | .exiting =>
    (.done, noteDelay .request s
      { s with delay := { s.delay with state := workOut s.sections.station.target s.delay.depth } })
  | .building | .holding | .squeezing => (.done, s)

/-- DELAY_EXIT (R115). -/
def delayExit (s : State) : ResultCode × State :=
  if s.sections.callers.guardSet && !s.callers.onAir.isEmpty then (.callersOnAir, s)
  else if s.delay.state = .bypass then (.notEngaged, s)
  else if s.delay.state = .exiting then (.done, s)
  else if s.delay.depth = 0 ∧ !s.delay.pauseNow then
    (.done, noteDelay .request s { s with delay := { s.delay with state := .bypass, acc := 0 } })
  else (.done, noteDelay .request s { s with delay := { s.delay with state := .exiting } })

/-- The delay line after the section 1 copy has changed from that of an earlier state (R116). -/
def delaySettings (old s : State) : State :=
  noteDelay .setting old { s with delay := s.delay.rework s.sections.station.target }

/-! ## The block (R109 to R113, R121) -/

/-- A block with a pending fade-in applied (R119). -/
def Delay.faded (d : Delay) (input : List Frame) : List Frame :=
  if d.fadeIn then makeBlock (fun j => fadeFrame (j + 1) (frameAt input j)) else input

/-- The mean of two frames, each channel with floor (R111, R112). -/
def meanFrame (a b : Frame) : Frame := ⟨mean a.l b.l, mean a.r b.r⟩

/-- The positions after which frames are inserted, or at which pairs are merged: floor((j + 1) n / (k + 1)) − 1
(R111, R112). -/
def spread (n k : Nat) : List Nat := (List.range k).map (fun j => (j + 1) * n / (k + 1) - 1)

/-- The taken frames with k frames inserted among them (R111). -/
def stretch (k : Nat) (ts : List Frame) : List Frame :=
  let at' := spread ts.length k
  (List.range ts.length).flatMap (fun i =>
    if at'.contains i then [frameAt ts i, meanFrame (frameAt ts i) (frameAt ts (i + 1))] else [frameAt ts i])

/-- The taken frames with k pairs merged (R112). -/
def squeeze (k : Nat) (ts : List Frame) : List Frame :=
  let at' := spread ts.length k
  (List.range ts.length).flatMap (fun i =>
    if at'.contains i then [meanFrame (frameAt ts i) (frameAt ts (i + 1))]
    else if 0 < i ∧ at'.contains (i - 1) then []
    else [frameAt ts i])

/-- The frames of stretch or squeeze that the accumulator gives for a block (R110). -/
def Delay.share (r : Nat) (d : Delay) : Nat := (d.acc + Config.blockFrames * r) / 1000

/-- The accumulator after a block (R110). -/
def Delay.accNext (r : Nat) (d : Delay) : Nat := (d.acc + Config.blockFrames * r) % 1000

/-- Take n frames from the head of a memory that the input has joined, shaping them into the output. -/
def Delay.give (n : Nat) (shape : List Frame → List Frame) (joined : List Frame) (d : Delay) : Delay :=
  { d with mem := joined.drop n, out := some (shape (joined.take n)), fadeIn := false, made := true }

/-- A block by the line's state, with the target T and the rate r (R109 to R113). -/
def Delay.run (t r : Nat) (input : List Frame) (d : Delay) : Delay :=
  let joined := d.mem ++ d.faded input
  let depth := d.depth
  match d.state with
  | .bypass => d.give Config.blockFrames id joined
  | .holding => { d.give Config.blockFrames id joined with acc := d.accNext r }
  | .building =>
    let k := min (d.share r) (t - depth)
    let d' := { d.give (Config.blockFrames - k) (stretch k) joined with acc := d.accNext r }
    if t ≤ depth + k then { d' with state := .holding } else d'
  | .squeezing =>
    let k := min (d.share r) (depth - t)
    let d' := { d.give (Config.blockFrames + k) (squeeze k) joined with acc := d.accNext r }
    if depth - k ≤ t then { d' with state := .holding } else d'
  | .exiting =>
    let k := min (d.share r) depth
    let d' := { d.give (Config.blockFrames + k) (squeeze k) joined with acc := d.accNext r }
    if depth - k = 0 then { d' with state := .bypass, acc := 0 } else d'

/-- Frames that a paused block takes D beyond the memory's capacity by (R121). -/
def Delay.overflow (d : Delay) (input : List Frame) : Nat :=
  d.depth + (d.faded input).length - Config.delayFrames

/-- A paused block: the input joins, nothing is taken, the oldest frames past the capacity are discarded (R121). -/
def Delay.pausedBlock (t : Nat) (input : List Frame) (d : Delay) : Delay :=
  { d with
    mem := (d.mem ++ d.faded input).drop (d.overflow input)
    out := none
    fadeIn := false
    made := true }.rework t

/-- The pause in force holds the line back; in BYPASS there is nothing to hold (R121; log entry 41). -/
def Delay.held (d : Delay) : Bool := d.pauseNow && d.state != .bypass

/-- DELAY_OVERFLOW at the first overflowing block of a pause (R121). -/
def delayOverflow (n : Nat) (s : State) : State :=
  if n = 0 ∨ s.delay.overflowRaised then s
  else raise { Raising.plain .delayOverflow .delayLine with detail := n }
    { s with delay := { s.delay with overflowRaised := true } }

/-- DELAY_BLOCK (R109): in RUNNING and DETACHED, once in a block. The airing's first block runs as any block: its pause is
in force from the boundary that ends it (R120). A paused block works the state out again, and what that changes, SAFE alone
among it, is logged with cause PAUSE (log entry 65; DESIGN CHOICE). -/
def execDelayBlock (s : State) : Out :=
  .next (if s.onProgramme && !s.delay.made then
    let input := s.mixBlock
    let t := s.sections.station.target
    if s.delay.held then
      noteDelay .pause s (delayOverflow (s.delay.overflow input) { s with delay := s.delay.pausedBlock t input })
    else
      noteDelay .reached s { s with delay := s.delay.run t s.sections.station.rate input }
  else s)

/-! ## Alert airings (R120, R122) -/

/-- The line's answer to an airing's start (R120). -/
def State.delayAnswer (s : State) : AlertPolicy :=
  if s.sections.station.policy = .pause ∧ s.delay.state ≠ .bypass ∧ s.onProgramme then .pause else .cut

/-- The line told of an airing's start, under its answer (R120). -/
def delayAiring (answer : AlertPolicy) (s : State) : State :=
  match answer with
  | .pause => { s with delay := { s.delay with pauseFlag := true, overflowRaised := false } }
  | .cut => s

/-- The line told that the run of airings ends (R122). -/
def delayRunEnd (s : State) : State :=
  let d := { s.delay with pauseFlag := false, pauseNow := false }
  if !s.delay.pauseNow then { s with delay := d }
  else if d.state = .exiting ∧ d.depth = 0 then
    noteDelay .pause s { s with delay := { d with state := .bypass, acc := 0, overflowRaised := false } }
  else noteDelay .pause s
    { s with delay := { d.rework s.sections.station.target with overflowRaised := false } }

/-! ## Part states and resets (R123, R124) -/

/-- HALT clears the pause; everything else is kept (R123). -/
def delayHalt (s : State) : State := { s with delay := { s.delay with pauseFlag := false, pauseNow := false } }

/-- The state after PROGRAMME_RESET (R124). -/
def Delay.resetState (t : Nat) (d : Delay) : DelayState :=
  match d.state with
  | .bypass => .bypass
  | .exiting => if d.pauseNow then .exiting else .bypass
  | .building | .holding | .squeezing => if t = 0 then .holding else .building

/-- PROGRAMME_RESET in the delay line (R124). -/
def delayReset (s : State) : State :=
  noteDelay .reset s { s with delay := { s.delay with
    state := s.delay.resetState s.sections.station.target, acc := 0, mem := [], fadeIn := false } }

end Sys2Proof.Machine
end

