-- ==== Sys2Proof/Machine/Airing.lean ====
section
/-! DEFINITION. Alert airing: pending timers, forwards and cancels, the airing check, the airing and its end (R146 to
R160). -/

namespace Sys2Proof.Machine

open Sys2Proof

/-! ## Pending timers (R148) -/

/-- A timer of a PENDING entry has been reached, at a boundary after the one or the block of its entry to PENDING. -/
def AlertEntry.timerPassed (now : Time) (t : Option Time) (e : AlertEntry) : Bool :=
  e.state == .pending && !e.fresh && t.any (reached now)

/-- HOLD_UNTIL_PASSED (R148). -/
def execHoldUntilPassed (n : EntryNo) (s : State) : Out :=
  let e := s.entry n
  .next (if e.timerPassed s.time e.holdUntil then enterQueued n .hold s else s)

/-- MANUAL_DEADLINE_PASSED (R148): QUEUED with DEADLINE, and ALERT_DEADLINE with the alert's identity. The ALERT_STATE entry
comes before the FAULT entry (log entry 94; DESIGN CHOICE). -/
def execManualDeadlinePassed (n : EntryNo) (s : State) : Out :=
  let e := s.entry n
  .next (if e.timerPassed s.time e.deadline then
    raise { Raising.plain .alertDeadline .alertUnit with subject := e.ident.sender, message := e.ident.message }
      (enterQueued n .deadline s)
  else s)

/-! ## Forwards and cancels (R149, R150, R157, R34) -/

/-- The identity that three argument words name (R149). -/
def namedIdentity (w0 w1 w2 : Word) : Identity := ⟨w1 ++ w0, w2.setWidth 16⟩

/-- ALERT_FORWARD (R149), its conditions in order. -/
def alertForward (w0 w1 w2 : Word) (s : State) : ResultCode × State :=
  if w2 >>> 16 ≠ 0 then (.badArgument, s)
  else
    match s.holder (namedIdentity w0 w1 w2) with
    | none => (.noSuchAlert, s)
    | some n =>
      let e := s.entry n
      if e.policy ≠ .manual then (.wrongState, s)
      else if e.state = .recording then
        (.done, s.setEntry n { e with flags := { e.flags with forwardOnCompletion := true } })
      else if e.state = .pending then (.done, enterQueued n .forward s)
      else (.wrongState, s)

/-- The entry of earliest received time among those that qualify, the lower index first on equal times (R34). Received times
are compared as plain numbers, across the wrap of station time too (log entry 58; DESIGN CHOICE). -/
def State.earliest (s : State) (qualifies : AlertEntry → Bool) : Option EntryNo :=
  (places8.filter (fun n => qualifies (s.entry n))).foldl
    (fun best n =>
      match best with
      | none => some n
      | some m => if (s.entry n).received.toNat < (s.entry m).received.toNat then some n else some m)
    none

/-- The ALERT_FORWARD button (R34, R149). -/
def forwardButton (s : State) : ResultCode × State :=
  match s.earliest (fun e => e.state == .pending && e.policy == .manual) with
  | none => (.noSuchAlert, s)
  | some n => (.done, enterQueued n .forward s)

/-- A cancel acts on an entry by its state (R150, R157). A cancel in the FADE block has no further effect. -/
def cancelEntry (n : EntryNo) (s : State) : ResultCode × State :=
  let e := s.entry n
  match e.state with
  | .recording | .pending | .queued => (.done, logAlert n e.state .cancel 0 (finishEntry n .cancelled s))
  | .airing => (.done, { s with airing := { s.airing with cancel := true } })
  | .free | .aired | .cancelled | .expired | .noted => (.wrongState, s)

/-- ALERT_CANCEL (R150). -/
def alertCancel (w0 w1 w2 : Word) (s : State) : ResultCode × State :=
  if w2 >>> 16 ≠ 0 then (.badArgument, s)
  else
    match s.holder (namedIdentity w0 w1 w2) with
    | none => (.noSuchAlert, s)
    | some n => cancelEntry n s

/-- The ALERT_CANCEL button (R34): the AIRING alert, else the earliest PENDING or QUEUED one. -/
def cancelButton (s : State) : ResultCode × State :=
  match s.earliest (fun e => e.state == .airing) with
  | some n => cancelEntry n s
  | none =>
    match s.earliest (fun e => e.state == .pending || e.state == .queued) with
    | some n => cancelEntry n s
    | none => (.noSuchAlert, s)

/-! ## The airing check (R152) -/

/-- Expired heads leave the queue; the first head whose expiry has not been reached is to air (R152). -/
def airingCheck : List Queued → State → Option EntryNo × State
  | [], s => (none, s)
  | q :: qs, s =>
    if reached s.time (s.entry q.entry).expiry then airingCheck qs (expireEntry q.entry s) else (some q.entry, s)

/-! ## Starting (R153, R155) -/

/-- The tone blocks of an airing (R153). -/
def toneBlocks (attention : Nat) (noAudio : Bool) : Nat :=
  if noAudio && attention == 0 then 1600 else attention * 200

/-- The message blocks of an airing (R153). -/
def messageBlocks (e : AlertEntry) : Nat := if e.flags.noAudio then 0 else e.recLen / Config.blockFrames

/-- The airing of an entry as it starts (R153). -/
def Airing.begun (n : EntryNo) (e : AlertEntry) (attention : Nat) (answer : AlertPolicy) (a : Airing) : Airing :=
  let t := toneBlocks attention e.flags.noAudio
  { a with
    state := if 0 < t then .tone else .message
    entry := some n
    ident := e.ident
    tone := t
    message := messageBlocks e
    given := 0
    answer := answer
    cancel := false
    blockGiven := false }

/-- An entry leaves the air queue and enters AIRING (R153). -/
def airEntry (n : EntryNo) (s : State) : State :=
  let e := s.entry n
  { s with
    alerts := { s.alerts with
      entry := s.alerts.entry.set n { e with state := .airing, airedStart := some s.time }
      queue := s.alerts.queue.filter (fun q => q.entry != n) }
    airing := s.airing.begun n e s.sections.policy.attention s.delayAnswer }

/-- An entry starts airing, and the neighbours are told (R153, R155). ALERT_STATE is written before the CALLER_STATE entries
of the lines that are held (log entry 83; DESIGN CHOICE). -/
def startAiring (n : EntryNo) (s : State) : State :=
  let answer := s.delayAnswer
  let s1 := airEntry n s
  let s2 := handLog (alertStateEntry n .queued .airing .start (answer == .cut) (s1.entry n).recLen (s1.entry n) s.time) s1
  let s3 := delayAiring answer (holdForAiring s2)
  arbitrate (if answer = .cut then pauseDecks s3 else s3)

/-! ## The end of a run (R156) -/

/-- A run of airings ends: the alert source leaves, and the delay pause and the deck pause are released. The counts of tone,
message and given blocks stay (log entry 93; DESIGN CHOICE). -/
def endRun (s : State) : State :=
  let s1 := { s with airing := { s.airing with state := .idle, entry := none, cancel := false, blockGiven := false } }
  arbitrate (releaseDecks (delayRunEnd s1))

/-- The boundary's airing check starts the next airing of the queue, or leaves the state as it was. -/
def checkAndStart (s : State) : State :=
  match airingCheck s.alerts.queue s with
  | (some n, s') => startAiring n s'
  | (none, s') => s'

/-- A GAP block has been given. -/
def Airing.gapOver (a : Airing) : Bool := a.state == .gap && a.blockGiven

/-- AIRING_START (R152, R153): at an IDLE boundary, or as a GAP block ends. A boundary at which AIRING_END or
CANCEL_FADE_END has ended the run is IDLE too: an entry that a timer queues there after that starts a new run at once, and
the source is ALERT in the block before and the block that begins, so no crossfade is made (log entry 112; DESIGN CHOICE). -/
def execAiringStart (s : State) : Out :=
  .next (if s.airing.state = .idle ∨ s.airing.gapOver then checkAndStart s else s)

/-- TONE_END (R153): the tone blocks are given and the recording follows. -/
def execToneEnd (s : State) : Out :=
  .next (if s.airing.state = .tone ∧ s.airing.tone ≤ s.airing.given ∧ 0 < s.airing.message then
    { s with airing := { s.airing with state := .message } }
  else s)

/-- The last block of an airing has been given. -/
def Airing.allGiven (a : Airing) : Bool :=
  (a.state == .tone || a.state == .message) && decide (a.tone + a.message ≤ a.given)

/-- The airing entry reaches its final state with its aired end; the run goes on through a GAP block when the air queue
is not empty, and ends else (R156, R157). The counts of tone, message and given blocks keep the last airing's numbers until
the next one begins (log entry 93; DESIGN CHOICE). ALERT_STATE comes before the DELAY_STATE of the run's end (log entry
109; DESIGN CHOICE). -/
def closeAiring (st : EntryState) (cause : AlertCause) (partialAir : Bool) (s : State) : State :=
  match s.airing.entry with
  | none => s
  | some n =>
    let e := s.entry n
    let s1 := s.setEntry n { e with
      airedEnd := some s.time, flags := { e.flags with partialAir := e.flags.partialAir || partialAir } }
    let s2 := logAlert n .airing cause s.airing.given (finishEntry n st s1)
    if s2.alerts.queue.isEmpty then endRun s2
    else arbitrate { s2 with airing := { s2.airing with
      state := .gap, entry := none, cancel := false, blockGiven := false } }

/-- AIRING_END (R156). -/
def execAiringEnd (s : State) : Out :=
  .next (if s.airing.allGiven then closeAiring .aired .complete false s else s)

/-- CANCEL_FADE_END (R157): the boundary after the FADE block. -/
def execCancelFadeEnd (s : State) : Out :=
  .next (if s.airing.state = .fade ∧ s.airing.blockGiven then closeAiring .cancelled .cancel true s else s)

/-- GAP_END (R156): the airing check is made; with nothing left to air the run ends. -/
def execGapEnd (s : State) : Out :=
  .next (if s.airing.gapOver then
    match airingCheck s.alerts.queue s with
    | (some n, s') => startAiring n s'
    | (none, s') => endRun s'
  else s)

/-! ## The airing's blocks (R146, R157, R158) -/

/-- A block of the airing has been given. -/
def Airing.blockEnds (a : Airing) : Airing :=
  match a.state with
  | .tone | .message => { a with given := a.given + 1 }
  | .fade => { a with given := a.given + 1, blockGiven := true }
  | .gap => { a with blockGiven := true }
  | .idle => a

/-- A cancel taken in the block before makes the block that begins the FADE block, when there is one to fade (R157). -/
def Airing.fadeBegins (a : Airing) : Airing :=
  if (a.state = .tone ∨ a.state = .message) ∧ a.cancel ∧ a.given < a.tone + a.message then
    { a with state := .fade, blockGiven := false }
  else a

/-- The active port was not UP in a block of the airing: LINK_DOWN_DURING_AIR (R158). -/
def noteLinkDown (s : State) : State :=
  match s.airing.entry with
  | none => s
  | some n =>
    if s.airing.state.airs && s.link.notUp then
      s.setEntry n { s.entry n with flags := { (s.entry n).flags with linkDown := true } }
    else s

end Sys2Proof.Machine
end

