-- ==== Sys2Proof/Machine/StudioLines.lean ====
section
/-! DEFINITION. The studio line unit: sampling, acceptance and dispatch of the GPI lines (R29 to R34). -/

namespace Sys2Proof.Machine

open Sys2Proof

/-! ## Sampling (R29, R30) -/

/-- A line's first sample after reset sets the accepted level (R29). -/
def GpiLine.first (g : GpiSetting) (level : Bool) (l : GpiLine) : GpiLine :=
  { l with accepted := level, sampled := true, armed := g.armedAt level, count := 0 }

/-- A later sample (R30): the fourth consecutive differing one makes the new level due for acceptance. -/
def GpiLine.sample (now : Time) (level : Bool) (l : GpiLine) : GpiLine :=
  if level = l.accepted then { l with count := 0 }
  else
    let l1 := if l.count = 0 then { l with stamp := now } else l
    if l.count = 3 then { l1 with count := 0, due := true } else { l1 with count := l.count + 1 }

/-- The lines as a block begins: each is sampled once, in every part state (R30). -/
def sampleLines (now : Time) (set : Eight GpiSetting) (levels : BitVec 8) (g : Eight GpiLine) : Eight GpiLine :=
  Eight.ofFn (fun n =>
    let l := g.get n
    let level := levels.getLsbD n.val
    if l.sampled then l.sample now level else l.first (set.get n) level)

/-- The armed flag of each line with a new function or sense worked out again from its accepted level (R29). -/
def rearm (old : Eight GpiSetting) (s : State) : State :=
  { s with gpi := Eight.ofFn (fun n =>
    let l := s.gpi.get n
    let g := s.sections.station.gpi.get n
    if g = old.get n then l else { l with armed := g.armedAt l.accepted }) }

/-! ## Dispatch (R33, R34) -/

/-- The owner's action for a function (R34). -/
def ownerActs (n : GpiNo) : GpiFunction → State → ResultCode × State
  | .none, s => (.done, s)
  | .dump, s => dump (.line n) s
  | .takeCaller, s => callerTake .button s
  | .dropCallers, s => dropCallers s
  | .alertForward, s => forwardButton s
  | .alertCancel, s => cancelButton s
  | .skip, s => skipPlaying s
  | .logOnly, s => (.done, s)

/-- A line fires (R33): the GPI entry with the owner's answer, and the owner's action. A line with function NONE writes
and dispatches nothing (R31). -/
def fireLine (n : GpiNo) (s : State) : State :=
  let g := s.sections.station.gpi.get n
  let l := s.gpi.get n
  if g.function = .none then s
  else
    (ownerActs n g.function (handLog (gpiEntry n g l.accepted l.stamp (ownerActs n g.function s).1 false) s)).2

/-- GPI_LEVEL_ACCEPTED (R30 to R32): the new level is accepted; an active transition on an armed line fires it and
disarms it, an inactive one rearms it. -/
def acceptLevel (n : GpiNo) (s : State) : State :=
  let g := s.sections.station.gpi.get n
  let l := s.gpi.get n
  let level := !l.accepted
  let s' := { s with gpi := s.gpi.set n { l with accepted := level, due := false, armed := g.armedAt level } }
  if g.activeLevel level && l.armed then fireLine n s' else s'

def execGpiLevelAccepted (n : GpiNo) (s : State) : Out :=
  .next (if (s.gpi.get n).due then acceptLevel n s else s)

end Sys2Proof.Machine
end

