-- ==== Sys2Proof/Machine/Fetch.lean ====
section
/-! DEFINITION. The fetch engine and the rescue store (R55 to R58, R64, R70, R71). -/

namespace Sys2Proof.Machine

open Sys2Proof

/-! ## A cue (R55) -/

/-- A deck that takes a cued record (R37, R55): the copy, a fresh part half, and the CUED write. -/
def cuedDeckOf (addr : Addr) (kind : SegKind) (f : SampleFormat) (c : HostHalf) (d : DeckId) (now : Time) (k : Deck) :
    Deck :=
  { k.emptied k.writes with
    state := if kind = .audio then .loading else .ready
    addr := addr
    copy := c
    kind := kind
    format := f
    part := { PartHalf.zero with letter := BitVec.ofNat 8 (sideCode d), cued := now }
    fetchPos := c.buffer + BitVec.ofNat 64 (c.cueIn * f.frameBytes)
    toFetch := if kind = .audio then c.length - c.cueIn else 0
    lastEnd := now }

/-! ## Requests for fetches (R56, R57) -/

/-- A deck has a request (R56). -/
def Deck.wants (mark : Nat) (k : Deck) : Bool :=
  !k.noMore && decide (0 < k.toFetch) &&
  match k.state with
  | .loading => decide (k.fifo.length < Config.fifoFrames)
  | .playing | .ending | .paused => decide (k.fifo.length ≤ mark)
  | .empty | .ready => false

/-- The loader has a request: a load is in progress and its record has been read (R70). -/
def Rescue.wants (r : Rescue) : Bool := r.state == .loading && decide (0 < r.left)

/-- A requester's fill, and its place among equal fills (R57). -/
def State.fetchRank (s : State) : FetchUser → Nat × Nat
  | .loader => (Config.fifoFrames, 4)
  | .deck d =>
    let k := s.deck d
    (k.fifo.length, (if k.state = .playing ∨ k.state = .ending then 0 else 2) + sideCode d)

/-- The requesters with a request. -/
def State.requesters (s : State) : List FetchUser :=
  let mark := s.sections.station.fetchMark
  (if s.decks.deck.a.wants mark then [.deck .a] else []) ++ (if s.decks.deck.b.wants mark then [.deck .b] else []) ++
    (if s.rescue.wants then [.loader] else [])

/-- The better of two requesters: the lower fill, then the place among equals. -/
def State.better (s : State) (x y : FetchUser) : FetchUser :=
  let a := s.fetchRank x
  let b := s.fetchRank y
  if b.1 < a.1 ∨ (b.1 = a.1 ∧ b.2 < a.2) then y else x

/-- The requester that the engine serves next (R57). -/
def State.chosen (s : State) : Option FetchUser :=
  match s.requesters with
  | [] => none
  | x :: xs => some (xs.foldl s.better x)

/-- The bytes a deck read covers (R57): up to 4,096, the bytes still to fetch, and the FIFO's room. -/
def Deck.readLength (k : Deck) : Nat :=
  let b := k.format.frameBytes
  min (min Config.fetchChunk (k.toFetch * b - k.carry.length))
    ((Config.fifoFrames - k.fifo.length) * b - k.carry.length)

/-- The bytes a loader read covers (R57). -/
def Rescue.readLength (r : Rescue) : Nat :=
  min Config.fetchChunk (r.left * r.format.frameBytes - r.carry.length)

/-- Issue a read for a user: the fetch position advances by the bytes read (R57). -/
def issueFetch (u : FetchUser) (s : State) : State :=
  match u with
  | .deck d =>
    let k := s.deck d
    let n := k.readLength
    { s.setDeck d { k with fetchPos := k.fetchPos + BitVec.ofNat 64 n } with
      fetch := ⟨some ⟨u, k.fetchPos, n, true⟩⟩ }
  | .loader =>
    let n := s.rescue.readLength
    { s with
      rescue := { s.rescue with pos := s.rescue.pos + BitVec.ofNat 64 n }
      fetch := ⟨some ⟨u, s.rescue.pos, n, true⟩⟩ }

/-- FETCH_ISSUE (R57): the idle engine issues the next read. -/
def execFetchIssue (s : State) : Out :=
  .next (match s.fetch.inFlight, s.chosen with
    | none, some u => issueFetch u s
    | _, _ => s)

/-! ## Completions (R57, R58, R64, R70) -/

/-- A LOADING deck is READY with its FIFO full or nothing still to fetch (R56). -/
def Deck.settle (k : Deck) : Deck :=
  if k.state = .loading ∧ (Config.fifoFrames ≤ k.fifo.length ∨ k.toFetch = 0) then { k with state := .ready } else k

/-- A good chunk joins a deck's FIFO (R57, R58). -/
def Deck.join (bs : List Byte) (k : Deck) : Deck :=
  let all := k.carry ++ bs
  let fs := framesOf k.format all
  { k with fifo := k.fifo ++ fs, toFetch := k.toFetch - fs.length, carry := carryOf k.format all }.settle

/-- A good chunk joins the store; with its last frame the store is READY (R70). -/
def Rescue.join (bs : List Byte) (r : Rescue) : Rescue :=
  let all := r.carry ++ bs
  let fs := framesOf r.format all
  let left := r.left - fs.length
  { r with
    frames := r.frames ++ fs
    left := left
    carry := carryOf r.format all
    state := if left = 0 then .ready else r.state }

/-- The engine is idle again. -/
def idleEngine (s : State) : State := { s with fetch := ⟨none⟩ }

/-- FETCH_READ_DONE (R57): a discarded read joins nothing. -/
def execFetchReadDone (data : List Byte) (s : State) : Out :=
  .next (match s.fetch.inFlight with
    | none => s
    | some r =>
      let s' := idleEngine s
      if r.live then
        match r.user with
        | .deck d => s'.setDeck d ((s.deck d).join (fitTo r.len data))
        | .loader => { s' with rescue := s.rescue.join (fitTo r.len data) }
      else s')

/-- A deck after a failed fetch read, by its state (R64). The deck's present frames are the last it gets. -/
def Deck.fetchFailed (k : Deck) : Deck :=
  let k1 := { k with noMore := true, part := { k.part with flags := { k.part.flags with fetchError := true } } }
  match k.state with
  | .loading => { k1 with state := .ready, decided := some (.faulted, .fetchError) }
  | .playing => { k1 with state := .ending, decided := some (.faulted, .fetchError) }
  | .paused =>
    if k.returnTo = .playing then { k1 with returnTo := .ending, decided := some (.faulted, .fetchError) } else k1
  | .ending | .empty | .ready => k1

/-- A failed fetch read of a deck (R64). -/
def deckFetchFailed (d : DeckId) (s : State) : State :=
  let k := s.deck d
  let s1 := raise { Raising.plain .fetchError (deckUnit d) with subject := k.addr } s
  let s2 := s1.setDeck d k.fetchFailed
  if k.state = .loading ∧ k.fifo.isEmpty then endDeck false d .faulted .fetchError true s2 else s2

/-- The reasons of FETCH_ERROR for the rescue store (R70; log entry 14). -/
inductive FillReason where
  | fetch
  | readFailed
  | badFillRecord
deriving DecidableEq, Repr

def FillReason.code : FillReason → Nat
  | .fetch => 0 | .readFailed => 1 | .badFillRecord => 2

/-- A load that fails: the store is EMPTY, and FETCH_ERROR carries the fill address (R70). -/
def loadFailed (reason : FillReason) (snap : List Byte) (s : State) : State :=
  raise { Raising.plain .fetchError .rescueStore with
      subject := s.rescue.fill, detail := reason.code, snapshot := snap }
    { s with rescue := { s.rescue with state := .empty, frames := [], len := 0, reading := false, left := 0, carry := [] } }

/-- FETCH_READ_FAILED (R64, R70). -/
def execFetchReadFailed (s : State) : Out :=
  .next (match s.fetch.inFlight with
    | none => s
    | some r =>
      let s' := idleEngine s
      if r.live then
        match r.user with
        | .deck d => deckFetchFailed d s'
        | .loader => loadFailed .fetch zeros16 s'
      else s')

/-! ## Loads of the rescue store (R70) -/

/-- A load in progress: its record's read in flight, or its frames. -/
def Rescue.busy (r : Rescue) : Bool := r.reading || r.state == .loading

/-- The store gives up a load in progress: its reads are discarded, and the store is EMPTY when it held no complete
copy (R70). -/
def abandonLoad (s : State) : State :=
  let s1 := giveUp .fillRecord s.rescue.reading { s with fetch := s.fetch.discard .loader }
  if s.rescue.state = .loading then
    { s1 with rescue := { s1.rescue with state := .empty, frames := [], len := 0, reading := false, left := 0, carry := [] } }
  else { s1 with rescue := { s1.rescue with reading := false } }

/-- Both readers lose the store: each restarts at frame 0 when it is READY again (R69, R71, R102). -/
def silenceReaders (s : State) : State :=
  { s with decks := { s.decks with fillLive := false }, monitor := { s.monitor with live := false } }

/-- The store is EMPTY and no load begins: the fill address is 0 (R70). -/
def emptyStore (s : State) : State :=
  let s1 := abandonLoad s
  silenceReaders { s1 with rescue := { s1.rescue with state := .empty, frames := [], len := 0, fill := 0 } }

/-- A load begins with the read of the fill record; an address of 0 makes the store EMPTY (R70). A READY store stays READY, and
its readers sound, until that record has been read and has passed: R70 leaves READY there, where R71 and R102 speak of a
reload begun (log entry 62; DESIGN CHOICE). -/
def beginLoad (fill : Addr) (s : State) : State :=
  if fill = 0 then emptyStore s
  else
    let s1 := abandonLoad s
    { s1 with rescue := { s1.rescue with reading := true, fill := fill } }

/-- The fill record has passed: the store enters LOADING (R70). -/
def loadRecord (h : HostHalf) (f : SampleFormat) (s : State) : State :=
  let n := min (h.length - h.cueIn) Config.storeFrames
  silenceReaders { s with rescue := { s.rescue with
    state := .loading, frames := [], len := n, reading := false, format := f
    pos := h.buffer + BitVec.ofNat 64 (h.cueIn * f.frameBytes), left := n, carry := [] } }

/-- The fill record is AUDIO and passes its checks (R41, R70). -/
def fillFormat (h : HostHalf) : Option SampleFormat :=
  match validate h with
  | .ok (.audio, f) => some f
  | .ok _ => none
  | .error _ => none

/-- FILL_RECORD_READ_DONE in the store (R70). -/
def fillRecordReadDone (r : ReadResult) (s : State) : State :=
  if !s.rescue.reading then s
  else
    match r with
    | none => silenceReaders (loadFailed .readFailed zeros16 s)
    | some bs =>
      match fillFormat (hostHalfOf bs) with
      | none => silenceReaders (loadFailed .badFillRecord (snapshot16 bs) s)
      | some f => loadRecord (hostHalfOf bs) f s

def execFillRecordReadDone (r : ReadResult) (s : State) : Out :=
  .next (onRead .fillRecord s (fillRecordReadDone r))

/-- HALT abandons a load in progress and the store becomes EMPTY; a READY store with no load stays (R70). -/
def storeHalt (s : State) : State :=
  if s.rescue.busy then
    let s1 := abandonLoad s
    silenceReaders { s1 with rescue := { s1.rescue with state := .empty, frames := [], len := 0 } }
  else s

end Sys2Proof.Machine
end

