-- ==== Sys2Proof/Machine/Walker.lean ====
section
/-! DEFINITION. The order walker: walks, what a read returns, the walker's own record writes (R42 to R51). -/

namespace Sys2Proof.Machine

open Sys2Proof

/-! ## Walks (R44) -/

/-- A waiting walker (R44). -/
def WalkState.waits : WalkState → Bool
  | .waitingDraft | .atEnd | .chainWait => true
  | .noOrder | .toExamine => false

/-- A walk may begin: RUNNING, demand, an order, and no walk in progress (R44). -/
def State.mayWalk (s : State) : Bool := s.running && s.demand && !s.walker.walking && s.walker.state != .noOrder

/-- The walk begins and reads the record at the cue pointer (R44). -/
def beginWalk (s : State) : State :=
  { s with walker := { s.walker with walking := true, links := 0, wait := 0, lapsed := false } }

/-- WALK_START (R44): a record to examine, demand that has arisen anew, or a header edition change whose pass has applied
its sections. That change serves until the next boundary, so a further walk may begin on it in the same block, after a
CHAIN_LIMIT as well (R48; log entry 75; DESIGN CHOICE). From CHAIN_WAIT demand that has arisen anew begins a walk too, by
R44, though R48 names the wait and the edition change alone (log entry 87; DESIGN CHOICE). An edition change begins its walk
also when the table read of its pass has failed and no section was applied, or when a HALT has cut the pass and an attach
ends in the same block (log entry 88; DESIGN CHOICE). -/
def execWalkStart (s : State) : Out :=
  .next (if s.mayWalk && (s.walker.state == .toExamine || s.walker.lapsed ||
      (s.walker.surveyChanged && s.survey.phase == .idle)) then beginWalk s else s)

/-- WALK_WAIT_EXPIRED (R44): the wait count has reached 20 blocks. -/
def execWalkWaitExpired (s : State) : Out :=
  .next (if s.mayWalk && s.walker.state.waits && decide (Config.walkWait ≤ s.walker.wait) then beginWalk s else s)

/-- The walk ends with the walker in a state (R44). The walk count stays until the next walk begins (spec/03, a walk after
PROGRAMME_RESET). -/
def endWalk (st : WalkState) (s : State) : State :=
  noteDemand { s with walker := { s.walker with state := st, walking := false, lapsed := false } }

/-- A walk in progress ends at once; its read is discarded when it completes (R50, R51). -/
def stopWalk (s : State) : State :=
  if s.walker.walking then endWalk s.walker.state (giveUp .record true s) else s

/-- The cue pointer is set to a head (R50). -/
def setHead (head : Addr) (s : State) : State :=
  let s1 := stopWalk s
  { s1 with walker := { s1.walker with
    ptr := head, state := if head = 0 then .noOrder else .toExamine, links := 0, wait := 0 } }

/-! ## The walker's writes (R39) -/

/-- A write of the walker joins its writes; they are made one at a time. -/
def pushWalkerWrite (addr : Addr) (half : PartHalf) (st : RecState) (s : State) : State :=
  { s with walker := { s.walker with
    writes := issueHead s.running (s.walker.writes ++ [⟨addr, half, st, .waiting, false⟩]) } }

/-- The walker's writes after a completion: a failed one is not held (R39). -/
def walkerWritesAfter (running ok : Bool) : List RecordWrite → List RecordWrite
  | [] => []
  | w :: ws => if ok && w.phase == .first then { w with phase := .last } :: ws else issueHead running ws

/-- WALKER_WRITE_DONE in the walker (R39). -/
def walkerWriteDone (ok : Bool) (s : State) : State :=
  if !inFlightHead s.walker.writes then s
  else
    let s' := if ok then s else writeError .orderWalker s
    { s' with walker := { s'.walker with writes := walkerWritesAfter s.running ok s.walker.writes } }

def execWalkerWriteDone (ok : Bool) (s : State) : Out :=
  .next (onWrite .walkerWrite .orderWalker ok s (walkerWriteDone ok))

/-- The walker stops at HALT and at entry to DETACHED (R51; log entry 40): its walk ends, and writes not yet issued are
not made. -/
def stopWalker (s : State) : State :=
  let s1 := giveUp .walkerWrite (inFlightHead s.walker.writes) (stopWalk s)
  { s1 with walker := { s1.walker with writes := [] } }

/-! ## What a read returns (R45 to R49) -/

/-- RECORD_BAD with the record address as subject. -/
def recordBad (reason : RecordReason) (snap : List Byte) (s : State) : State :=
  raise { Raising.plain .recordBad .orderWalker with
    subject := s.walker.ptr, detail := reason.code, snapshot := snap } s

/-- The walk stops before its 65th link: the walk count returns to 0 (R48). The raising comes after the SEGMENT_END of a record
that the same read has marked (log entry 98; DEDUCED). -/
def chainLimit (bs : List Byte) (s : State) : State :=
  let s1 := recordBad .chainLimit (snapshot16 bs) s
  endWalk .chainWait { s1 with walker := { s1.walker with links := 0 } }

/-- The walker follows a record's next field: to the end of the chain, on to the next record, or no further than 64 links
(R46 to R48). -/
def follow (bs : List Byte) (next : Addr) (s : State) : State :=
  if next = 0 then endWalk .atEnd s
  else if Config.walkLinks ≤ s.walker.links then chainLimit bs s
  else { s with walker := { s.walker with ptr := next, state := .toExamine, links := s.walker.links + 1 } }

/-- The deck letter NONE (R37). -/
def noLetter : Byte := 2

/-- A record marked by the walker, with its SEGMENT_END entry (R40). The entry's time is the present station time, also
for a left-behind record whose kept part half has an aired end (log entry 101; DESIGN CHOICE). -/
def markRecord (h : HostHalf) (half : PartHalf) (st : RecState) (s : State) : State :=
  handLog (segmentEntry .segmentEnd .orderWalker s.time s.walker.ptr h.tag half st)
    (pushWalkerWrite s.walker.ptr half st s)

/-- The part half of a bad record (R45). -/
def badHalf (now : Time) : PartHalf :=
  { PartHalf.zero with
    flags := { OutcomeFlags.clear with badRecord := true }, reason := .badRecord, letter := noLetter, cued := now }

/-- A bad record is FAULTED, RECORD_BAD is raised, and next is followed (R45). -/
def badRecord (bs : List Byte) (reason : RecordReason) (s : State) : State :=
  let h := hostHalfOf bs
  follow bs h.next (markRecord h (badHalf s.time) .faulted (recordBad reason (snapshot16 bs) s))

/-- A record left behind is ABANDONED with end reason STALE (R46). -/
def staleRecord (bs : List Byte) (s : State) : State :=
  let h := hostHalfOf bs
  follow bs h.next (markRecord h { partHalfOf bs with reason := .stale } .abandoned s)

/-- A valid record is cued into a deck, and the pointer goes on to its next (R45). -/
def cueRecord (h : HostHalf) (k : SegKind) (f : SampleFormat) (d : DeckId) (s : State) : State :=
  let x := cuedDeckOf s.walker.ptr k f (cueCopy k h) d s.time (s.deck d)
  let s1 := s.setDeck d { x with writes := pushWrite s.running x.addr x.part .cued x.writes }
  if h.next = 0 then endWalk .atEnd s1
  else endWalk .toExamine { s1 with walker := { s1.walker with ptr := h.next } }

/-- A READY record: validated, then cued into the deck that demand names (R41, R43, R45). -/
def readyRecord (bs : List Byte) (s : State) : State :=
  let h := hostHalfOf bs
  match validate h with
  | .error r => badRecord bs r s
  | .ok (k, f) =>
    match s.demandDeck with
    | some d => cueRecord h k f d s
    | none => endWalk .toExamine s

/-- A record examined by its state word (R45, R46). -/
def examine (bs : List Byte) (s : State) : State :=
  let h := hostHalfOf bs
  match RecState.ofCode h.state.toNat with
  | none => badRecord bs .stateValue s
  | some .ready => readyRecord bs s
  | some .draft => endWalk .waitingDraft s
  | some .cued | some .playing => if s.heldByDeck s.walker.ptr then follow bs h.next s else staleRecord bs s
  | some .aired | some .skipped | some .faulted | some .abandoned => follow bs h.next s

/-- RECORD_READ_DONE in the walker (R45 to R49). In AT_END the next field alone is looked at (R47). -/
def recordReadDone (r : ReadResult) (s : State) : State :=
  if !s.walker.walking then s
  else
    match r with
    | none => endWalk .chainWait (recordBad .readFailed zeros16 s)
    | some bs => if s.walker.state = .atEnd then follow bs (hostHalfOf bs).next s else examine bs s

def execRecordReadDone (r : ReadResult) (s : State) : Out :=
  .next (onRead .record s (recordReadDone r))

/-- A survey pass is in progress: its header, its sections or the request slots are being read (R11). -/
def SurveyPhase.inPass : SurveyPhase → Bool
  | .editionWord | .table | .sect _ _ | .slots => true
  | .idle | .attachHeader _ | .attachSect _ _ _ | .retryHeader => false

/-- The walker as a block begins (R44): the wait count rises; a header edition change is forgotten unless the pass that
found it is still in progress. -/
def walkerBlockBegins (s : State) : State :=
  { s with walker := { s.walker with
    surveyChanged := s.walker.surveyChanged && s.survey.phase.inPass
    wait := if s.running && s.walker.state.waits && !s.walker.walking then s.walker.wait + 1 else s.walker.wait } }

end Sys2Proof.Machine
end

