-- ==== Sys2Proof/Machine/Requests.lean ====
section
/-! DEFINITION. Request slots: taking a request, the result writes, and one command for each request kind (R15, R16). -/

namespace Sys2Proof.Machine

open Sys2Proof

/-! ## Taking (R15, R16) -/

/-- A request handed to its owner, which acts at once on its own present state (R15; spec/12, Request slot). -/
def ownerOf (r : Request) (s : State) : ResultCode × State :=
  match r.kind.toNat with
  | 1 => segmentSkip r.w0 s
  | 2 => callerOnAir r.w0 s
  | 3 => callerHold r.w0 s
  | 4 => callerDrop r.w0 s
  | 5 => callerTake .request s
  | 6 => callerQueue r.w0 r.w1 s
  | 7 => delayEngage s
  | 8 => delayExit s
  | 9 => dump (.slot r.slot) s
  | 10 => alertForward r.w0 r.w1 r.w2 s
  | 11 => alertCancel r.w0 r.w1 r.w2 s
  | 12 => clockSelect r.w0 s
  | 13 => linkSwitch r.w0 s
  | 14 => setTime r.w0 r.w1 s
  | 15 => faultAck r.w0 s
  | _ => (.unknownKind, s)

/-- The REQUEST entry (R16). Of an unknown kind above 65,535 it shows the low 16 bits (log entry 114; DESIGN CHOICE). -/
def requestEntry (r : Request) (c : ResultCode) (now : Time) : LogEntry :=
  entryOf .request .surveyUnit now 0 r.kind.toNat r.slot.val r.seq.toNat c.code

/-- A result on its way to its slot, its code and done time first (R16). -/
def resultOf (r : Request) (c : ResultCode) (now : Time) (running : Bool) : ResultWrite :=
  ⟨r.slot, c, now.setWidth 32, if running then .first else .held⟩

/-- The survey unit's part of a taking: the counter takes the sequence number, the result write begins, and a REQUEST
entry is written (R15, R16). The entry is handed at the taking, while the result write is still on its way (log entry 73;
DESIGN CHOICE). -/
def answer (r : Request) (x : ResultCode × State) : State :=
  let s := x.2
  handLog (requestEntry r x.1 s.time)
    { s with survey := { s.survey with
      counter := r.seq, results := s.survey.results ++ [resultOf r x.1 s.time s.running] } }

/-- A request is taken: its owner acts, and the answer follows (R15, R16). -/
def takeRequest (r : Request) (s : State) : State := answer r (ownerOf r s)

/-- A result for the slot is held or on its way, so the slot is passed over (R15). -/
def State.outstanding (s : State) (i : SlotNo) : Bool := s.survey.results.any (fun w => w.slot == i)

/-- A request may be taken from a slot: in RUNNING, with no result outstanding for it (R15). -/
def State.takes (s : State) (i : SlotNo) : Bool := s.running && !s.outstanding i

/-- The sixteen slot numbers, in order. -/
def slots16 : List SlotNo := [0, 1, 2, 3, 4, 5, 6, 7, 8, 9, 10, 11, 12, 13, 14, 15]

/-- Put a request in its place by forward distance from the counter; one of equal distance goes behind (R15). -/
def placeRequest (counter : Word) (r : Request) : List Request → List Request
  | [] => [r]
  | x :: xs =>
    if (r.seq - counter).toNat < (x.seq - counter).toNat then r :: x :: xs else x :: placeRequest counter r xs

/-- The POSTED requests of a slot read in the order of their taking (R15). -/
def posted (s : State) (bs : List Byte) : List Request :=
  let found := (slots16.filter (fun i => slotPosted bs i && !s.outstanding i)).map (requestAt bs)
  found.foldl (fun acc r => placeRequest s.survey.counter r acc) []

/-- The POSTED slots are taken, each request meeting what the ones before it did (R15). -/
def takePosted (bs : List Byte) (s : State) : State := (posted s bs).foldl (fun s r => takeRequest r s) s

/-! ## Result writes (R16) -/

/-- One result after a completion: the slot state follows the code and time; a failed one is held. -/
def ResultWrite.after (running ok : Bool) (w : ResultWrite) : Option ResultWrite :=
  if !ok then some { w with phase := .held }
  else
    match w.phase with
    | .first => some { w with phase := if running then .last else .held }
    | .last => none
    | .waiting | .held => some w

/-- A result in flight for a slot. -/
def ResultWrite.inFlight (i : SlotNo) (w : ResultWrite) : Bool :=
  w.slot == i && (w.phase == .first || w.phase == .last)

/-- The lowest slot whose held result waits for its turn in the block's attempts (R16). -/
def nextRetry (ws : List ResultWrite) : Option SlotNo :=
  slots16.find? (fun i => ws.any (fun w => w.slot == i && w.phase == .waiting))

/-- The attempt at the waiting result of lowest slot begins, when none is being made and the part may write (R16). -/
def Survey.retryNext (running : Bool) (v : Survey) : Survey :=
  match v.retrying, nextRetry v.results with
  | none, some i =>
    if running then
      { v with
        retrying := some i
        results := v.results.map (fun w => if w.slot = i ∧ w.phase = .waiting then { w with phase := .first } else w) }
    else v
  | _, _ => v

/-- A result write of a slot has completed: the attempt at it is over unless its last part is still to be made, and the
next begins (R16). -/
def Survey.retried (running : Bool) (i : SlotNo) (v : Survey) : Survey :=
  if v.retrying = some i ∧ !v.results.any (ResultWrite.inFlight i) then
    Survey.retryNext running { v with retrying := none }
  else v

/-- RESULT_WRITE_DONE in the survey unit (R16). -/
def resultWriteDone (i : SlotNo) (ok : Bool) (s : State) : State :=
  if s.survey.results.any (ResultWrite.inFlight i) then
    let s' := if ok then s else writeError .surveyUnit s
    let v : Survey := { s'.survey with
      results := s.survey.results.filterMap (fun w => if w.inFlight i then w.after s.running ok else some w) }
    { s' with survey := v.retried s.running i }
  else s

def execResultWriteDone (i : SlotNo) (ok : Bool) (s : State) : Out :=
  .next (onWrite (.result i) .surveyUnit ok s (resultWriteDone i ok))

/-- A block's attempts at the held results: each waits for its turn, and the first begins (R16). -/
def Survey.retryResults (v : Survey) : Survey :=
  Survey.retryNext true { v with
    results := v.results.map (fun w => if w.phase = .held then { w with phase := .waiting } else w)
    resultsTried := true }

/-- HELD_RESULT_RETRY (R16): in each RUNNING block one attempt for each held result, one at a time in slot index order. -/
def execHeldResultRetry (s : State) : Out :=
  .next (if s.running && !s.survey.resultsTried then { s with survey := s.survey.retryResults } else s)

/-! ## The request commands (R15, and the rule of each owner) -/

/-- A request of one kind taken alone, its owner's action given. -/
def takeAlone (r : Request) (owner : State → ResultCode × State) (s : State) : Out :=
  .next (if s.takes r.slot then answer r (owner s) else s)

/-- A request with its kind and arguments. -/
def requestOf (slot : SlotNo) (seq : Word) (kind : Nat) (w0 w1 w2 : Word) : Request :=
  ⟨slot, seq, BitVec.ofNat 32 kind, w0, w1, w2⟩

/-- UNKNOWN_KIND (R15): REFUSED, and the counter still moves. -/
def execUnknownKind (slot : SlotNo) (seq kind : Word) (s : State) : Out :=
  takeAlone ⟨slot, seq, kind, 0, 0, 0⟩ (fun s => (.unknownKind, s)) s

/-- SEGMENT_SKIP (R66). -/
def execSegmentSkip (slot : SlotNo) (seq which : Word) (s : State) : Out :=
  takeAlone (requestOf slot seq 1 which 0 0) (segmentSkip which) s

/-- CALLER_ON_AIR (R80). -/
def execCallerOnAir (slot : SlotNo) (seq line : Word) (s : State) : Out :=
  takeAlone (requestOf slot seq 2 line 0 0) (callerOnAir line) s

/-- CALLER_HOLD (R79). -/
def execCallerHold (slot : SlotNo) (seq line : Word) (s : State) : Out :=
  takeAlone (requestOf slot seq 3 line 0 0) (callerHold line) s

/-- CALLER_DROP (R82). -/
def execCallerDrop (slot : SlotNo) (seq line : Word) (s : State) : Out :=
  takeAlone (requestOf slot seq 4 line 0 0) (callerDrop line) s

/-- CALLER_TAKE (R81). -/
def execCallerTake (slot : SlotNo) (seq : Word) (s : State) : Out :=
  takeAlone (requestOf slot seq 5 0 0 0) (callerTake .request) s

/-- CALLER_QUEUE (R83). -/
def execCallerQueue (slot : SlotNo) (seq line position : Word) (s : State) : Out :=
  takeAlone (requestOf slot seq 6 line position 0) (callerQueue line position) s

/-- DELAY_ENGAGE (R114). -/
def execDelayEngage (slot : SlotNo) (seq : Word) (s : State) : Out :=
  takeAlone (requestOf slot seq 7 0 0 0) delayEngage s

/-- DELAY_EXIT (R115). -/
def execDelayExit (slot : SlotNo) (seq : Word) (s : State) : Out :=
  takeAlone (requestOf slot seq 8 0 0 0) delayExit s

/-- DELAY_DUMP (R117). -/
def execDelayDump (slot : SlotNo) (seq : Word) (s : State) : Out :=
  takeAlone (requestOf slot seq 9 0 0 0) (dump (.slot slot)) s

/-- ALERT_FORWARD (R149). -/
def execAlertForward (slot : SlotNo) (seq w0 w1 w2 : Word) (s : State) : Out :=
  takeAlone (requestOf slot seq 10 w0 w1 w2) (alertForward w0 w1 w2) s

/-- ALERT_CANCEL (R150). -/
def execAlertCancel (slot : SlotNo) (seq w0 w1 w2 : Word) (s : State) : Out :=
  takeAlone (requestOf slot seq 11 w0 w1 w2) (alertCancel w0 w1 w2) s

/-- CLOCK_SELECT (R21). -/
def execClockSelect (slot : SlotNo) (seq source : Word) (s : State) : Out :=
  takeAlone (requestOf slot seq 12 source 0 0) (clockSelect source) s

/-- LINK_SWITCH (R174). -/
def execLinkSwitch (slot : SlotNo) (seq port : Word) (s : State) : Out :=
  takeAlone (requestOf slot seq 13 port 0 0) (linkSwitch port) s

/-- SET_TIME (R27). -/
def execSetTime (slot : SlotNo) (seq low high : Word) (s : State) : Out :=
  takeAlone (requestOf slot seq 14 low high 0) (setTime low high) s

/-- FAULT_ACK (R181). -/
def execFaultAck (slot : SlotNo) (seq kinds : Word) (s : State) : Out :=
  takeAlone (requestOf slot seq 15 kinds 0 0) (faultAck kinds) s

end Sys2Proof.Machine
end

