-- ==== Sys2Proof/Machine/Survey.lean ====
section
/-! DEFINITION. The survey unit: sections applied and refused, survey passes, DETACHED, attach and re-attach (R3, R4, R7,
R8, R11 to R14, R185). -/

namespace Sys2Proof.Machine

open Sys2Proof

/-! ## Settings taking effect -/

/-- The fill gain's ramps after a change of the setting (R91): the gain the rescue follows, and the run-out fill's. -/
def regainFill (g : Nat) (s : State) : State :=
  if s.mixer.fillGain.target = g then s
  else
    { s with mixer := { s.mixer with
      fillGain := s.mixer.fillGain.start g 4
      fill := if s.decks.runOut then s.mixer.fill.start g 4 else s.mixer.fill } }

/-- A section 1 copy in force in the mixer and the delay line (R91, R116). The other settings are read where they are
used. Where the copy gives a line function DUMP under a level that is active already and makes the delay line SAFE, that
line re-fires by its new setting (R29, R32; log entry 78; DESIGN CHOICE). -/
def putStation (x : Station) (s : State) : State :=
  let s1 := { s with sections := { s.sections with station := x } }
  delaySettings s (regainFill x.fillGain (refreshStudio false s1))

/-- Section 1 applied: the copy in force, and lines with a new function or sense armed anew (R11, R29). -/
def useStation (x : Station) (s : State) : State := rearm s.sections.station.gpi (putStation x s)

/-- Section 4 in force with its lock flag (R14, R146). -/
def usePolicy (x : AlertSettings) (s : State) : State :=
  let gain := if s.airing.gain.target = x.gain then s.airing.gain else s.airing.gain.start x.gain 4
  { s with
    sections := { s.sections with policy := x, locked := x.lock }
    airing := { s.airing with gain := gain } }

/-- Section 2 in force (R50, R70): a new head moves the walker; a new fill address begins a load, but not within an
attach. -/
def useAnchor (attach : Bool) (x : Anchor) (s : State) : State :=
  let old := s.sections.anchor
  let s1 := { s with sections := { s.sections with anchor := x } }
  let s2 := if x.head = old.head then s1 else setHead x.head s1
  if attach || x.fill == old.fill then s2 else beginLoad x.fill s2

/-- Section 5 in force (R74, R84). -/
def useCallers (x : CallerSettings) (s : State) : State :=
  applyCallers x { s with sections := { s.sections with callers := x } }

/-- A consumed index is valid against the head and the size in force (R185). -/
def indexValid (head consumed : Word) (size : Nat) : Bool := decide ((head - consumed).toNat ≤ size)

/-- The log writer reads the consumed index (R185): a valid one is taken, another raises LOG_INDEX at the onset. -/
def readIndex (consumed : Word) (s : State) : State :=
  if indexValid s.log.head consumed s.sections.logs.size then
    { s with log := { s.log with consumed := consumed, valid := true } }
  else if s.log.valid then
    raise (Raising.plain .logIndex .faultUnit) { s with log := { s.log with valid := false } }
  else s

/-- Section 6 in force (R182, R185). -/
def useLogs (x : LogSettings) (consumed : Word) (s : State) : State :=
  readIndex consumed { s with sections := { s.sections with logs := x } }

/-! ## A section read good (R11, R13, R14) -/

/-- The SETTING_CLAMPED entry of a field (R13). -/
def clampEntry (sec : Sec) (now : Time) (c : Clamp) : LogEntry :=
  entryOf .settingClamped .surveyUnit now 0 c.off sec.index c.written.toNat c.used.toNat

/-- A section is applied: its editions set to the table's, its clamps logged, and its settings put in force (R11, R13). The
SETTING_CLAMPED entries come before those of what the application does, as a lowered limit's CALLER_STATE entries (R84; log
entry 90; DESIGN CHOICE). -/
def applied (sec : Sec) (edition : Word) (clamps : List Clamp) (effect : State → State) (s : State) : State :=
  let s1 := { s with survey := { s.survey with
    applied := s.survey.applied.set sec edition, seen := s.survey.seen.set sec edition
    marked := s.survey.marked.set sec false } }
  effect (handLogs (clamps.map (clampEntry sec s.time)) s1)

/-- A section is refused (R13): CB_SECTION with the section index, the refused-section record, and the seen edition. -/
def refuseSection (sec : Sec) (edition : Word) (r : RefuseReason) (s : State) : State :=
  raise { Raising.plain .cbSection .surveyUnit with
      subject := BitVec.ofNat 64 sec.index, detail := r.code }
    { s with survey := { s.survey with
      seen := s.survey.seen.set sec edition, marked := s.survey.marked.set sec false
      refused := some ⟨sec, edition, r⟩ } }

/-- A checked section takes effect or is refused. -/
def settle {α : Type} (sec : Sec) (edition : Word) (p : Parsed α) (effect : α → State → State) (s : State) : State :=
  match p with
  | .ok v clamps => applied sec edition clamps (effect v) s
  | .refused r => refuseSection sec edition r s

/-- A locked section 4 read with its applied edition re-applies nothing (R14). -/
def keepLocked (edition : Word) (s : State) : State :=
  { s with survey := { s.survey with
    seen := s.survey.seen.set .policy edition, marked := s.survey.marked.set .policy false } }

/-- A section read good, with its table edition (R11, R13, R14). Section 3 is not read so. -/
def takeSection (attach : Bool) (sec : Sec) (edition : Word) (bs : List Byte) (s : State) : State :=
  match sec with
  | .station => settle .station edition (parseStation bs) useStation s
  | .anchor => settle .anchor edition (parseAnchor bs) (useAnchor attach) s
  | .policy =>
    if s.sections.locked && edition == s.survey.applied.policy then keepLocked edition s
    else settle .policy edition (parsePolicy s.sections.locked bs) usePolicy s
  | .callers => settle .callers edition (parseCallers bs) useCallers s
  | .logs => settle .logs edition (parseLogs bs) (fun x => useLogs x (word bs 0x0C)) s
  | .slots => s

/-- CB_READ (R4, R7, R12). -/
def cbRead (s : State) : State := raise (Raising.plain .cbRead .surveyUnit) s

/-- A failed section read: CB_READ, and the section marked for re-reading (R4, R12). -/
def failSection (sec : Sec) (s : State) : State :=
  let s1 := cbRead s
  { s1 with survey := { s1.survey with
    marked := s1.survey.marked.set sec true, pass := { s1.survey.pass with failed := true } } }

/-! ## Survey passes (R11, R12) -/

/-- What the survey unit is reading. -/
def State.setPhase (s : State) (p : SurveyPhase) : State := { s with survey := { s.survey with phase := p } }

/-- The pass completes; a pass without a failed read sets the last seen and the applied edition (R11, R12). -/
def finishPass (s : State) : State :=
  let p := s.survey.pass
  if p.failed then s.setPhase .idle
  else { s with survey := { s.survey with phase := .idle, lastSeen := p.edition, appliedEdition := p.edition } }

/-- The settings sections in the order they are read. -/
def settingSections : List Sec := [.station, .anchor, .policy, .callers, .logs]

/-- A section is to be read in this pass (R11, R12). -/
def Survey.wants (v : Survey) (sec : Sec) : Bool := v.pass.table.get sec != v.seen.get sec || v.marked.get sec

/-- The pass goes on: the next section, then the request slots, then its end (R11). -/
def goOn (rest : List Sec) (s : State) : State :=
  match rest with
  | x :: xs => s.setPhase (.sect x xs)
  | [] => if s.survey.wants .slots then s.setPhase .slots else finishPass s

/-- SURVEY_PASS (R11): one pass in each RUNNING block, beginning with the header edition word. -/
def execSurveyPass (s : State) : Out :=
  .next (if s.running && !s.survey.passMade && s.survey.phase == .idle then
    { s with survey := { s.survey with
      phase := .editionWord, passMade := true, pass := ⟨0, PerSec.all 0, false, false⟩ } }
  else s)

/-! ## DETACHED (R7, R8) -/

/-- A deck's writes at entry to DETACHED: the one in flight goes on, and of those not begun each record's newest is held
(R8, R39). -/
def holdWrites : List RecordWrite → List RecordWrite
  | [] => []
  | w :: ws =>
    if inFlightHead (w :: ws) then w :: (newestWrites ws).map RecordWrite.hold
    else (newestWrites (w :: ws)).map RecordWrite.hold

/-- Entry to DETACHED (R7, R8, R51, R183). -/
def enterDetached (s : State) : State :=
  let s1 := stopWalker s
  { s1 with
    survey := { s1.survey with state := .detached, cause := .readFailed, phase := .idle, retryCount := 0 }
    decks := { s1.decks with deck := s1.decks.deck.map (fun k => { k with writes := holdWrites k.writes }) }
    log := s1.log.flush }

/-- A failed header read in RUNNING (R7): it ends the pass; the first of a run raises CB_READ, the third enters
DETACHED. -/
def headerFailed (s : State) : State :=
  let n := s.survey.failedReads + 1
  let s1 := if s.survey.failedReads = 0 then cbRead s else s
  let s2 := { s1 with survey := { s1.survey with failedReads := n, phase := .idle } }
  if 3 ≤ n then enterDetached s2 else s2

/-- A header read good: the count of failed ones returns to 0 (R7). -/
def headerGood (s : State) : State := { s with survey := { s.survey with failedReads := 0 } }

/-- The header edition word has been read (R11). A good word that differs from the last seen one leaves the failed-read count
as it is: in a pass that goes on, the good read of the edition table sets it to 0 (log entry 56; DESIGN CHOICE). -/
def editionRead (e : Word) (s : State) : State :=
  let changed := e != s.survey.lastSeen
  if changed || settingSections.any s.survey.marked.get || s.survey.marked.slots then
    { s with
      survey := { s.survey with
        phase := .table, pass := { s.survey.pass with edition := e, changed := changed } }
      walker := { s.walker with surveyChanged := changed } }
  else headerGood (s.setPhase .idle)

/-- The signature, version and edition table have been read (R11). -/
def tableRead (bs : List Byte) (s : State) : State :=
  if signatureRight bs && versionRight bs then
    let s1 := headerGood { s with survey := { s.survey with
      pass := { s.survey.pass with table := editionTable bs } } }
    goOn (settingSections.filter s1.survey.wants) s1
  else headerFailed s

/-- A good retry in DETACHED starts a re-attach with a read of the header (R8); a failed one waits for the next and raises
nothing, since neither R8 nor the list of CB_READ's owners (11.1: R4, R7, R12) names a retry (log entry 57; DESIGN
CHOICE). -/
def retryRead (r : ReadResult) (s : State) : State :=
  match r with
  | none => s.setPhase .idle
  | some bs => if signatureRight bs && versionRight bs then s.setPhase (.attachHeader true) else s.setPhase .idle

/-- HEADER_READ_DONE in the survey unit (R7, R8, R11). -/
def headerReadDone (r : ReadResult) (s : State) : State :=
  match s.survey.phase with
  | .editionWord =>
    match r with
    | none => headerFailed s
    | some bs => editionRead (word bs 0) s
  | .table =>
    match r with
    | none => headerFailed s
    | some bs => tableRead bs s
  | .retryHeader => retryRead r s
  | .idle | .attachHeader _ | .attachSect _ _ _ | .sect _ _ | .slots => s

def execHeaderReadDone (r : ReadResult) (s : State) : Out := .next (onRead .header s (headerReadDone r))

/-- SECTION_READ_DONE in the survey unit (R11 to R13). -/
def sectionReadDone (r : ReadResult) (s : State) : State :=
  match s.survey.phase with
  | .sect sec rest =>
    match r with
    | none => goOn rest (failSection sec s)
    | some bs => goOn rest (takeSection false sec (s.survey.pass.table.get sec) bs s)
  | .idle | .attachHeader _ | .attachSect _ _ _ | .editionWord | .table | .slots | .retryHeader => s

def execSectionReadDone (r : ReadResult) (s : State) : Out := .next (onRead .sect s (sectionReadDone r))

/-- Section 3 read: its seen edition is set and the POSTED slots are taken (R11, R15). -/
def slotsTaken (edition : Word) (bs : List Byte) (s : State) : State :=
  takePosted bs { s with survey := { s.survey with
    seen := s.survey.seen.set .slots edition, marked := s.survey.marked.set .slots false } }

/-- REQUEST_SLOTS_READ_DONE in the survey unit (R12, R15). A failed read raises CB_READ, leaves the seen edition and marks
section 3, so that the slots are read again in each following pass until one read is good. -/
def slotsReadDone (r : ReadResult) (s : State) : State :=
  if s.survey.phase = .slots then
    match r with
    | none =>
      let s1 := cbRead s
      finishPass { s1 with survey := { s1.survey with
        marked := s1.survey.marked.set .slots true, pass := { s1.survey.pass with failed := true } } }
    | some bs => finishPass (slotsTaken s.survey.pass.table.slots bs s)
  else s

def execRequestSlotsReadDone (r : ReadResult) (s : State) : Out := .next (onRead .slots s (slotsReadDone r))

/-- DETACHED_RETRY (R8): a header read once every 20 blocks. -/
def execDetachedRetry (s : State) : Out :=
  .next (if s.survey.state = .detached ∧ s.survey.phase = .idle ∧ Config.retryBlocks ≤ s.survey.retryCount then
    { s with survey := { s.survey with phase := .retryHeader, retryCount := 0 } }
  else s)

/-! ## Attach and re-attach (R4, R8) -/

/-- An attach ends early: back to the state it came from (R4). -/
def attachEnds (c : Cause) (s : State) : State :=
  { s with survey := { s.survey with state := s.survey.cameFrom, cause := c, phase := .idle } }

/-- A re-attach whose header read fails stays in DETACHED; the next retry follows 20 blocks later (R8). -/
def reattachEnds (s : State) : State := { s with survey := { s.survey with phase := .idle, retryCount := 0 } }

/-- The good header of an attach or re-attach is recorded, and the sections are read in order (R4, R8). -/
def attachBegins (re : Bool) (bs : List Byte) (s : State) : State :=
  { s with survey := { s.survey with
    lastSeen := headerEdition bs
    appliedEdition := headerEdition bs
    seen := editionTable bs
    heldFill := s.sections.anchor.fill
    phase := .attachSect re .station [.anchor, .policy, .callers, .logs] } }

/-- ATTACH_HEADER_READ_DONE in the survey unit (R2, R4, R8). -/
def attachHeaderReadDone (r : ReadResult) (s : State) : State :=
  match s.survey.phase with
  | .attachHeader re =>
    match r with
    | none => if re then reattachEnds (cbRead s) else attachEnds .readFailed (cbRead s)
    | some bs =>
      if !signatureRight bs then (if re then reattachEnds s else attachEnds .badSignature s)
      else if !versionRight bs then (if re then reattachEnds s else attachEnds .badVersion s)
      else attachBegins re bs s
  | .idle | .attachSect _ _ _ | .editionWord | .table | .sect _ _ | .slots | .retryHeader => s

def execAttachHeaderReadDone (r : ReadResult) (s : State) : Out :=
  .next (onRead .attachHeader s (attachHeaderReadDone r))

/-- Every held write is to be made now, one at a time; each stays a held write until it is (R8, R39). -/
def freeWrites (ws : List RecordWrite) : List RecordWrite :=
  issueHead true (ws.map (fun w => if w.phase = .held then { w with phase := .waiting } else w))

/-- The rescue store at the end of an attach or re-attach (R70). -/
def attachLoad (re : Bool) (s : State) : State :=
  let fill := s.sections.anchor.fill
  if re then (if fill = s.survey.heldFill then s else beginLoad fill s) else beginLoad fill s

/-- The ATTACH entry (R4, R9). -/
def attachEntry (reset : Bool) (s : State) : LogEntry :=
  entryOf .attach .surveyUnit s.time (bit reset) 0 0 s.survey.appliedEdition.toNat 0

/-- The POSTED slots of an attach: a failed read raises CB_READ and marks section 3 (log entry 30). -/
def attachSlots (slots : ReadResult) (s : State) : State :=
  match slots with
  | some bs => slotsTaken s.survey.seen.slots bs s
  | none =>
    let s1 := cbRead s
    { s1 with survey := { s1.survey with marked := s1.survey.marked.set .slots true } }

/-- The part enters RUNNING (R4, R8): held outcomes and results are written, the POSTED slots taken, the mirror owed, and
ATTACH written, after the entries of the slots' requests. The attempts at the held results are this block's (R16), and after an attach the delay line runs from
the next boundary (R123). -/
def enterRunning (re : Bool) (slots : ReadResult) (s : State) : State :=
  let s1 := { s with
    survey := { s.survey.retryResults with state := .running, cause := .none, phase := .idle, failedReads := 0 }
    delay := { s.delay with made := s.delay.made || !re }
    decks := { s.decks with deck := s.decks.deck.map (fun k => { k with writes := freeWrites k.writes }) }
    mirror := { s.mirror with due := true } }
  let s2 := if re then s1 else monitorStarts s1
  let s3 := attachSlots slots (attachLoad re (noteDemand s2))
  handLog (attachEntry false s3) s3

/-- The attach goes on to its next section, or to RUNNING. -/
def attachOn (re : Bool) (rest : List Sec) (slots : ReadResult) (s : State) : State :=
  match rest with
  | x :: xs => s.setPhase (.attachSect re x xs)
  | [] => enterRunning re slots s

/-- ATTACH_SECTION_READ_DONE in the survey unit (R4, R8). The last section's completion goes with that of the request
slots (log entry 7). -/
def attachSectionReadDone (r slots : ReadResult) (s : State) : State :=
  match s.survey.phase with
  | .attachSect re sec rest =>
    match r with
    | none => attachOn re rest slots (failSection sec s)
    | some bs => attachOn re rest slots (takeSection true sec (s.survey.seen.get sec) bs s)
  | .idle | .attachHeader _ | .editionWord | .table | .sect _ _ | .slots | .retryHeader => s

def execAttachSectionReadDone (r slots : ReadResult) (s : State) : Out :=
  .next (onRead .attachSect s (attachSectionReadDone r slots))

end Sys2Proof.Machine
end

