-- ==== Sys2Proof/Machine/Control.lean ====
section
/-! DEFINITION. The register window's writes and the four commands: START, HALT, PROGRAMME_RESET, FULL_RESET, and
power-on (R1, R3, R5, R6, R9, R10). -/

namespace Sys2Proof.Machine

open Sys2Proof

/-! ## START (R3) -/

/-- STANDBY or HALTED: the window takes CB_BASE, and START is taken (R1, R3). -/
def PartState.parked : PartState → Bool
  | .standby | .halted => true
  | .attaching | .running | .detached => false

/-- Every unlocked section copy back to its defaults (R3, R14). The line records stay as they are (R29). Sections 2, 5 and 6
change the copy alone: the walker and the caller table follow when the attach applies them (log entry 31). -/
def defaultCopies (s : State) : State :=
  let s1 := putStation Station.default s
  let s2 := if s1.sections.locked then s1 else usePolicy AlertSettings.default s1
  { s2 with sections := { s2.sections with
    anchor := Sections.default.anchor, callers := CallerSettings.default, logs := Sections.default.logs } }

/-- START with a Control Block address: ATTACHING, and the header read begins (R3). -/
def startAttach (s : State) : State :=
  defaultCopies { s with survey := { s.survey with
    state := .attaching, cameFrom := s.survey.state, refused := none, phase := .attachHeader false } }

/-- START (R3). -/
def execStart (s : State) : Out :=
  .next (if s.survey.state.parked then
    if s.survey.cbBase = 0 then { s with survey := { s.survey with cause := .noBase } } else startAttach s
  else s)

/-! ## HALT (R5) -/

/-- The survey unit's read in flight. -/
def SurveyPhase.reader : SurveyPhase → Option BusUser
  | .idle => none
  | .attachHeader _ => some .attachHeader
  | .attachSect _ _ _ => some .attachSect
  | .editionWord | .table | .retryHeader => some .header
  | .sect _ _ => some .sect
  | .slots => some .slots

/-- The survey unit's read in flight is given up. -/
def giveUpSurvey (s : State) : State :=
  match s.survey.phase.reader with
  | none => s
  | some u => (giveUp u true s).setPhase .idle

/-- The part enters HALTED with cause HOST_HALT; the log entries that wait are counted as dropped (R2, R5, R183). -/
def enterHalted (s : State) : State :=
  { s with
    survey := { s.survey with state := .halted, cause := .hostHalt, phase := .idle }
    log := s.log.flush }

/-- The present reset's host memory writes are listed afresh (log entry 6). -/
def freshWrites (s : State) : State := { s with bus := { s.bus with resetWrites := [] } }

/-- What HALT does from RUNNING or DETACHED before HALTED (R5, R51, R68, R70, R87, R105, R123). Deck A is emptied before
deck B (log entry 99; DESIGN CHOICE), and both before the lines' CALLER_STATE (log entry 109; DESIGN CHOICE). -/
def haltProgramme (a b : DeckWrites) (s : State) : State :=
  let s1 := abandonDeck .b .halt b (abandonDeck .a .halt a s)
  storeHalt (stopWalker (monitorHalts (delayHalt (holdAll .halt (stopRunOut s1)))))

/-- HALT (R4, R5). -/
def halt (a b : DeckWrites) (s : State) : State :=
  let s1 := freshWrites s
  enterHalted (giveUpSurvey (if s.onProgramme then haltProgramme a b s1 else s1))

def execHalt (a b : DeckWrites) (s : State) : Out :=
  .next (if s.survey.state.parked then s else halt a b s)

/-! ## PROGRAMME_RESET (R9) -/

/-- Both decks emptied: with their records ABANDONED in RUNNING, with nothing written else (R9). Deck A is emptied before
deck B (R40; log entry 99; DESIGN CHOICE). -/
def resetDecks (a b : DeckWrites) (s : State) : State :=
  stopRunOut (if s.running then abandonDeck .b .programmeReset b (abandonDeck .a .programmeReset a s)
    else dropDeck .b (dropDeck .a s))

/-- PROGRAMME_RESET (R9, R50, R87, R105, R124). The decks' entries come first, then DELAY_STATE, CALLER_STATE and ATTACH
(log entry 109; DESIGN CHOICE). -/
def programmeReset (a b : DeckWrites) (s : State) : State :=
  let s1 := setHead s.sections.anchor.head (resetDecks a b (freshWrites s))
  let s2 := noteDemand (monitorReset (holdAll .reset (delayReset s1)))
  handLog (attachEntry true s2) s2

/-- PROGRAMME_RESET is taken in RUNNING, DETACHED and HALTED (R9). -/
def PartState.resets : PartState → Bool
  | .running | .detached | .halted => true
  | .standby | .attaching => false

def execProgrammeReset (a b : DeckWrites) (s : State) : Out :=
  .next (if s.survey.state.resets then programmeReset a b s else s)

/-! ## FULL_RESET and power-on (R10) -/

/-- A user, when its access is in flight. -/
def userWhen (u : BusUser) (inFlight : Bool) : List BusUser := if inFlight then [u] else []

/-- Every bus access in flight but the fetch engine's. -/
def State.inFlight (s : State) : List BusUser :=
  s.survey.phase.reader.toList ++
    (s.survey.results.filter (fun w => w.inFlight w.slot)).map (fun w => .result w.slot) ++
    userWhen .mirror s.mirror.writing.isSome ++ userWhen .record s.walker.walking ++
    userWhen .walkerWrite (inFlightHead s.walker.writes) ++
    userWhen (.recordWrite .a) (inFlightHead s.decks.deck.a.writes) ++
    userWhen (.recordWrite .b) (inFlightHead s.decks.deck.b.writes) ++ userWhen .fillRecord s.rescue.reading ++
    userWhen .logWrite s.log.writing.isSome ++ userWhen .notice s.log.notice.isSome

/-- FULL_RESET (R10): every unit at its defaults. Accesses in flight are discarded as they complete, and raise nothing
(log entry 8); the block that the outside has brought stays (log entry 38). -/
def fullReset (s : State) : State :=
  { State.reset with
    pending := s.pending
    bus := ⟨s.bus.stale.map (fun o => { o with quiet := true }) ++ s.inFlight.map (fun u => ⟨u, true⟩), []⟩
    fetch := ⟨s.fetch.inFlight.map (fun r => { r with live := false })⟩
    mixer := { Mixer.init with input := s.mixer.input } }

def execFullReset (s : State) : Out := .next (fullReset s)

/-- POWER_ON (R10): the part as it is after power-on, with the commands that wait. -/
def execPowerOn (s : State) : Out := .next { State.reset with pending := s.pending }

/-! ## Register writes (R1) -/

/-- The command that a write to COMMAND carries: START (1), HALT (2), PROGRAMME_RESET (3) or FULL_RESET (0xA5); any other
value is ignored (R1). A HALT and a PROGRAMME_RESET take with them how the decks' writes end (log entry 6). -/
def commandWritten (value : Word) (a b : DeckWrites) : Instr :=
  match value.toNat with
  | 1 => .start
  | 2 => .halt a b
  | 3 => .programmeReset a b
  | 0xA5 => .fullReset
  | _ => .registerWriteIgnored 0x04 value

/-- The command that a write to the register window is (R1; spec/12, 12.2). An offset with no register is no command. -/
def windowWrite (offset : Byte) (value : Word) (a b : DeckWrites) : Option Instr :=
  match offset.toNat with
  | 0x00 | 0x08 => some (.registerWriteIgnored offset value)
  | 0x04 => some (commandWritten value a b)
  | 0x0C => some (.cbBaseWrite false value)
  | 0x10 => some (.cbBaseWrite true value)
  | _ => none

/-- CB_BASE with one half written; the low 12 bits stay zero. -/
def writeBase (high : Bool) (value : Word) (base : Addr) : Addr :=
  if high then value ++ base.setWidth 32
  else (base >>> 32).setWidth 32 ++ (value &&& 0xFFFFF000)

/-- CB_BASE_WRITE (R1): taken in STANDBY and HALTED, ignored else. -/
def execCbBaseWrite (high : Bool) (value : Word) (s : State) : Out :=
  .next (if s.survey.state.parked then
    { s with survey := { s.survey with cbBase := writeBase high value s.survey.cbBase } }
  else s)

/-- REGISTER_WRITE_IGNORED (R1): a write to IDENT or STATE, or of an undefined value to COMMAND, changes nothing. -/
def execRegisterWriteIgnored (_offset : Byte) (_value : Word) (s : State) : Out := .next s

end Sys2Proof.Machine
end

