-- ==== Sys2Proof/Machine/Block.lean ====
section
/-! DEFINITION. BLOCK_BOUNDARY: the block in progress is completed, station time rises by 240, and the per-block work of
every unit begins (R26, R30, R90, R93 to R98, R163, R164). The events of the boundary follow as commands of their own
(log entry 4). -/

namespace Sys2Proof.Machine

open Sys2Proof

/-! ## The block in progress is completed -/

/-- The block's audio: the programme mix, the air block and the returns (R88, R93 to R98). -/
def completeAudio (s : State) : State :=
  let b := s.airBlockNow
  { s with
    mixer := { s.mixer with output := s.mixBlock, returns := Four.ofFn (fun n => s.returnOf b.frames n) }
    air := { s.air with block := some b } }

/-- The recordings' block (R138). -/
def completeRecordings (s : State) : State := places8.foldl (fun s n => recordBlock n s) s

/-- The block's counts: the airing's blocks given, the dead-air judgement, NO_FILL, and a link that was not UP (R69, R100,
R146, R158). -/
def completeCounts (s : State) : State :=
  let s1 := noteNoFill (noteLinkDown s)
  { s1 with airing := s1.airing.blockEnds, monitor := s1.monitor.judge s.judge }

/-- A block is completed. -/
def completeBlock (s : State) : State := completeCounts (completeRecordings (completeAudio s))

/-! ## The next block begins -/

/-- Station time rises by 240 (R26). -/
def advanceTime (s : State) : State := { s with time := nextTime s.time }

/-- The station time of the block that begins, once it has risen: a pending SET_TIME is applied at this boundary (R27). -/
def State.beginsAt (s : State) : Time := s.pendingTime.getD s.time

/-- A deck as a block begins: a LIVE or GAP that sounds has sounded one more block (R62). The frame after a block that the
deck filled is the first of the block that begins, so it has that block's station time (R26, R27, R37, R65). -/
def Deck.blockBegins (now : Time) (filled : Bool) (k : Deck) : Deck :=
  let counts := (k.kind == .live || k.kind == .gap) && (k.state == .playing || k.state == .ending)
  { k with
    sounded := if counts then k.sounded + 1 else k.sounded
    lastEnd := if counts || filled then now else k.lastEnd
    fading := k.fading || k.fadesNow
    blockTaken := false
    writeTried := false }

/-- The deck gave the block that ends every one of its frames (R63). -/
def State.filledBy (s : State) (d : DeckId) : Bool := (s.mixer.deckFrames.get d).length == Config.blockFrames

/-- A deck's gain ramp as a block begins: a fade-out due begins, and the ramp takes its step unless the deck is PAUSED
(R60, R67, R90). -/
def deckRampStep (k : Deck) (r : Ramp) : Ramp :=
  let r1 := if k.fadesNow then r.start 0 k.blocksLeft else r
  if k.state = .paused then r1 else r1.tick

/-- Every ramp takes its step (R90, R103, R146), and the decks begin their block. -/
def stepRamps (s : State) : State :=
  { s with
    decks := { s.decks with deck := ⟨s.decks.deck.a.blockBegins s.beginsAt (s.filledBy .a),
      s.decks.deck.b.blockBegins s.beginsAt (s.filledBy .b)⟩ }
    mixer := { s.mixer with
      deckRamp := ⟨deckRampStep s.decks.deck.a s.mixer.deckRamp.a, deckRampStep s.decks.deck.b s.mixer.deckRamp.b⟩
      studio := s.mixer.studio.tick
      fill := s.mixer.fill.tick
      line := s.mixer.line.map Ramp.tick
      fillGain := s.mixer.fillGain.tick
      deckFrames := ⟨[], []⟩ }
    airing := { s.airing with gain := s.airing.gain.tick }
    air := { s.air with fade := s.air.fade.tick } }

/-- The log writer's notice as a block begins: the holdoff count rises, and the notice that is due is considered (R186). -/
def noticeBegins (s : State) : State :=
  let s1 := { s with log := { s.log with holdoff := satInc 255 s.log.holdoff, noticed := false } }
  { s1 with log := { s1.log with considers := s1.considersNotice } }

/-- The log writer's queue as a block begins (R184): in RUNNING a failed LOG_GAP may be tried again. Entries that wait
behind it with no room are counted as dropped; with nothing dropped they are taken in turn. -/
def queueBegins (s : State) : State :=
  let s1 := { s with log := { s.log with gapFailed := s.log.gapFailed && !s.running } }
  if s1.log.room s1.sections.logs.size && decide (0 < s1.log.dropped) then s1 else pumpLog s1

/-- The log writer as a block begins (R184, R186). -/
def logBegins (s : State) : State := queueBegins (noticeBegins s)

/-- The survey unit as a block begins (R8, R11, R16, R17). -/
def surveyBegins (s : State) : State :=
  { s with
    survey := { s.survey with
      passMade := false
      resultsTried := false
      retryCount := if s.survey.state = .detached then s.survey.retryCount + 1 else s.survey.retryCount }
    mirror := { s.mirror with tried := false } }

/-- What the outside brings with the block: the audio streams and the GPI samples (R30, R92). -/
def takeInput (input : BlockInput) (s : State) : State :=
  { s with
    mixer := { s.mixer with input := input }
    gpi := sampleLines s.time s.sections.station.gpi input.gpi s.gpi }

/-- The delay line as a block begins: a pause told of during the block that ends is in force from here (R109, R120). -/
def Delay.blockBegins (d : Delay) : Delay := { d with made := false, out := none, pauseNow := d.pauseFlag }

/-- The remaining units as a block begins, each by its own rule (R18, R77, R88, R109, R120, R148, R157, R163, R168). The trim
in force is that of the section 1 copy, so it returns to 0 at the boundary after a START: R18 says both that START leaves
it and that the trim holds its default until section 1 is applied (log entry 85; DESIGN CHOICE). -/
def unitsBegin (flags : AirFlags) (s : State) : State :=
  { s with
    clock := { s.clock with trim := s.sections.station.trim }
    callers := s.callers.blockBegins s.sections.callers.holdGain
    delay := s.delay.blockBegins
    alerts := s.alerts.settled
    airing := s.airing.fadeBegins
    link := s.link.blockBegins flags }

/-- Starts that become owed at the boundary, by the station time the boundary leaves: a SET_TIME that is pending is
applied at this boundary (R27, R59). -/
def noteStarts (s : State) : State :=
  { noteOwed .b (noteOwed .a { s with time := s.beginsAt }) with time := s.time }

/-- The air switch compares with the source of the block that has ended (R95, R96). -/
def switchBegins (s : State) : State := arbitrate { s with air := { s.air with before := s.air.now, crossfade := none } }

/-- A block begins. -/
def beginBlock (input : BlockInput) (flags : AirFlags) (s : State) : State :=
  let s1 := readerBegins (runOutBegins (stepRamps s))
  let s2 := logBegins (surveyBegins (walkerBlockBegins s1))
  let s3 := unitsBegin flags (takeInput input s2)
  switchBegins (workOutHold (noteStarts s3))

/-- BLOCK_BOUNDARY (R26). -/
def execBlockBoundary (input : BlockInput) (s : State) : Out :=
  .next (beginBlock input s.airBlockNow.flags (advanceTime (completeBlock s)))

end Sys2Proof.Machine
end

