-- ==== Sys2Proof/Machine/Mirror.lean ====
section
/-! DEFINITION. The status mirror: its contents byte by byte, and its rewrites (R17; spec/12, Status mirror). -/

namespace Sys2Proof.Machine

open Sys2Proof

/-! ## Contents (spec/12, Status mirror) -/

/-- A byte with a list of flags from bit 0. -/
def flagByte (fs : List Bool) : List Byte := leBytes 1 (packBits fs)

/-- A list with one byte for each place, 0 beyond its length. -/
def placeBytes (n : Nat) (xs : List Nat) : List Byte := (xs.map (BitVec.ofNat 8) ++ List.replicate n 0).take n

/-- The refused-section record, 12 bytes. -/
def refusedBytes (r : Option RefusedSec) : List Byte :=
  match r with
  | none => leBytes 12 0
  | some x => leBytes 4 x.sec.index ++ leBytes 4 x.reason.code ++ leBytes 4 x.edition.toNat

/-- The record a deck holds, with its state: an unfinished write counts (R39, R53). A deck with a cued or sounding record
shows that one, and not an earlier record whose final write it still holds (log entry 76; DESIGN CHOICE). -/
def Deck.shown (k : Deck) : Addr × Nat :=
  if k.state.cued then (k.addr, RecState.code .cued)
  else if k.state.sounding then (k.addr, RecState.code .playing)
  else
    match k.writes with
    | [] => (0, 0)
    | w :: _ => (w.addr, w.state.code)

/-- A deck, 24 bytes. -/
def deckBytes (k : Deck) : List Byte :=
  leBytes 8 k.shown.1.toNat ++ leBytes 4 k.shown.2 ++ leBytes 4 k.state.code ++ leBytes 4 k.fifo.length ++ leBytes 4 0

/-- A caller line, 20 bytes. The tag word of a line without a tag is 0 (log entry 89; DESIGN CHOICE). -/
def lineBytes (l : Line) : List Byte :=
  leBytes 8 l.since.toNat ++ leBytes 4 (l.tag.getD 0).toNat ++ leBytes 4 l.gain ++ leBytes 1 l.state.code ++
    flagByte [l.heldForAlert, l.tag.isSome, !l.framingGood] ++ leBytes 2 0

/-- The record slot of an entry: 0 none. -/
def slotNumber : Option SlotId → Nat
  | none => 0
  | some .a => 1
  | some .b => 2

/-- The entry flags in the order of R136. -/
def EntryFlags.list (f : EntryFlags) : List Bool :=
  [f.truncated, f.noAudio, f.forwardOnCompletion, f.deadline, f.partialAir, f.linkDown]

/-- An alert entry's summary, 48 bytes; a FREE entry shows its index and zeros. -/
def entryBytes (n : EntryNo) (e : AlertEntry) : List Byte :=
  if e.state = .free then leBytes 1 (n.val + 1) ++ leBytes 47 0
  else
    leBytes 1 (n.val + 1) ++ leBytes 1 e.state.code ++ [e.originClass] ++ leBytes 1 e.policy.code ++
      leBytes 3 e.event.toNat ++ leBytes 1 (slotNumber e.slot) ++ leBytes 8 e.ident.sender.toNat ++
      leBytes 2 e.ident.message.toNat ++ leBytes 2 e.copies ++ flagByte e.flags.list ++
      flagByte [e.heardA, e.heardB] ++ leBytes 1 e.resolution.code ++
      flagByte [e.holdUntil.isSome, e.deadline.isSome] ++ leBytes 4 e.recLen ++ leBytes 4 0 ++
      leBytes 8 e.expiry.toNat ++ leBytes 8 ((e.holdUntil.orElse (fun _ => e.deadline)).getD 0).toNat

/-- A link port, 64 bytes. -/
def portBytes (x : Port) : List Byte :=
  leBytes 4 x.state.code ++ leBytes 4 x.training ++ leBytes 4 x.age ++ leBytes 4 x.bad ++
    leBytes 4 (bit x.latest.isSome) ++ fitTo 28 (x.latest.getD []) ++ leBytes 16 0

/-- A pending switch: none 0, A 1, B 2. -/
def switchCode : Option PortId → Nat
  | none => 0
  | some .a => 1
  | some .b => 2

/-- The telemetry, 12 bytes. -/
def telemetryBytes (t : Option Telemetry) : List Byte :=
  match t with
  | none => leBytes 12 0
  | some x =>
    leBytes 1 (sideCode x.port) ++ [x.flags] ++ leBytes 2 x.forward.toNat ++ leBytes 2 x.reflected.toNat ++
      leBytes 2 0 ++ leBytes 4 x.peak.toNat

/-- The first-fault record, 42 bytes from its kind. -/
def firstBytes (r : Option FirstFault) : List Byte :=
  match r with
  | none => leBytes 42 0
  | some x =>
    leBytes 4 x.kind.code ++ leBytes 4 x.raisedBy.code ++ leBytes 8 x.time.toNat ++ leBytes 8 x.subject.toNat ++
      fitTo 16 x.snapshot ++ leBytes 2 x.message.toNat

/-- Offsets 0x004 to 0x01F: the part. -/
def mirrorPart (s : State) : List Byte :=
  leBytes 4 s.survey.state.code ++ leBytes 4 s.survey.cause.code ++ leBytes 4 s.survey.appliedEdition.toNat ++
    refusedBytes s.survey.refused ++ leBytes 4 0

/-- Offsets 0x028 to 0x09F: clock, walker, decks, rescue store. -/
def mirrorPlayout (s : State) : List Byte :=
  leBytes 4 s.clock.state.code ++ leBytes 4 s.clock.good ++ leBytes 4 (BitVec.ofInt 32 s.clock.trim).toNat ++
    leBytes 12 0 ++ leBytes 8 s.walker.ptr.toNat ++ leBytes 4 s.walker.state.code ++ leBytes 4 0 ++
    deckBytes s.decks.deck.a ++ deckBytes s.decks.deck.b ++ leBytes 4 s.rescue.state.code ++ leBytes 4 s.rescue.len ++
    leBytes 24 0

/-- Offsets 0x0A0 to 0x0DF: delay line and mixer. -/
def mirrorDelay (s : State) : List Byte :=
  leBytes 4 s.delay.state.code ++ leBytes 4 s.delay.depth ++ leBytes 4 s.sections.station.target ++
    leBytes 4 s.sections.station.rate ++ leBytes 4 s.effDump ++
    leBytes 4 (packBits [s.safe, s.delay.fadeIn, s.delay.pauseNow]) ++ leBytes 8 0 ++
    leBytes 4 s.mixer.deckRamp.a.g ++ leBytes 4 s.mixer.deckRamp.b.g ++ leBytes 4 s.mixer.studio.g ++
    leBytes 4 s.mixer.fill.g ++ s.mixer.line.toList.flatMap (fun r => leBytes 4 r.g)

/-- Offsets 0x0E0 to 0x13F: callers. -/
def mirrorCallers (s : State) : List Byte :=
  s.callers.line.toList.flatMap lineBytes ++ placeBytes 4 (s.callers.queue.map (fun n => n.val + 1)) ++
    placeBytes 4 (s.callers.onAir.map (fun n => n.val + 1)) ++ leBytes 8 0

/-- Offsets 0x140 to 0x31F: alert table, airing, air switch, monitor. Between airings the counts shown are the last airing's
(log entry 93; DESIGN CHOICE). The alert gain in force is that of the ramp while it runs (log entry 105; DESIGN CHOICE). -/
def mirrorAlerts (s : State) : List Byte :=
  places8.flatMap (fun n => entryBytes n (s.alerts.entry.get n)) ++ leBytes 4 s.airing.state.code ++
    leBytes 4 (s.airing.entry.elim 0 (fun n => n.val + 1)) ++ leBytes 4 s.airing.tone ++ leBytes 4 s.airing.message ++
    leBytes 4 s.airing.given ++ placeBytes 8 (s.alerts.queue.map (fun q => q.entry.val + 1)) ++
    leBytes 4 s.sections.policy.forwardHold ++ leBytes 4 s.sections.policy.manualDeadline ++
    leBytes 4 s.sections.policy.attention ++ leBytes 4 s.airing.gain.g ++ leBytes 20 0 ++ leBytes 4 s.air.now.code ++
    leBytes 4 (packBits [s.air.crossfade.isSome, s.air.fading, s.monitor.rescue]) ++ leBytes 4 s.monitor.state.code ++
    leBytes 4 s.monitor.silence ++ leBytes 4 s.monitor.recovery ++ leBytes 12 0

/-- Offsets 0x320 to 0x3DF: the link. -/
def mirrorLink (s : State) : List Byte :=
  portBytes s.link.port.a ++ portBytes s.link.port.b ++ leBytes 4 (sideCode s.link.active) ++
    leBytes 4 (switchCode s.link.pendingSwitch) ++ leBytes 8 (s.link.hold.getD 0).toNat ++
    leBytes 4 s.link.nextSeq.toNat ++ leBytes 4 s.link.queue.length ++ leBytes 4 (bit s.link.windowOpen) ++
    leBytes 4 s.link.discards ++ leBytes 8 (s.link.latency.getD 0) ++ leBytes 4 s.link.carrier.code ++
    telemetryBytes s.link.telemetry ++
    leBytes 4 (packBits [s.link.hold.isSome, s.link.latency.isSome, s.link.telemetry.isSome]) ++ leBytes 4 0

/-- Offsets 0x3E0 to 0x7FF: faults, log, studio lines. -/
def mirrorFaults (s : State) : List Byte :=
  leBytes 4 s.faults.status.toNat ++ leBytes 4 s.faults.repeated.toNat ++ leBytes 4 s.sections.station.mask.toNat ++
    faultKinds.map (fun k => BitVec.ofNat 8 (s.classOf k).code) ++ leBytes 1 (bit s.faults.multiple) ++
    leBytes 1 (bit s.faults.first.isSome) ++ firstBytes s.faults.first ++ leBytes 38 0 ++ leBytes 4 s.log.head.toNat ++
    leBytes 4 s.log.dropped ++ leBytes 8 0 ++ flagByte (s.gpi.toList.map (fun l => l.accepted)) ++
    flagByte [(gpo s).callerOnAir, (gpo s).delaySafe, (gpo s).alertOnAir, (gpo s).stationFault] ++ leBytes 14 0 ++
    leBytes 912 0

/-- The mirror's contents but for its stamp and the station time. -/
def mirrorContents (s : State) : List Byte :=
  mirrorPart s ++ mirrorPlayout s ++ mirrorDelay s ++ mirrorCallers s ++ mirrorAlerts s ++ mirrorLink s ++ mirrorFaults s

/-- The 2,048 bytes of a rewrite, with its stamp (R17). -/
def mirrorBytes (s : State) : List Byte :=
  leBytes 4 (s.mirror.stamp + 1).toNat ++ mirrorPart s ++ leBytes 8 s.time.toNat ++ mirrorPlayout s ++ mirrorDelay s ++
    mirrorCallers s ++ mirrorAlerts s ++ mirrorLink s ++ mirrorFaults s

/-- Written mirror bytes without their stamp and station time. -/
def mirrorCompared (bs : List Byte) : List Byte := slice bs 4 28 ++ bs.drop 40

/-! ## Rewrites (R17) -/

/-- A rewrite is due: one is owed, or contents other than station time differ from those last written. -/
def State.mirrorDue (s : State) : Bool := s.mirror.due || mirrorCompared s.mirror.written != mirrorContents s

/-- MIRROR_REWRITE (R17): in RUNNING, at most once in a block; all contents first, the stamp last. -/
def execMirrorRewrite (s : State) : Out :=
  .next (if s.running && s.mirror.writing.isNone && !s.mirror.tried && s.mirrorDue then
    { s with mirror := { s.mirror with writing := some (mirrorBytes s, .first), tried := true } }
  else s)

/-- A rewrite fails: the stamp value is not used up, and the next RUNNING block makes a full rewrite. -/
def mirrorFailed (s : State) : State :=
  { s with mirror := { s.mirror with writing := none, due := true } }

/-- MIRROR_WRITE_DONE in the survey unit (R17). Outside RUNNING the stamp is not written. -/
def mirrorWriteDone (ok : Bool) (s : State) : State :=
  match s.mirror.writing with
  | none => s
  | some (bs, ph) =>
    if !ok then writeError .surveyUnit (mirrorFailed s)
    else if ph = .last then
      { s with mirror := { s.mirror with writing := none, due := false, written := bs, stamp := s.mirror.stamp + 1 } }
    else if s.running then { s with mirror := { s.mirror with writing := some (bs, .last) } }
    else mirrorFailed s

def execMirrorWriteDone (ok : Bool) (s : State) : Out :=
  .next (onWrite .mirror .surveyUnit ok s (mirrorWriteDone ok))

end Sys2Proof.Machine
end

