-- ==== Sys2Proof/Machine/Dispatch.lean ====
section
/-! DEFINITION. One arm for each command: its meaning. -/

namespace Sys2Proof.Machine

open Sys2Proof

def exec (i : Instr) (s : State) : Host.Outcome State Fault Refusal :=
  match i with
  | .powerOn => Sys2Proof.Machine.execPowerOn s
  | .start => Sys2Proof.Machine.execStart s
  | .halt deckA deckB => Sys2Proof.Machine.execHalt deckA deckB s
  | .programmeReset deckA deckB => Sys2Proof.Machine.execProgrammeReset deckA deckB s
  | .fullReset => Sys2Proof.Machine.execFullReset s
  | .cbBaseWrite high value => Sys2Proof.Machine.execCbBaseWrite high value s
  | .registerWriteIgnored offset value => Sys2Proof.Machine.execRegisterWriteIgnored offset value s
  | .attachHeaderReadDone read => Sys2Proof.Machine.execAttachHeaderReadDone read s
  | .attachSectionReadDone read slots => Sys2Proof.Machine.execAttachSectionReadDone read slots s
  | .blockBoundary input => Sys2Proof.Machine.execBlockBoundary input s
  | .surveyPass => Sys2Proof.Machine.execSurveyPass s
  | .headerReadDone read => Sys2Proof.Machine.execHeaderReadDone read s
  | .sectionReadDone read => Sys2Proof.Machine.execSectionReadDone read s
  | .requestSlotsReadDone read => Sys2Proof.Machine.execRequestSlotsReadDone read s
  | .unknownKind slot seq kind => Sys2Proof.Machine.execUnknownKind slot seq kind s
  | .resultWriteDone slot ok => Sys2Proof.Machine.execResultWriteDone slot ok s
  | .heldResultRetry => Sys2Proof.Machine.execHeldResultRetry s
  | .detachedRetry => Sys2Proof.Machine.execDetachedRetry s
  | .mirrorRewrite => Sys2Proof.Machine.execMirrorRewrite s
  | .mirrorWriteDone ok => Sys2Proof.Machine.execMirrorWriteDone ok s
  | .clockSelect slot seq source => Sys2Proof.Machine.execClockSelect slot seq source s
  | .setTime slot seq low high => Sys2Proof.Machine.execSetTime slot seq low high s
  | .setTimeApplied => Sys2Proof.Machine.execSetTimeApplied s
  | .houseMark arrival => Sys2Proof.Machine.execHouseMark arrival s
  | .houseMarkMissing now => Sys2Proof.Machine.execHouseMarkMissing now s
  | .linkMarkMissing now => Sys2Proof.Machine.execLinkMarkMissing now s
  | .clockSwitch => Sys2Proof.Machine.execClockSwitch s
  | .gpiLevelAccepted line => Sys2Proof.Machine.execGpiLevelAccepted line s
  | .walkStart => Sys2Proof.Machine.execWalkStart s
  | .walkWaitExpired => Sys2Proof.Machine.execWalkWaitExpired s
  | .recordReadDone read => Sys2Proof.Machine.execRecordReadDone read s
  | .walkerWriteDone ok => Sys2Proof.Machine.execWalkerWriteDone ok s
  | .recordWriteDone deck ok => Sys2Proof.Machine.execRecordWriteDone deck ok s
  | .heldWriteRetry deck => Sys2Proof.Machine.execHeldWriteRetry deck s
  | .fetchIssue => Sys2Proof.Machine.execFetchIssue s
  | .fetchReadDone data => Sys2Proof.Machine.execFetchReadDone data s
  | .fetchReadFailed => Sys2Proof.Machine.execFetchReadFailed s
  | .segmentStart deck => Sys2Proof.Machine.execSegmentStart deck s
  | .hardStart deck => Sys2Proof.Machine.execHardStart deck s
  | .deckBlock deck => Sys2Proof.Machine.execDeckBlock deck s
  | .durationComplete deck => Sys2Proof.Machine.execDurationComplete deck s
  | .segmentEnd deck => Sys2Proof.Machine.execSegmentEnd deck s
  | .segmentSkip slot seq which => Sys2Proof.Machine.execSegmentSkip slot seq which s
  | .runOutStart => Sys2Proof.Machine.execRunOutStart s
  | .fillRecordReadDone read => Sys2Proof.Machine.execFillRecordReadDone read s
  | .presenceRise line => Sys2Proof.Machine.execPresenceRise line s
  | .presenceFall line => Sys2Proof.Machine.execPresenceFall line s
  | .framingLost line => Sys2Proof.Machine.execFramingLost line s
  | .framingRegained line => Sys2Proof.Machine.execFramingRegained line s
  | .clearingEnd line => Sys2Proof.Machine.execClearingEnd line s
  | .callerHold slot seq line => Sys2Proof.Machine.execCallerHold slot seq line s
  | .callerOnAir slot seq line => Sys2Proof.Machine.execCallerOnAir slot seq line s
  | .callerTake slot seq => Sys2Proof.Machine.execCallerTake slot seq s
  | .callerDrop slot seq line => Sys2Proof.Machine.execCallerDrop slot seq line s
  | .callerQueue slot seq line position => Sys2Proof.Machine.execCallerQueue slot seq line position s
  | .silenceTimeReached => Sys2Proof.Machine.execSilenceTimeReached s
  | .rescueStart => Sys2Proof.Machine.execRescueStart s
  | .recovery => Sys2Proof.Machine.execRecovery s
  | .returnFadeEnd => Sys2Proof.Machine.execReturnFadeEnd s
  | .rescueStop => Sys2Proof.Machine.execRescueStop s
  | .delayBlock => Sys2Proof.Machine.execDelayBlock s
  | .delayEngage slot seq => Sys2Proof.Machine.execDelayEngage slot seq s
  | .delayExit slot seq => Sys2Proof.Machine.execDelayExit slot seq s
  | .delayDump slot seq => Sys2Proof.Machine.execDelayDump slot seq s
  | .goodCharacter port value arrival => Sys2Proof.Machine.execGoodCharacter port value arrival s
  | .framingError port => Sys2Proof.Machine.execFramingError port s
  | .breakCharacter port => Sys2Proof.Machine.execBreakCharacter port s
  | .alertFrameIdle port now => Sys2Proof.Machine.execAlertFrameIdle port now s
  | .alertHeader port => Sys2Proof.Machine.execAlertHeader port s
  | .alertEndFrame port => Sys2Proof.Machine.execAlertEndFrame port s
  | .recordingStart entry => Sys2Proof.Machine.execRecordingStart entry s
  | .recordingEnd entry => Sys2Proof.Machine.execRecordingEnd entry s
  | .recordingFull entry => Sys2Proof.Machine.execRecordingFull entry s
  | .alertExpiry entry => Sys2Proof.Machine.execAlertExpiry entry s
  | .holdUntilPassed entry => Sys2Proof.Machine.execHoldUntilPassed entry s
  | .manualDeadlinePassed entry => Sys2Proof.Machine.execManualDeadlinePassed entry s
  | .alertForward slot seq w0 w1 w2 => Sys2Proof.Machine.execAlertForward slot seq w0 w1 w2 s
  | .alertCancel slot seq w0 w1 w2 => Sys2Proof.Machine.execAlertCancel slot seq w0 w1 w2 s
  | .airingStart => Sys2Proof.Machine.execAiringStart s
  | .toneEnd => Sys2Proof.Machine.execToneEnd s
  | .airingEnd => Sys2Proof.Machine.execAiringEnd s
  | .gapEnd => Sys2Proof.Machine.execGapEnd s
  | .cancelFadeEnd => Sys2Proof.Machine.execCancelFadeEnd s
  | .returnFrame port bytes arrival => Sys2Proof.Machine.execReturnFrame port bytes arrival s
  | .linkBreak port => Sys2Proof.Machine.execLinkBreak port s
  | .returnTimeout port => Sys2Proof.Machine.execReturnTimeout port s
  | .failover => Sys2Proof.Machine.execFailover s
  | .linkSwitch slot seq port => Sys2Proof.Machine.execLinkSwitch slot seq port s
  | .pendingLinkSwitch => Sys2Proof.Machine.execPendingLinkSwitch s
  | .revert => Sys2Proof.Machine.execRevert s
  | .programmeFrameFormed => Sys2Proof.Machine.execProgrammeFrameFormed s
  | .frameSent port => Sys2Proof.Machine.execFrameSent port s
  | .keepaliveDue port => Sys2Proof.Machine.execKeepaliveDue port s
  | .faultAck slot seq kinds => Sys2Proof.Machine.execFaultAck slot seq kinds s
  | .logWriteDone ok => Sys2Proof.Machine.execLogWriteDone ok s
  | .logGap => Sys2Proof.Machine.execLogGap s
  | .noticeWrite => Sys2Proof.Machine.execNoticeWrite s
  | .noticeWriteDone ok => Sys2Proof.Machine.execNoticeWriteDone ok s

end Sys2Proof.Machine
end

