-- ==== Sys2Proof/Machine/Writes.lean ====
section
/-! DEFINITION. What the part's writes in flight put in host memory: the address and the bytes of each (R16, R17, R39, R183,
R186, R187; spec/12). A write of two steps is on the bus with one step at a time. -/

namespace Sys2Proof.Machine

open Sys2Proof

/-- A structure of two steps: all but its first word, then the first word (R17, R183). -/
def twoSteps (addr : Addr) (bs : List Byte) : WritePhase → List HostWrite
  | .first => [⟨addr + 4, bs.drop 4⟩]
  | .last => [⟨addr, bs.take 4⟩]
  | .waiting | .held => []

/-- Where the Control Block holds a request slot and the status mirror (spec/12, Control Block). -/
def slotAddr (base : Addr) (i : SlotNo) : Addr := base + 0x240 + BitVec.ofNat 64 (32 * i.val)
def mirrorAddr (base : Addr) : Addr := base + 0x800

/-- A slot's result: the result code and the done time, then the slot state (R16; spec/12, Request slot). -/
def ResultWrite.onBus (base : Addr) (w : ResultWrite) : List HostWrite :=
  match w.phase with
  | .first => [⟨slotAddr base w.slot + 0x18, leBytes 4 w.code.code ++ leBytes 4 w.doneTime.toNat⟩]
  | .last => [⟨slotAddr base w.slot, leBytes 4 w.code.slotState.code⟩]
  | .waiting | .held => []

/-- A record's part half, then its state word (R39). -/
def RecordWrite.onBus (w : RecordWrite) : List HostWrite :=
  match w.phase with
  | .first => [w.halfWrite]
  | .last => [w.stateWrite]
  | .waiting | .held => []

/-- A log entry's fields, then its sequence word (R183). -/
def LogWrite.onBus (w : LogWrite) : List HostWrite := twoSteps w.addr (w.entry.bytes w.seq) w.phase

/-- The notice word, in one write (R186, R187). -/
def NoticeFlight.onBus (n : NoticeFlight) : List HostWrite := [⟨n.addr, leBytes 4 n.word.toNat⟩]

/-- The mirror's contents, then its stamp (R17). -/
def Mirror.onBus (base : Addr) (m : Mirror) : List HostWrite :=
  match m.writing with
  | none => []
  | some (bs, ph) => twoSteps (mirrorAddr base) bs ph

/-- Every write of the part in flight, but for those it has given up. -/
def State.onBus (s : State) : List HostWrite :=
  s.survey.results.flatMap (ResultWrite.onBus s.survey.cbBase) ++ s.mirror.onBus s.survey.cbBase ++
    s.decks.deck.a.writes.flatMap RecordWrite.onBus ++ s.decks.deck.b.writes.flatMap RecordWrite.onBus ++
    s.walker.writes.flatMap RecordWrite.onBus ++ s.log.writing.toList.flatMap LogWrite.onBus ++
    s.log.notice.toList.flatMap NoticeFlight.onBus

end Sys2Proof.Machine
end

