-- ==== Sys2Proof/Safety.lean ====
section
/-! DEFINITION. What a good state of the part is: the facts that the rules promise of every state, each kept by every
step from any state that has them, and the words in which statements speak of bus accesses and log entries. -/

namespace Sys2Proof.Machine

open Sys2Proof

/-! ## Words for statements -/

/-- No given-up access of a user is outstanding: the next completion is the unit's own (log entry 8). -/
def State.fresh (s : State) (u : BusUser) : Prop := s.bus.staleOf u = none

/-- The log ring has no room and nothing can be written: entries handed are counted as dropped (R183). -/
def State.logOff (s : State) : Prop := s.running = false ∨ s.sections.logs.base = 0

/-- The command c completes on s with the next state t. -/
def Completes (c : Instr) (s t : State) : Prop := exec c s = .next t

/-- The command c changes nothing on s. -/
def Ignored (c : Instr) (s : State) : Prop := exec c s = .next s

/-- Two states agree but for the listed units' answer to a raising: the fault unit and the log writer (R178, R183). -/
def State.withReports (s : State) (f : Faults) (l : LogWriter) : State := { s with faults := f, log := l }

/-! ## Part state (R1 to R9, R99, R42, R54, R87) -/

/-- What the survey unit reads fits the part state. -/
def SurveyPhase.fits (p : PartState) : SurveyPhase → Bool
  | .idle => p != .attaching
  | .attachHeader false | .attachSect false _ _ => p == .attaching
  | .attachHeader true | .attachSect true _ _ | .retryHeader => p == .detached
  | .editionWord | .table | .sect _ _ | .slots => p == .running

/-- The part state and the units that follow it (spec/01, Part states; R42, R54, R87, R99). -/
structure PartStateFits (s : State) : Prop where
  phase : s.survey.phase.fits s.survey.state = true
  cameFrom : s.survey.cameFrom.parked = true
  monitor : s.monitor.state = .inactive ↔ s.onProgramme = false
  rescue : s.monitor.rescue = true → s.onProgramme = true
  walks : s.walker.walking = true → s.running = true
  decks : ∀ d, (s.deck d).state ≠ .empty → s.onProgramme = true
  callers : s.callers.onAir ≠ [] → s.onProgramme = true

/-! ## Callers (R75, R84) -/

/-- The next-up queue holds the lines in HOLD and the on-air order those in ON_AIR, each once; the limit in force holds
(R75, R84). -/
structure CallersFit (s : State) : Prop where
  queueOnce : s.callers.queue.Nodup
  queueHolds : ∀ n, n ∈ s.callers.queue ↔ (s.line n).state = .hold
  airOnce : s.callers.onAir.Nodup
  airHolds : ∀ n, n ∈ s.callers.onAir ↔ (s.line n).state = .onAir
  limit : s.callers.onAir.length ≤ s.sections.callers.limit

/-! ## Alerts (R97, R143, R151) -/

/-- At most one alert is AIRING and the switch gives it the air (the first law, R97); the air queue holds each QUEUED entry
once (R151); no two entries hold one record slot (R143). -/
structure AlertsFit (s : State) : Prop where
  oneAiring : ∀ n, (s.entry n).state = .airing ↔ (s.airing.entry = some n ∧ s.airing.state.airs = true)
  noEntry : s.airing.state.airs = false → s.airing.entry = none
  someEntry : s.airing.state.airs = true → s.airing.entry ≠ none
  onAir : s.air.now = .alert ↔ s.airing.state.present = true
  queueOnce : (s.alerts.queue.map Queued.entry).Nodup
  queueHolds : ∀ n, n ∈ s.alerts.queue.map Queued.entry ↔ (s.entry n).state = .queued
  slots : ∀ m n, m ≠ n → (s.entry m).slot = (s.entry n).slot → (s.entry m).slot = none

/-! ## Delay line (R106, R107, R110) -/

/-- D never passes the capacity and is 0 in BYPASS, the accumulator is a fraction of a frame, and the target is in its
range (R106, R107, R110). -/
structure DelayFits (s : State) : Prop where
  target : s.sections.station.target ≤ 1920000
  capacity : s.delay.depth ≤ Config.delayFrames
  bypass : s.delay.state = .bypass → s.delay.mem = []
  fraction : s.delay.acc < 1000

/-! ## Bounds (R1, R29, R164, R165, R177 to R183) -/

/-- The queues and counts stay within what the rules give them, and the fault unit's flags agree. -/
structure BoundsFit (s : State) : Prop where
  base : s.survey.cbBase &&& 0xFFF = 0
  sendQueue : s.link.queue.length ≤ Config.sendQueue
  sent : ∀ p, (s.link.port.get p).sent ≤ 3
  logQueue : s.log.queue.length ≤ Config.logQueue
  debounce : ∀ n, (s.gpi.get n).count ≤ 3
  repeats : s.faults.repeated &&& ~~~s.faults.status = 0
  multiple : s.faults.first = none → s.faults.multiple = false
  dropped : s.log.dropped ≤ Config.max32

/-- A good state of the part. -/
structure Good (s : State) : Prop where
  part : PartStateFits s
  callers : CallersFit s
  alerts : AlertsFit s
  delay : DelayFits s
  bounds : BoundsFit s

end Sys2Proof.Machine
end

