-- ==== Sys2Proof/WellFormed.lean ====
section
/-! DEFINITION. Which commands the world around the part can send: the lengths the spec fixes. A meaning takes any
command; where bytes are missing they read as zero (log entry 9). -/

namespace Sys2Proof

/-- A good read brings exactly the bytes that were asked for. -/
def ReadResult.hasLength (n : Nat) (r : ReadResult) : Bool := r.all (fun bs => bs.length == n)

/-- A block brings 240 frames or samples of every stream (spec/00, Audio; R72). -/
def BlockInput.wellFormed (b : BlockInput) : Bool :=
  b.studio.length == Config.blockFrames &&
  b.callers.toList.all (fun l => l.length == Config.blockFrames) &&
  b.alertAudio.a.length == Config.blockFrames && b.alertAudio.b.length == Config.blockFrames

/-- An ignored register write: IDENT, STATE, or COMMAND with an undefined value (R1). -/
def ignoredWrite (offset : Byte) (value : Word) : Bool :=
  offset == 0x00 || offset == 0x08 ||
    (offset == 0x04 && !([1, 2, 3, 0xA5] : List Word).contains value)

/-- A section read brings a whole section, of 64, 256 or 512 bytes (spec/12, The Control Block). -/
def sectionLength (r : ReadResult) : Bool := r.hasLength 64 || r.hasLength 256 || r.hasLength 512

/-- The form of each command. -/
def Instr.wellFormed : Instr → Bool
  | .registerWriteIgnored offset value => ignoredWrite offset value
  | .attachHeaderReadDone read => read.hasLength 256
  | .attachSectionReadDone read slots => sectionLength read && slots.hasLength 512
  | .blockBoundary input => input.wellFormed
  | .headerReadDone read => read.hasLength 4 || read.hasLength 256
  | .sectionReadDone read => sectionLength read
  | .requestSlotsReadDone read => read.hasLength 512
  | .unknownKind _ _ kind => kind == 0 || decide (15 < kind.toNat)
  | .recordReadDone read => read.hasLength 128
  | .fillRecordReadDone read => read.hasLength 128
  | .fetchReadDone data => 0 < data.length && data.length ≤ Config.fetchChunk
  | .powerOn | .start | .halt _ _ | .programmeReset _ _ | .fullReset | .cbBaseWrite _ _ => true
  | .surveyPass | .resultWriteDone _ _ | .heldResultRetry | .detachedRetry | .mirrorRewrite | .mirrorWriteDone _ => true
  | .clockSelect _ _ _ | .setTime _ _ _ _ | .setTimeApplied | .houseMark _ | .houseMarkMissing _ => true
  | .linkMarkMissing _ | .clockSwitch | .gpiLevelAccepted _ | .walkStart | .walkWaitExpired | .walkerWriteDone _ => true
  | .recordWriteDone _ _ | .heldWriteRetry _ | .fetchIssue | .fetchReadFailed | .segmentStart _ | .hardStart _ => true
  | .deckBlock _ | .durationComplete _ | .segmentEnd _ | .segmentSkip _ _ _ | .runOutStart => true
  | .presenceRise _ | .presenceFall _ | .framingLost _ | .framingRegained _ | .clearingEnd _ => true
  | .callerHold _ _ _ | .callerOnAir _ _ _ | .callerTake _ _ | .callerDrop _ _ _ | .callerQueue _ _ _ _ => true
  | .silenceTimeReached | .rescueStart | .recovery | .returnFadeEnd | .rescueStop => true
  | .delayBlock | .delayEngage _ _ | .delayExit _ _ | .delayDump _ _ => true
  | .goodCharacter _ _ _ | .framingError _ | .breakCharacter _ | .alertFrameIdle _ _ | .alertHeader _ => true
  | .alertEndFrame _ | .recordingStart _ | .recordingEnd _ | .recordingFull _ | .alertExpiry _ => true
  | .holdUntilPassed _ | .manualDeadlinePassed _ | .alertForward _ _ _ _ _ | .alertCancel _ _ _ _ _ => true
  | .airingStart | .toneEnd | .airingEnd | .gapEnd | .cancelFadeEnd => true
  | .returnFrame _ _ _ | .linkBreak _ | .returnTimeout _ | .failover | .linkSwitch _ _ _ | .pendingLinkSwitch => true
  | .revert | .programmeFrameFormed | .frameSent _ | .keepaliveDue _ => true
  | .faultAck _ _ _ | .logWriteDone _ | .logGap | .noticeWrite | .noticeWriteDone _ => true

end Sys2Proof
end

