-- ==== Sys2Proof/Certificates/Slice0/Obligations.lean ====
section
/-! DEFINITION. The statements for the provers, unit by unit. -/

open Sys2Proof Sys2Proof.Machine

/-! ## The queue of commands, reset, the register window -/

/-- A step runs the command at the front of the queue on the state with the queue's rest. With nothing waiting the
part idles, which is the model's choice (log entry 2). -/
def Obligations.StepRunsTheFrontCommand : Prop :=
  (∀ (c : Instr) (rest : List Instr) (s : State), s.pending = c :: rest → step s = exec c { s with pending := rest }) ∧
  ∀ s : State, s.pending = [] → step s = .next s

/-- What power-on and FULL_RESET leave, by the rules that state it: the window, the survey unit, the sections and the
mirror (R1, R2, R7, R10, R13 to R17), clock, time and studio lines (R18, R26, R29), walker, decks and store (R42, R54,
R70), callers (R73), air switch and monitor (R95, R99), delay line (R106), decoders, alert table and airing (R125,
R136, R146), link (R161), fault unit (R177), log writer and notices (R182, R186). The values the spec does not state
are not claimed. POWER_ON and FULL_RESET complete in every part state and restore every unit to this state (R10).
FULL_RESET writes nothing to host memory, and what was in flight is discarded; that a discarded write raises nothing,
and that the block the outside brought stays, are the model's (log entries 8 and 38). -/
def Obligations.ResetLeavesTheStatedValues : Prop :=
  (∀ s : State,
    Completes .powerOn s { State.reset with pending := s.pending } ∧
    ∃ t, Completes .fullReset s t ∧
      t = { State.reset with
        pending := s.pending, bus := t.bus, fetch := t.fetch, mixer := { Mixer.init with input := s.mixer.input } } ∧
      t.bus.resetWrites = [] ∧ (∀ o ∈ t.bus.stale, o.quiet = true) ∧
      ∀ r, t.fetch.inFlight = some r → r.live = false) ∧
  let s := State.reset
  (readRegister s .state = 0 ∧ readRegister s .cbBaseLo = 0 ∧ readRegister s .cbBaseHi = 0 ∧
    s.survey.state = .standby ∧ s.survey.cause = .none ∧ s.survey.appliedEdition = 0 ∧ s.survey.lastSeen = 0 ∧
    s.survey.applied = PerSec.all 0 ∧ s.survey.seen = PerSec.all 0 ∧ s.survey.failedReads = 0 ∧ s.survey.counter = 0 ∧
    s.survey.results = [] ∧ s.survey.refused = none ∧ s.mirror.stamp = 0 ∧ s.sections = Sections.default ∧
    s.sections.locked = false) ∧
  (s.time = 0 ∧ s.pendingTime = none ∧ s.clock.state = .onInternal ∧ s.clock.good = 0 ∧ s.clock.badRun = 0 ∧
    s.clock.pending = none ∧ s.clock.trim = 0 ∧ ∀ n, (s.gpi.get n).count = 0) ∧
  (s.walker.ptr = 0 ∧ s.walker.state = .noOrder ∧ s.walker.links = 0 ∧ s.walker.walking = false) ∧
  ((∀ d, (s.deck d).state = .empty ∧ (s.deck d).fifo = [] ∧ (s.deck d).writes = []) ∧ s.decks.pause = false ∧
    s.decks.runOut = false ∧ s.decks.noFill = false ∧ s.rescue.state = .empty ∧ s.rescue.busy = false) ∧
  ((∀ n, (s.line n).state = .idle ∧ (s.line n).tag = none ∧ (s.line n).since = 0 ∧ (s.line n).heldForAlert = false ∧
      (s.line n).oos = false ∧ (s.line n).remembered = false ∧ (s.line n).presence = false ∧
      (s.line n).framingGood = true ∧ (s.line n).gain = 32768) ∧
    s.callers.queue = [] ∧ s.callers.onAir = []) ∧
  (s.air.now = .failsafe ∧ s.air.crossfade = none ∧ s.air.fading = false) ∧
  (s.monitor.state = .inactive ∧ s.monitor.silence = 0 ∧ s.monitor.recovery = 0 ∧ s.monitor.rescue = false) ∧
  (s.delay.state = .bypass ∧ s.delay.mem = [] ∧ s.delay.acc = 0 ∧ s.delay.fadeIn = false ∧ s.delay.pauseFlag = false ∧
    s.effDump = 96000 ∧ s.safe = false) ∧
  ((∀ p, (s.decoder.get p).inFrame = false ∧ (s.decoder.get p).lineBreak = false ∧ (s.decoder.get p).bytes = []) ∧
    (∀ n, (s.entry n).state = .free) ∧ s.alerts.queue = [] ∧ s.airing.state = .idle ∧ s.airing.entry = none ∧
    s.airing.gain = Ramp.settled 32768) ∧
  ((∀ p, (s.link.port.get p).state = .down ∧ (s.link.port.get p).training = 0 ∧ (s.link.port.get p).age = 0 ∧
      (s.link.port.get p).latest = none ∧ (s.link.port.get p).bad = 0 ∧ (s.link.port.get p).keepalive = 0 ∧
      (s.link.port.get p).sent = 0) ∧
    s.link.active = .a ∧ s.link.pendingSwitch = none ∧ s.link.hold = none ∧ s.link.nextSeq = 0 ∧ s.link.queue = [] ∧
    s.link.discards = 0 ∧ s.link.slip = none ∧ s.link.latency = none ∧ s.link.base = 0 ∧ s.link.carrier = .none) ∧
  (s.faults.status = 0 ∧ s.faults.repeated = 0 ∧ s.faults.first = none ∧ s.faults.multiple = false) ∧
  s.log.head = 0 ∧ s.log.consumed = 0 ∧ s.log.valid = true ∧ s.log.dropped = 0 ∧ s.log.queue = [] ∧ s.log.lastSent = 0 ∧
    s.log.holdoff = 255 ∧ s.log.urgent = false

/-- A write to the window is a command by its offset and, for COMMAND, by its value: START (1), HALT (2),
PROGRAMME_RESET (3), FULL_RESET (0xA5), any other value being ignored (R1). CB_BASE is taken in STANDBY and HALTED,
one half at a time, the low 12 bits reading as zero (R1). What the window ignores changes nothing: writes to IDENT and
STATE and undefined COMMAND values, CB_BASE outside STANDBY and HALTED, and each command outside the part states that
take it (R1, R3, R5, R9). -/
def Obligations.WindowWritesAreTakenOrIgnored : Prop :=
  (∀ (s : State) (v : Word), s.survey.state = .standby ∨ s.survey.state = .halted →
     (∃ t, Completes (.cbBaseWrite false v) s t ∧
       t = { s with survey := { s.survey with cbBase := t.survey.cbBase } } ∧
       readRegister t .cbBaseLo = v &&& 0xFFFFF000 ∧ readRegister t .cbBaseHi = readRegister s .cbBaseHi) ∧
     ∃ t, Completes (.cbBaseWrite true v) s t ∧
       t = { s with survey := { s.survey with cbBase := t.survey.cbBase } } ∧
       readRegister t .cbBaseHi = v ∧ readRegister t .cbBaseLo = readRegister s .cbBaseLo) ∧
  (∀ a b : DeckWrites,
     (windowWrite 0x04 1 a b = some .start ∧ windowWrite 0x04 2 a b = some (.halt a b) ∧
       windowWrite 0x04 3 a b = some (.programmeReset a b) ∧ windowWrite 0x04 0xA5 a b = some .fullReset) ∧
     (∀ v, windowWrite 0x0C v a b = some (.cbBaseWrite false v) ∧ windowWrite 0x10 v a b = some (.cbBaseWrite true v)) ∧
     ∀ (o : Byte) (v : Word), ignoredWrite o v = true → windowWrite o v a b = some (.registerWriteIgnored o v)) ∧
  ((∀ (o : Byte) (v : Word) (s : State), ignoredWrite o v = true → Ignored (.registerWriteIgnored o v) s) ∧
   ∀ s : State,
     (s.survey.state = .attaching ∨ s.survey.state = .running ∨ s.survey.state = .detached →
       (∀ high v, Ignored (.cbBaseWrite high v) s) ∧ Ignored .start s) ∧
     (s.survey.state = .standby ∨ s.survey.state = .halted → ∀ a b, Ignored (.halt a b) s) ∧
     (s.survey.state = .standby ∨ s.survey.state = .attaching → ∀ a b, Ignored (.programmeReset a b) s))

/-- START with CB_BASE 0 leaves the part state and gives cause NO_BASE (R3). START with a Control Block enters
ATTACHING, remembers where it came from, clears the refused-section record, puts every section copy but a locked
section 4 back to its defaults, and touches none of what R3, R14 and R29 say it leaves. -/
def Obligations.StartAnswersByItsBase : Prop :=
  (∀ s : State, s.survey.state = .standby ∨ s.survey.state = .halted → s.survey.cbBase = 0 →
     Completes .start s { s with survey := { s.survey with cause := .noBase } }) ∧
  (∀ s : State, s.survey.state = .standby ∨ s.survey.state = .halted → s.survey.cbBase ≠ 0 →
     ∃ t, Completes .start s t ∧
       t.survey = { s.survey with
         state := .attaching, cameFrom := s.survey.state, refused := none, phase := .attachHeader false } ∧
       t.sections = { Sections.default with
         policy := if s.sections.locked then s.sections.policy else AlertSettings.default, locked := s.sections.locked } ∧
       t.time = s.time ∧ t.gpi = s.gpi ∧ t.alerts = s.alerts ∧ t.link = s.link ∧ t.clock = s.clock ∧ t.faults = s.faults ∧
       t.log.head = s.log.head ∧ t.walker = s.walker ∧ t.decks = s.decks ∧ t.callers = s.callers ∧ t.bus = s.bus)

/-- HALT from RUNNING or DETACHED empties the decks, holds the lines on air, freezes the delay line and enters HALTED;
an attempted ABANDONED write that is good reaches the record's state word (R5, R51, R68, R87, R105, R123). A write in
flight goes on to its end, and no state word is written twice; a held final write of an EMPTY deck is made; the
ABANDONED write takes the place of a held one of its record and comes after any other. Each write ends on its own: a
failed write of an older record raises WRITE_ERROR and does not hold the ABANDONED one back (R5, R38, R39; that the
outcomes are operands is log entry 6). That the pause in force is cleared is R123's. HALT during an attach ends it at
once in HALTED with cause HOST_HALT; what was applied stays applied (R4). -/
def Obligations.HaltEntersHalted : Prop :=
  (∀ (s : State) (a b : DeckWrites), s.survey.state = .running ∨ s.survey.state = .detached →
     ∃ t, Completes (.halt a b) s t ∧
       t.survey.state = .halted ∧ t.survey.cause = .hostHalt ∧ t.survey.results = s.survey.results ∧
       (∀ d, (t.deck d).state = .empty ∧ (t.deck d).writes = []) ∧
       t.callers.onAir = [] ∧ t.callers.queue = s.callers.onAir ++ s.callers.queue ∧
       t.delay = { s.delay with pauseFlag := false, pauseNow := false } ∧
       t.monitor.state = .inactive ∧ t.monitor.rescue = false ∧ t.walker.walking = false ∧ t.walker.ptr = s.walker.ptr ∧
       t.topSource ≠ .programme ∧ t.sections = s.sections ∧
       t.time = s.time ∧ t.alerts = s.alerts ∧ t.airing = s.airing ∧ t.link = s.link ∧ t.clock = s.clock ∧ t.gpi = s.gpi ∧
       ∀ d, ((s.deck d).state ≠ .empty → (∀ o ∈ if d = .a then a else b, o = .good) →
           ⟨(s.deck d).addr + 8, leBytes 4 RecState.abandoned.code⟩ ∈ t.bus.resetWrites) ∧
         ∀ w, (s.deck d).writes = [w] → (s.deck d.other).state = .empty → (s.deck d.other).writes = [] →
           let k := s.deck d
           let outcomes := if d = .a then a else b
           let left : List HostWrite :=
             (if w.phase = .first ∨ w.phase = .last then [] else [⟨w.addr + 0x40, w.half.bytes⟩]) ++
               (if w.phase = .last then [] else [⟨w.addr + 8, leBytes 4 w.state.code⟩])
           (k.state = .empty → outcomes = [] → t.bus.resetWrites = left) ∧
           (k.state ≠ .empty → ∃ p : PartHalf, p.flags.truncated = true ∧ p.reason = .halt ∧
             let own : List HostWrite := [⟨k.addr + 0x40, p.bytes⟩, ⟨k.addr + 8, leBytes 4 RecState.abandoned.code⟩]
             (outcomes = [] → (w.addr = k.addr → w.phase = .held → t.bus.resetWrites = own) ∧
               (w.addr ≠ k.addr ∨ w.phase = .first ∨ w.phase = .last → t.bus.resetWrites = left ++ own)) ∧
             (outcomes = [.halfFailed, .good] → w.addr ≠ k.addr → w.phase = .waiting ∨ w.phase = .held →
               t.bus.resetWrites = own ∧
               t.faults = (raise ⟨.writeError, deckUnit d, 0, 0, 0, zeros16⟩ s).faults))) ∧
  (∀ (s : State) (a b : DeckWrites), s.survey.state = .attaching →
     ∃ t, Completes (.halt a b) s t ∧ t.survey.state = .halted ∧ t.survey.cause = .hostHalt ∧ t.survey.phase = .idle ∧
       t.sections = s.sections ∧ t.decks = s.decks ∧ t.callers = s.callers ∧ t.delay = s.delay ∧ t.walker = s.walker ∧
       t.time = s.time ∧ t.alerts = s.alerts ∧ t.link = s.link ∧ t.clock = s.clock ∧ t.faults = s.faults)

/-- PROGRAMME_RESET leaves the part state, empties decks and delay line, returns the cue pointer to the anchor head,
holds the lines on air, ends a rescue, and leaves what R9 says stays (R9, R50, R87, R105, R124). That a return fade
ends in the block in progress is log entry 103's. -/
def Obligations.ProgrammeResetClearsTheProgramme : Prop :=
  ∀ (s : State) (a b : DeckWrites),
    s.survey.state = .running ∨ s.survey.state = .detached ∨ s.survey.state = .halted →
    ∃ t, Completes (.programmeReset a b) s t ∧
      t.survey = s.survey ∧ (∀ d, (t.deck d).state = .empty ∧ (t.deck d).writes = []) ∧
      t.walker.ptr = s.sections.anchor.head ∧ t.walker.walking = false ∧ t.delay.mem = [] ∧
      t.callers.onAir = [] ∧ t.callers.queue = s.callers.onAir ++ s.callers.queue ∧
      t.monitor.silence = 0 ∧ t.monitor.recovery = 0 ∧ t.monitor.rescue = false ∧ t.monitor.state ≠ .dead ∧
      t.air.fading = false ∧ t.sections = s.sections ∧ t.decks.pause = s.decks.pause ∧
      t.time = s.time ∧ t.alerts = s.alerts ∧ t.airing = s.airing ∧ t.link = s.link ∧ t.clock = s.clock ∧ t.gpi = s.gpi ∧
      t.log.head = s.log.head ∧ (s.survey.state ≠ .running → t.bus.resetWrites = [])

/-! ## Attach, survey, requests, mirror -/

/-- The header read of an attach: a failed read, a wrong signature and a wrong version end it in the state it came
from, each with its cause; a good header is recorded and the first section is read (R2, R4). The last section's read
ends an attach or a re-attach in RUNNING with cause NONE, whatever it brought, and a rewrite of the mirror is owed; an
attach starts the dead-air monitor, and the delay line runs from the next boundary on (R2, R4, R8, R17, R99, R123; log
entry 69). A section whose read fails within an attach keeps its contents, raises CB_READ and is marked for
re-reading, and the attach goes on to the next (R4, R12). -/
def Obligations.AttachReadsHeaderAndSections : Prop :=
  (∀ s : State, s.fresh .attachHeader → s.survey.phase = .attachHeader false →
     (∃ t, Completes (.attachHeaderReadDone none) s t ∧
       t.survey = { s.survey with state := s.survey.cameFrom, cause := .readFailed, phase := .idle } ∧
       t = { raise ⟨.cbRead, .surveyUnit, 0, 0, 0, zeros16⟩ s with survey := t.survey }) ∧
     (∀ bs, signatureRight bs = false → Completes (.attachHeaderReadDone (some bs)) s
       { s with survey := { s.survey with state := s.survey.cameFrom, cause := .badSignature, phase := .idle } }) ∧
     (∀ bs, signatureRight bs = true → versionRight bs = false → Completes (.attachHeaderReadDone (some bs)) s
       { s with survey := { s.survey with state := s.survey.cameFrom, cause := .badVersion, phase := .idle } }) ∧
     ∀ bs, signatureRight bs = true → versionRight bs = true → Completes (.attachHeaderReadDone (some bs)) s
       { s with survey := { s.survey with
         lastSeen := headerEdition bs, appliedEdition := headerEdition bs, seen := editionTable bs
         heldFill := s.sections.anchor.fill
         phase := .attachSect false .station [.anchor, .policy, .callers, .logs] } }) ∧
  (∀ (s : State) (re : Bool) (read slots : ReadResult),
     s.fresh .attachSect → s.survey.phase = .attachSect re .logs [] →
     ∃ t, Completes (.attachSectionReadDone read slots) s t ∧
       t.survey.state = .running ∧ t.survey.cause = .none ∧ t.survey.phase = .idle ∧ t.survey.failedReads = 0 ∧
       t.survey.appliedEdition = s.survey.appliedEdition ∧ t.mirror.due = true ∧
       (re = false → t.monitor.state = .watching ∧ t.monitor.silence = 0 ∧ t.monitor.recovery = 0 ∧
         Ignored .delayBlock t) ∧
       (re = true → t.monitor = { s.monitor with live := t.monitor.live }) ∧
       t.time = s.time ∧ t.sections.station = s.sections.station ∧ t.sections.policy = s.sections.policy) ∧
  (∀ (s : State) (re : Bool) (sec next : Sec) (rest : List Sec) (slots : ReadResult),
     s.fresh .attachSect → s.survey.phase = .attachSect re sec (next :: rest) →
     ∃ t, Completes (.attachSectionReadDone none slots) s t ∧
       t.survey = { s.survey with
         marked := s.survey.marked.set sec true, phase := .attachSect re next rest
         pass := { s.survey.pass with failed := true } } ∧
       t = { raise ⟨.cbRead, .surveyUnit, 0, 0, 0, zeros16⟩ s with survey := t.survey })

/-- SURVEY_PASS begins the one pass of a RUNNING block with the header edition word; a header edition already seen,
with no section marked, ends the pass with nothing read, and another leads to the edition table, the count of failed
reads staying as it is until that table has been read (log entry 56; DESIGN CHOICE). A good table read sets the count
to 0 and goes on to the first section whose edition differs or that is marked, then to the request slots, else the
pass completes and sets the last seen and applied editions; a wrong signature or version in it is a failed read (R7,
R11). DETACHED_RETRY reads the header every 20 blocks; a good one starts a re-attach, whose own header read is
recorded and leads to the sections or, failed, leaves the part in DETACHED for 20 blocks more; a failed retry raises
nothing (R8; log entry 57). A failed header read in RUNNING ends the pass and is counted, the first of a run raising
CB_READ; the third enters DETACHED with cause READ_FAILED, stops the walk and drops the log entries that wait (R2, R7,
R51, R183). -/
def Obligations.SurveyReadsTheHeaderFirst : Prop :=
  (∀ s : State,
     (s.survey.state = .running → s.survey.passMade = false → s.survey.phase = .idle →
       Completes .surveyPass s { s with survey := { s.survey with
         phase := .editionWord, passMade := true, pass := ⟨0, PerSec.all 0, false, false⟩ } }) ∧
     (s.survey.state = .running → s.fresh .header → s.survey.phase = .editionWord → ∀ bs : List Byte,
       (word bs 0 = s.survey.lastSeen → (∀ sec, s.survey.marked.get sec = false) →
         Completes (.headerReadDone (some bs)) s
           { s with survey := { s.survey with phase := .idle, failedReads := 0 } }) ∧
       (word bs 0 = s.survey.lastSeen → (∃ sec, s.survey.marked.get sec = true) →
         Completes (.headerReadDone (some bs)) s { s with
           survey := { s.survey with
             phase := .table, pass := { s.survey.pass with edition := word bs 0, changed := false } }
           walker := { s.walker with surveyChanged := false } }) ∧
       (word bs 0 ≠ s.survey.lastSeen → Completes (.headerReadDone (some bs)) s { s with
         survey := { s.survey with
           phase := .table, pass := { s.survey.pass with edition := word bs 0, changed := true } }
         walker := { s.walker with surveyChanged := true } })) ∧
     (s.survey.state = .detached → s.survey.phase = .idle → 20 ≤ s.survey.retryCount →
       Completes .detachedRetry s { s with survey := { s.survey with phase := .retryHeader, retryCount := 0 } })) ∧
  (∀ (s : State) (bs : List Byte), s.fresh .header →
     let good := signatureRight bs = true ∧ versionRight bs = true
     let idle : State := { s with survey := { s.survey with phase := .idle } }
     (s.survey.phase = .table → s.survey.pass.failed = false →
       let due (sec : Sec) : Bool := (editionTable bs).get sec != s.survey.seen.get sec || s.survey.marked.get sec
       let wanted : List Sec := [Sec.station, .anchor, .policy, .callers, .logs].filter due
       (¬good → exec (.headerReadDone (some bs)) s = exec (.headerReadDone none) s) ∧
       (good → ∃ t, Completes (.headerReadDone (some bs)) s t ∧ t = { s with survey := { s.survey with
           failedReads := 0, pass := { s.survey.pass with table := editionTable bs }, phase := t.survey.phase
           lastSeen := t.survey.lastSeen, appliedEdition := t.survey.appliedEdition } } ∧
         (∀ x xs, wanted = x :: xs → t.survey.phase = .sect x xs) ∧
         (wanted = [] → due .slots = true → t.survey.phase = .slots) ∧
         (wanted = [] → due .slots = false → t.survey.phase = .idle ∧ t.survey.lastSeen = s.survey.pass.edition ∧
           t.survey.appliedEdition = s.survey.pass.edition) ∧
         (t.survey.phase ≠ .idle → t.survey.lastSeen = s.survey.lastSeen ∧
           t.survey.appliedEdition = s.survey.appliedEdition))) ∧
     (s.survey.phase = .retryHeader →
       Completes (.headerReadDone none) s idle ∧ (¬good → Completes (.headerReadDone (some bs)) s idle) ∧
       (good → Completes (.headerReadDone (some bs)) s { s with survey := { s.survey with phase := .attachHeader true } }))) ∧
  (∀ (s : State) (bs : List Byte), s.fresh .attachHeader → s.survey.phase = .attachHeader true →
     let good := signatureRight bs = true ∧ versionRight bs = true
     let waits : Survey := { s.survey with phase := .idle, retryCount := 0 }
     Completes (.attachHeaderReadDone none) s
       { raise ⟨.cbRead, .surveyUnit, 0, 0, 0, zeros16⟩ s with survey := waits } ∧
     (¬good → Completes (.attachHeaderReadDone (some bs)) s { s with survey := waits }) ∧
     (good → Completes (.attachHeaderReadDone (some bs)) s { s with survey := { s.survey with
       lastSeen := headerEdition bs, appliedEdition := headerEdition bs, seen := editionTable bs
       heldFill := s.sections.anchor.fill
       phase := .attachSect true .station [.anchor, .policy, .callers, .logs] } })) ∧
  (∀ s : State, s.survey.state = .running → s.fresh .header →
     s.survey.phase = .editionWord ∨ s.survey.phase = .table →
     ∃ t, Completes (.headerReadDone none) s t ∧ t.survey.phase = .idle ∧
       t.survey.failedReads = s.survey.failedReads + 1 ∧
       (s.survey.failedReads = 0 → t.faults = (raise ⟨.cbRead, .surveyUnit, 0, 0, 0, zeros16⟩ s).faults) ∧
       (s.survey.failedReads ≠ 0 → t.faults = s.faults) ∧
       (s.survey.failedReads < 2 → t.survey.state = .running ∧ t.survey.cause = s.survey.cause ∧ t.walker = s.walker) ∧
       (2 ≤ s.survey.failedReads → t.survey.state = .detached ∧ t.survey.cause = .readFailed ∧
         t.survey.retryCount = 0 ∧ t.walker.walking = false ∧ t.walker.ptr = s.walker.ptr ∧ t.log.queue = []) ∧
       t.sections = s.sections ∧ t.callers = s.callers ∧ t.delay = s.delay ∧ t.monitor = s.monitor ∧ t.fetch = s.fetch ∧
       t.time = s.time ∧ ∀ d, (t.deck d).state = (s.deck d).state)

/-- A failed section read in a survey raises CB_READ, marks the section and leaves its copy and editions; a failed
read of the request slots leaves section 3's seen edition and marks it, so that the next pass reads the slots again;
neither pass updates the last seen header edition (R12). A section 6 whose size is no power of two in 64 to 4,096 is
refused with LOG_SIZE: CB_SECTION is raised, the refused-section record takes it, and the old copy and its applied
edition stay (R13). A section 5 that passes its checks is applied: its copy, its applied and seen editions, and every
line's gain (R11, R13, R74). -/
def Obligations.SectionsAreAppliedRefusedOrKept : Prop :=
  (∀ s : State,
     (∀ (sec next : Sec) (rest : List Sec), s.fresh .sect → s.survey.phase = .sect sec (next :: rest) →
       ∃ t, Completes (.sectionReadDone none) s t ∧
         t.survey = { s.survey with
           marked := s.survey.marked.set sec true, phase := .sect next rest
           pass := { s.survey.pass with failed := true } } ∧
         t = { raise ⟨.cbRead, .surveyUnit, 0, 0, 0, zeros16⟩ s with survey := t.survey }) ∧
     (s.fresh .slots → s.survey.phase = .slots →
       ∃ t, Completes (.requestSlotsReadDone none) s t ∧ t.survey.phase = .idle ∧ t.survey.seen = s.survey.seen ∧
         t.survey.marked = s.survey.marked.set .slots true ∧
         t.survey.lastSeen = s.survey.lastSeen ∧ t.survey.counter = s.survey.counter ∧
         t = { raise ⟨.cbRead, .surveyUnit, 0, 0, 0, zeros16⟩ s with survey := t.survey })) ∧
  (∀ (s : State) (bs : List Byte) (rest : List Sec), s.fresh .sect → s.survey.phase = .sect .logs rest →
     (∀ k, 6 ≤ k → k ≤ 12 → field bs 0x08 4 ≠ 2 ^ k) →
     ∃ t, Completes (.sectionReadDone (some bs)) s t ∧ t.sections = s.sections ∧
       t.survey.applied = s.survey.applied ∧ t.survey.seen.logs = s.survey.pass.table.logs ∧
       t.survey.refused = some ⟨.logs, s.survey.pass.table.logs, .logSize⟩ ∧
       t = { raise ⟨.cbSection, .surveyUnit, 6, 0, RefuseReason.logSize.code, zeros16⟩ s with survey := t.survey }) ∧
  (∀ (s : State) (bs : List Byte) (x : CallerSettings) (clamps : List Clamp) (rest : List Sec),
     s.fresh .sect → s.survey.phase = .sect .callers rest → parseCallers bs = .ok x clamps →
     ∃ t, Completes (.sectionReadDone (some bs)) s t ∧ t.sections = { s.sections with callers := x } ∧
       t.survey.applied = { s.survey.applied with callers := s.survey.pass.table.callers } ∧
       t.survey.seen = { s.survey.seen with callers := s.survey.pass.table.callers } ∧
       (∀ n, (t.line n).gain = (x.lines.get n).gain) ∧ t.faults = s.faults ∧ t.time = s.time ∧ t.decks = s.decks)

/-- A good read of the request slots takes the POSTED ones with no result outstanding, each once, in order of
increasing forward distance from the counter as it stood at the start, and slots at equal distance in increasing
index; each meets what the ones before it did (R15). A read with nothing POSTED completes the pass: section 3's seen
edition and the last seen and applied header editions are the pass's (R11, R15). A request of a kind that no owner
knows is answered UNKNOWN_KIND, and it still moves the counter; a slot whose result is outstanding is passed over
(R15, R16). -/
def Obligations.RequestsAreTakenByDistance : Prop :=
  (∀ (s : State) (bs : List Byte),
    ((posted s bs).Pairwise (fun x y =>
      (x.seq - s.survey.counter).toNat < (y.seq - s.survey.counter).toNat ∨
        ((x.seq - s.survey.counter).toNat = (y.seq - s.survey.counter).toNat ∧ x.slot < y.slot))) ∧
    (∀ r, r ∈ posted s bs ↔ ∃ i, r = requestAt bs i ∧ slotPosted bs i = true ∧ s.outstanding i = false) ∧
    (s.fresh .slots → s.survey.phase = .slots →
      let taken := (posted s bs).foldl (fun u r => takeRequest r u) { s with survey := { s.survey with
        seen := s.survey.seen.set .slots s.survey.pass.table.slots, marked := s.survey.marked.set .slots false } }
      ∃ t, Completes (.requestSlotsReadDone (some bs)) s t ∧ t.survey.counter = taken.survey.counter ∧
        t.survey.results = taken.survey.results ∧ t.survey.phase = .idle ∧ t = { taken with survey := t.survey })) ∧
  (∀ (s : State) (bs : List Byte), s.fresh .slots → s.survey.phase = .slots → s.survey.pass.failed = false →
     (∀ i, slotPosted bs i = false) →
     Completes (.requestSlotsReadDone (some bs)) s { s with survey := { s.survey with
       phase := .idle, seen := s.survey.seen.set .slots s.survey.pass.table.slots
       marked := s.survey.marked.set .slots false
       lastSeen := s.survey.pass.edition, appliedEdition := s.survey.pass.edition } }) ∧
  (∀ (s : State) (i : SlotNo) (seq kind : Word), s.survey.state = .running →
     (s.outstanding i = false →
       ∃ t, Completes (.unknownKind i seq kind) s t ∧
         t.survey = { s.survey with
           counter := seq, results := s.survey.results ++ [⟨i, .unknownKind, s.time.setWidth 32, .first⟩] } ∧
         t = { s with survey := t.survey, log := t.log }) ∧
     (s.outstanding i = true → Ignored (.unknownKind i seq kind) s))

/-- What a section read good puts in force. The numeric fields of sections 1, 4 and 5 are taken at the nearer end of
their ranges, gains above 32,768 as 32,768, and each clamped field hands one SETTING_CLAMPED entry with the section's
index, the field, the value written and the value used (R13). Section 4 takes its lock with its contents, and moves
the alert gain over 4 blocks; once locked, another edition is refused LOCKED and the applied one re-applies nothing
(R14, R146). A changed anchor head moves the cue pointer, ends a walk and leaves the decks; the same head leaves the
walker (R50). In a survey a changed fill address begins a load, or with 0 empties the store; within an attach none
begins (R70). A lowered conference limit holds the lines aired last at the head of the queue, in on-air order (R84). A
changed target works the state of an engaged line out again and hands DELAY_STATE (R116). The consumed index of
section 6 is taken when valid; another clears the flag and raises LOG_INDEX at the onset alone (R185). That the fault
unit is the unit that raises LOG_INDEX is log entry 49's, and that a READY store stays READY while the new fill record
is read log entry 62's. -/
def Obligations.SettingsAreClampedAndPutInForce : Prop :=
  (∀ bs : List Byte,
     let near (lo hi v : Nat) : Nat := max lo (min hi v)
     (∀ x clamps, parseStation bs = .ok x clamps →
       x.noticeHoldoff = near 0 255 (field bs 0x08 4) ∧ x.trim = max (-128) (min 127 (word bs 0x0C).toInt) ∧
       x.studioGain = near 0 32768 (field bs 0x14 4) ∧ x.fillGain = near 0 32768 (field bs 0x18 4) ∧
       x.fetchMark = near 1024 15360 (field bs 0x1C 4) ∧ x.target = near 0 1920000 (field bs 0x20 4) ∧
       x.rate = near 1 50 (field bs 0x24 4) ∧ x.dumpSize = near 48000 480000 (field bs 0x28 4) ∧
       x.silenceThreshold = near 1 8388607 (field bs 0x30 4) ∧ x.silenceTime = near 200 12000 (field bs 0x34 4) ∧
       x.siteAddress = near 0 255 (field bs 0x3C 4) ∧ x.returnTimeout = near 2 200 (field bs 0x40 4) ∧
       x.revertHold = near 200 60000 (field bs 0x4C 4)) ∧
     (∀ x clamps, parsePolicy false bs = .ok x clamps →
       x.forwardHold = near 0 600 (field bs 0x10 4) ∧ x.attention = near 0 25 (field bs 0x18 4) ∧
       x.gain = near 0 32768 (field bs 0x1C 4) ∧
       x.manualDeadline = (if field bs 0x14 4 = 0 then 0 else near 60 3600 (field bs 0x14 4))) ∧
     ∀ x clamps, parseCallers bs = .ok x clamps → let v := field bs 0x00 4
       x.limit = near 1 3 v ∧ x.holdGain = near 0 32768 (field bs 0x08 4) ∧
       clamps = if 1 ≤ v ∧ v ≤ 3 then [] else [⟨0, BitVec.ofNat 32 v, BitVec.ofNat 32 (near 1 3 v)⟩]) ∧
  (∀ (s : State) (sec : Sec) (rest : List Sec) (bs : List Byte), s.fresh .sect → s.survey.phase = .sect sec rest →
     let takes (t : State) : Prop := Completes (.sectionReadDone (some bs)) s t
     let entry (c : Clamp) : LogEntry := ⟨.settingClamped, .surveyUnit, 0, s.time, BitVec.ofNat 16 c.off,
       BitVec.ofNat 64 sec.index, c.written, c.used⟩
     (sec = .policy →
       (s.sections.locked = true →
         (s.survey.pass.table.policy = s.survey.applied.policy → ∃ t, takes t ∧ t = { s with survey := t.survey } ∧
           t.survey.refused = s.survey.refused) ∧
         (s.survey.pass.table.policy ≠ s.survey.applied.policy → ∃ t, takes t ∧
           t.survey.refused = some ⟨.policy, s.survey.pass.table.policy, .locked⟩ ∧
           t = { raise ⟨.cbSection, .surveyUnit, 4, 0, RefuseReason.locked.code, zeros16⟩ s with survey := t.survey })) ∧
       (∀ x clamps, s.sections.locked = false → parsePolicy false bs = .ok x clamps →
         ∃ t, takes t ∧ t.sections = { s.sections with policy := x, locked := x.lock } ∧
           t.airing.gain = (if s.airing.gain.target = x.gain then s.airing.gain else s.airing.gain.start x.gain 4) ∧
           t.log = (handLogs (clamps.map entry) s).log ∧ t.alerts = s.alerts ∧ t.faults = s.faults)) ∧
     (∀ x clamps, sec = .anchor → parseAnchor bs = .ok x clamps →
       ∃ t, takes t ∧ t.sections = { s.sections with anchor := x } ∧
         (x.head = s.sections.anchor.head → t.walker = s.walker) ∧
         (x.head ≠ s.sections.anchor.head → t.walker.ptr = x.head ∧ t.walker.walking = false ∧ t.walker.links = 0 ∧
           t.walker.wait = 0 ∧ t.walker.state = (if x.head = 0 then .noOrder else .toExamine)) ∧
         t.decks.deck = s.decks.deck ∧
         (x.fill = s.sections.anchor.fill → t.rescue = s.rescue) ∧
         (x.fill ≠ s.sections.anchor.fill →
           (x.fill = 0 → t.rescue.state = .empty ∧ t.rescue.reading = false) ∧
           (x.fill ≠ 0 → t.rescue.reading = true ∧ t.rescue.fill = x.fill ∧
             t.rescue.state = (if s.rescue.state = .loading then .empty else s.rescue.state)))) ∧
     (∀ x clamps, sec = .callers → parseCallers bs = .ok x clamps → s.callers.onAir.Nodup →
       let surplus := s.callers.onAir.drop x.limit
       ∃ t, takes t ∧ t.callers.onAir = s.callers.onAir.take x.limit ∧ t.callers.queue = surplus ++ s.callers.queue ∧
         (∀ n ∈ surplus, (t.line n).state = .hold ∧ (t.line n).since = s.time ∧ (t.line n).heldForAlert = false) ∧
         (∀ n, n ∉ surplus → (t.line n).state = (s.line n).state) ∧
         (surplus = [] → t.log = (handLogs (clamps.map entry) s).log)) ∧
     (∀ x clamps, sec = .station → parseStation bs = .ok x clamps → (∀ n, (x.gpi.get n).function ≠ .dump) →
       let D := s.delay.depth
       let engaged := s.delay.state = .building ∨ s.delay.state = .holding ∨ s.delay.state = .squeezing
       ∃ t, takes t ∧ t.sections = { s.sections with station := x } ∧
         t.delay = { s.delay with state := t.delay.state } ∧ (¬engaged → t.delay.state = s.delay.state) ∧
         (engaged → t.delay.state = if D < x.target then .building else if D = x.target then .holding else .squeezing) ∧
         (clamps = [] →
           (t.delay.state = s.delay.state → t.safe = s.safe → t.log = s.log) ∧
           (t.delay.state ≠ s.delay.state ∨ t.safe ≠ s.safe →
             t.log = (handLog (delayStateEntry s.delay.state .setting t) { s with sections := t.sections }).log))) ∧
     (∀ x clamps, sec = .logs → parseLogs bs = .ok x clamps →
       let c := word bs 0x0C
       let valid := (s.log.head - c).toNat ≤ x.size
       ∃ t, takes t ∧ t.sections = { s.sections with logs := x } ∧
         (valid → t.log = { s.log with consumed := c, valid := true } ∧ t.faults = s.faults) ∧
         (¬valid → t.log.consumed = s.log.consumed ∧ t.log.valid = false ∧
           (s.log.valid = false → t.faults = s.faults) ∧
           (s.log.valid = true → t.faults = (raise ⟨.logIndex, .faultUnit, 0, 0, 0, zeros16⟩ s).faults)))) ∧
  ∀ (s : State) (re : Bool) (next : Sec) (rest : List Sec) (bs : List Byte) (slots : ReadResult),
    s.fresh .attachSect → s.survey.phase = .attachSect re .anchor (next :: rest) →
    ∃ t, Completes (.attachSectionReadDone (some bs) slots) s t ∧ t.rescue = s.rescue ∧ t.fetch = s.fetch

/-- A result goes to its slot in two writes: the result code and the done time first, then the slot state, 2 for DONE
and 3 for REFUSED (R16, R187, R188). A failed one raises WRITE_ERROR and is held. Each RUNNING block attempts every
held result once, in slot index order: the lowest slot first, and the next when that one's write has ended (R16; log
entry 68). -/
def Obligations.ResultsAreWrittenAndHeld : Prop :=
  (∀ (s : State) (i : SlotNo) (w : ResultWrite), s.survey.state = .running → s.fresh (.result i) → w.slot = i →
    let free : Survey := { s.survey with
      retrying := if s.survey.retrying = some i then none else s.survey.retrying }
    (s.survey.results = [w] →
      (w.phase = .first →
        Completes (.resultWriteDone i true) s { s with survey := { s.survey with results := [{ w with phase := .last }] } }) ∧
      (w.phase = .last →
        Completes (.resultWriteDone i true) s { s with survey := { free with results := [] } }) ∧
      (w.phase = .first ∨ w.phase = .last → Completes (.resultWriteDone i false) s
        { writeError .surveyUnit s with survey := { free with results := [{ w with phase := .held }] } })) ∧
    (∀ x : ResultWrite, s.survey.results = [w, x] → x.slot ≠ i → x.phase = .waiting → s.survey.retrying = some i →
      (w.phase = .last → Completes (.resultWriteDone i true) s { s with survey := { s.survey with
        results := [{ x with phase := .first }], retrying := some x.slot } }) ∧
      (w.phase = .first ∨ w.phase = .last → Completes (.resultWriteDone i false) s
        { writeError .surveyUnit s with survey := { s.survey with
          results := [{ w with phase := .held }, { x with phase := .first }], retrying := some x.slot } }))) ∧
  (∀ s : State, s.survey.state = .running →
    (s.survey.resultsTried = true → Ignored .heldResultRetry s) ∧
    (s.survey.resultsTried = false → s.survey.retrying = none →
      ∃ t, Completes .heldResultRetry s t ∧ t.survey.resultsTried = true ∧
        (∀ x ∈ t.survey.results, x.phase ≠ .held) ∧
        t.survey.results.map ResultWrite.slot = s.survey.results.map ResultWrite.slot ∧
        (∀ w ∈ s.survey.results, w.phase = .held →
          (∀ x ∈ s.survey.results, x.phase = .held ∨ x.phase = .waiting → w.slot ≤ x.slot) →
          t.survey.retrying = some w.slot ∧ { w with phase := .first } ∈ t.survey.results ∧
            ∀ x ∈ s.survey.results, x.phase = .held → x.slot ≠ w.slot → { x with phase := .waiting } ∈ t.survey.results) ∧
        t = { s with survey := { s.survey with
          results := t.survey.results, resultsTried := true, retrying := t.survey.retrying } })) ∧
  ∀ (base : Addr) (w : ResultWrite),
    let slot := base + 0x240 + BitVec.ofNat 64 (32 * w.slot.val)
    (w.phase = .first →
      w.onBus base = [⟨slot + 0x18, leBytes 4 w.code.code ++ leBytes 4 w.doneTime.toNat⟩]) ∧
    (w.phase = .last → w.onBus base = [⟨slot, [if w.code = .done then 2 else 3, 0, 0, 0]⟩])

/-- The mirror is rewritten in RUNNING, at most once in a block, when a rewrite is owed or something but the time
differs from the contents last written (log entry 34), and is ignored else; its stamp is written last and is one more
than that of the last complete rewrite; a failure raises WRITE_ERROR and uses no stamp up (R17). -/
def Obligations.MirrorStampCountsCompleteRewrites : Prop :=
  ∀ s : State,
    let differs := mirrorCompared s.mirror.written ≠ mirrorContents s
    (s.survey.state = .running → s.mirror.writing = none → s.mirror.tried = false → s.mirror.due = true ∨ differs →
      Completes .mirrorRewrite s
        { s with mirror := { s.mirror with writing := some (mirrorBytes s, .first), tried := true } }) ∧
    (s.survey.state ≠ .running ∨ s.mirror.writing ≠ none ∨ s.mirror.tried = true ∨ (s.mirror.due = false ∧ ¬differs) →
      Ignored .mirrorRewrite s) ∧
    (mirrorBytes s).take 4 = leBytes 4 (s.mirror.stamp + 1).toNat ∧ mirrorCompared (mirrorBytes s) = mirrorContents s ∧
    (∀ now : Time, mirrorContents { s with time := now } = mirrorContents s) ∧
    (∀ i : BlockInput, ∃ t, Completes (.blockBoundary i) s t ∧ t.mirror = { s.mirror with tried := false }) ∧
    (∀ bs, s.fresh .mirror → s.survey.state = .running → s.mirror.writing = some (bs, .first) →
      Completes (.mirrorWriteDone true) s { s with mirror := { s.mirror with writing := some (bs, .last) } }) ∧
    (∀ bs, s.fresh .mirror → s.mirror.writing = some (bs, .last) →
      Completes (.mirrorWriteDone true) s { s with mirror := { s.mirror with
        writing := none, due := false, written := bs, stamp := s.mirror.stamp + 1 } }) ∧
    (∀ x, s.fresh .mirror → s.mirror.writing = some x → Completes (.mirrorWriteDone false) s
      { writeError .surveyUnit s with mirror := { s.mirror with writing := none, due := true } }) ∧
    ∀ (bs : List Byte) (base : Addr),
      (s.mirror.writing = some (bs, .first) → s.mirror.onBus base = [⟨base + 0x800 + 4, bs.drop 4⟩]) ∧
      (s.mirror.writing = some (bs, .last) → s.mirror.onBus base = [⟨base + 0x800, bs.take 4⟩])

/-- The 2,048 bytes of a rewrite, field by field at the offsets of section 12.3, each little-endian: the part and the
refused-section record, time and clock, walker, decks and store, delay line and mixer gains, callers, alert table and
airing, air switch and monitor, link, faults, log and studio lines (R17, R187; the codes are R188's, with log entries
14 and 49; a deck's shown record with an unfinished write is log entry 76, a line without a tag log entry 89, the
counts between airings log entry 93, the alert gain while its ramp runs log entry 105, the window of a port not UP log
entry 107). -/
def Obligations.MirrorShowsTheState : Prop :=
  ∀ s : State,
    let shows (off size value : Nat) : Prop := slice (mirrorBytes s) off size = leBytes size value
    (mirrorBytes s).length = 2048 ∧
    (shows 0x000 4 (s.mirror.stamp + 1).toNat ∧ shows 0x004 4 s.survey.state.code ∧ shows 0x008 4 s.survey.cause.code ∧
      shows 0x00C 4 s.survey.appliedEdition.toNat ∧ (s.survey.refused = none → shows 0x010 16 0) ∧
      (∀ r, s.survey.refused = some r →
        shows 0x010 4 r.sec.index ∧ shows 0x014 4 r.reason.code ∧ shows 0x018 4 r.edition.toNat ∧ shows 0x01C 4 0)) ∧
    (shows 0x020 8 s.time.toNat ∧ shows 0x028 4 s.clock.state.code ∧ shows 0x02C 4 s.clock.good ∧
      shows 0x030 4 (BitVec.ofInt 32 s.clock.trim).toNat ∧ shows 0x034 12 0) ∧
    (shows 0x040 8 s.walker.ptr.toNat ∧ shows 0x048 4 s.walker.state.code ∧ shows 0x04C 4 0) ∧
    (∀ (d : DeckId) (o : Nat), (d = .a ∧ o = 0x050) ∨ (d = .b ∧ o = 0x068) → let k := s.deck d
      (k.state = .empty → (k.writes = [] → shows o 8 0 ∧ shows (o + 8) 4 0) ∧
        ∀ w ws, k.writes = w :: ws → shows o 8 w.addr.toNat ∧ shows (o + 8) 4 w.state.code) ∧
      (k.state = .loading ∨ k.state = .ready → shows o 8 k.addr.toNat ∧ shows (o + 8) 4 2) ∧
      (k.state = .playing ∨ k.state = .ending ∨ k.state = .paused → shows o 8 k.addr.toNat ∧ shows (o + 8) 4 3) ∧
      shows (o + 12) 4 k.state.code ∧ shows (o + 16) 4 k.fifo.length ∧ shows (o + 20) 4 0) ∧
    (shows 0x080 4 s.rescue.state.code ∧ shows 0x084 4 s.rescue.len ∧ shows 0x088 24 0) ∧
    (shows 0x0A0 4 s.delay.state.code ∧ shows 0x0A4 4 s.delay.depth ∧ shows 0x0A8 4 s.sections.station.target ∧
      shows 0x0AC 4 s.sections.station.rate ∧ shows 0x0B0 4 s.effDump ∧
      shows 0x0B4 4 (bit s.safe + 2 * bit s.delay.fadeIn + 4 * bit s.delay.pauseNow) ∧ shows 0x0B8 8 0) ∧
    (shows 0x0C0 4 s.mixer.deckRamp.a.g ∧ shows 0x0C4 4 s.mixer.deckRamp.b.g ∧ shows 0x0C8 4 s.mixer.studio.g ∧
      shows 0x0CC 4 s.mixer.fill.g ∧ ∀ n : LineNo, shows (0x0D0 + 4 * n.val) 4 (s.mixer.line.get n).g) ∧
    (∀ n : LineNo, let o := 0x0E0 + 20 * n.val
      shows o 8 (s.line n).since.toNat ∧ shows (o + 8) 4 ((s.line n).tag.getD 0).toNat ∧ shows (o + 12) 4 (s.line n).gain ∧
      shows (o + 16) 1 (s.line n).state.code ∧
      shows (o + 17) 1 (bit (s.line n).heldForAlert + 2 * bit (s.line n).tag.isSome + 4 * bit (!(s.line n).framingGood)) ∧
      shows (o + 18) 2 0) ∧
    (∀ i, i < 4 → shows (0x130 + i) 1 (s.callers.queue[i]?.elim 0 (fun n => n.val + 1)) ∧
      shows (0x134 + i) 1 (s.callers.onAir[i]?.elim 0 (fun n => n.val + 1))) ∧
    (∀ n : EntryNo, let o := 0x140 + 48 * n.val
      let e := s.entry n
      shows o 1 (n.val + 1) ∧ (e.state = .free → shows (o + 1) 47 0) ∧
      (e.state ≠ .free → shows (o + 1) 1 e.state.code ∧ shows (o + 2) 1 e.originClass.toNat ∧
        shows (o + 3) 1 e.policy.code ∧ shows (o + 4) 3 e.event.toNat ∧
        shows (o + 7) 1 (match e.slot with | none => 0 | some .a => 1 | some .b => 2) ∧
        shows (o + 8) 8 e.ident.sender.toNat ∧ shows (o + 16) 2 e.ident.message.toNat ∧ shows (o + 18) 2 e.copies ∧
        shows (o + 20) 1 (bit e.flags.truncated + 2 * bit e.flags.noAudio + 4 * bit e.flags.forwardOnCompletion +
          8 * bit e.flags.deadline + 16 * bit e.flags.partialAir + 32 * bit e.flags.linkDown) ∧
        shows (o + 21) 1 (bit e.heardA + 2 * bit e.heardB) ∧ shows (o + 22) 1 e.resolution.code ∧
        shows (o + 23) 1 (bit e.holdUntil.isSome + 2 * bit e.deadline.isSome) ∧ shows (o + 24) 4 e.recLen ∧
        shows (o + 28) 4 0 ∧ shows (o + 32) 8 e.expiry.toNat ∧ (∀ h, e.holdUntil = some h → shows (o + 40) 8 h.toNat) ∧
        (∀ h, e.holdUntil = none → e.deadline = some h → shows (o + 40) 8 h.toNat))) ∧
    (shows 0x2C0 4 s.airing.state.code ∧ shows 0x2C4 4 (s.airing.entry.elim 0 (fun n => n.val + 1)) ∧
      shows 0x2C8 4 s.airing.tone ∧ shows 0x2CC 4 s.airing.message ∧ shows 0x2D0 4 s.airing.given ∧
      (∀ i, i < 8 → shows (0x2D4 + i) 1 (s.alerts.queue[i]?.elim 0 (fun q => q.entry.val + 1))) ∧
      shows 0x2DC 4 s.sections.policy.forwardHold ∧ shows 0x2E0 4 s.sections.policy.manualDeadline ∧
      shows 0x2E4 4 s.sections.policy.attention ∧ shows 0x2E8 4 s.airing.gain.g ∧ shows 0x2EC 20 0) ∧
    (shows 0x300 4 s.air.now.code ∧
      shows 0x304 4 (bit s.air.crossfade.isSome + 2 * bit s.air.fading + 4 * bit s.monitor.rescue) ∧
      shows 0x308 4 s.monitor.state.code ∧ shows 0x30C 4 s.monitor.silence ∧ shows 0x310 4 s.monitor.recovery ∧
      shows 0x314 12 0) ∧
    (∀ (p : PortId) (o : Nat), (p = .a ∧ o = 0x320) ∨ (p = .b ∧ o = 0x360) → let x := s.link.port.get p
      shows o 4 x.state.code ∧ shows (o + 4) 4 x.training ∧ shows (o + 8) 4 x.age ∧ shows (o + 12) 4 x.bad ∧
      shows (o + 16) 4 (bit x.latest.isSome) ∧ (x.latest = none → shows (o + 20) 28 0) ∧
      (∀ bs, x.latest = some bs → bs.length = 28 → slice (mirrorBytes s) (o + 20) 28 = bs) ∧ shows (o + 48) 16 0) ∧
    (shows 0x3A0 4 (if s.link.active = .a then 0 else 1) ∧
      shows 0x3A4 4 (match s.link.pendingSwitch with | none => 0 | some .a => 1 | some .b => 2) ∧
      (∀ h, s.link.hold = some h → shows 0x3A8 8 h.toNat) ∧ shows 0x3B0 4 s.link.nextSeq.toNat ∧
      shows 0x3B4 4 s.link.queue.length ∧ shows 0x3B8 4 (bit s.link.windowOpen) ∧ shows 0x3BC 4 s.link.discards ∧
      (∀ l, s.link.latency = some l → shows 0x3C0 8 l) ∧ shows 0x3C8 4 s.link.carrier.code ∧
      (∀ x, s.link.telemetry = some x → shows 0x3CC 1 (if x.port = .a then 0 else 1) ∧ shows 0x3CD 1 x.flags.toNat ∧
        shows 0x3CE 2 x.forward.toNat ∧ shows 0x3D0 2 x.reflected.toNat ∧ shows 0x3D2 2 0 ∧ shows 0x3D4 4 x.peak.toNat) ∧
      shows 0x3D8 4 (bit s.link.hold.isSome + 2 * bit s.link.latency.isSome + 4 * bit s.link.telemetry.isSome) ∧
      shows 0x3DC 4 0) ∧
    (shows 0x3E0 4 s.faults.status.toNat ∧ shows 0x3E4 4 s.faults.repeated.toNat ∧
      shows 0x3E8 4 s.sections.station.mask.toNat ∧ (∀ k : FaultKind, shows (0x3EC + k.code) 1 (s.classOf k).code) ∧
      shows 0x3FE 1 (bit s.faults.multiple) ∧ shows 0x3FF 1 (bit s.faults.first.isSome) ∧
      (∀ f, s.faults.first = some f → shows 0x400 4 f.kind.code ∧ shows 0x404 4 f.raisedBy.code ∧
        shows 0x408 8 f.time.toNat ∧ shows 0x410 8 f.subject.toNat ∧
        (f.snapshot.length = 16 → slice (mirrorBytes s) 0x418 16 = f.snapshot) ∧ shows 0x428 2 f.message.toNat) ∧
      shows 0x42A 38 0) ∧
    shows 0x450 4 s.log.head.toNat ∧ shows 0x454 4 s.log.dropped ∧ shows 0x458 8 0 ∧
    slice (mirrorBytes s) 0x460 1 = [BitVec.ofNat 8 (packBits (s.gpi.toList.map GpiLine.accepted))] ∧
    shows 0x461 1 (bit (gpo s).callerOnAir + 2 * bit (gpo s).delaySafe + 4 * bit (gpo s).alertOnAir +
      8 * bit (gpo s).stationFault) ∧
    shows 0x462 926 0

/-! ## Clock, station time, studio lines -/

/-- CLOCK_SELECT by the table of R21. An undefined source is refused. With no switch pending: INTERNAL does nothing in
ON_INTERNAL, ends a qualification at once, and makes a switch away from ON_EXTERNAL pending; a source changes nothing
in its own QUALIFYING and ON_EXTERNAL, LINK with no UP active port is refused PORT_DOWN, and else the source enters
QUALIFYING, at once or, from ON_EXTERNAL, at the boundary. With a switch pending the request is decided against what
that brings, and its own switch replaces it and waits for that boundary, where the table says 'at once' too (log entry
17); the source in use, not lost, cancels it (R21). CLOCK_SWITCH makes the pending switch: a qualified source runs
ON_EXTERNAL, a lost one falls back to ON_INTERNAL or, with auto-return SET, to QUALIFYING, with both counts 0. Each
change of state hands CLOCK_STATE with its cause (R22, R23, R25; that a request which replaced a loss gives cause
REQUEST is log entry 59). -/
def Obligations.ClockSwitchesByRequest : Prop :=
  (∀ (s : State) (w : Word), 2 < w.toNat → clockSelect w s = (.badArgument, s)) ∧
  (∀ (s : State) (w : Word) (x : ClockSource), (w = 1 ∧ x = .house) ∨ (w = 2 ∧ x = .link) →
     let atOnce (st : ClockState) : State := handLog (clockEntry s.clock.state st .request s.time)
       { s with clock := { s.clock with
         state := st, good := 0, badRun := 0, pending := none, lost := false, mark := none, missed := 0 } }
     let pends (st : ClockState) : State := { s with clock := { s.clock with pending := some (.requested st) } }
     let usable := x = .house ∨ s.link.activePort.state = .up
     (s.clock.pending = none →
       (s.clock.state = .onInternal → clockSelect 0 s = (.done, s) ∧
         (usable → clockSelect w s = (.done, atOnce (.qualifying x))) ∧ (¬usable → clockSelect w s = (.portDown, s))) ∧
       (∀ y, s.clock.state = .qualifying y → clockSelect 0 s = (.done, atOnce .onInternal) ∧
         (y = x → clockSelect w s = (.done, s)) ∧ (y ≠ x → usable → clockSelect w s = (.done, atOnce (.qualifying x))) ∧
         (y ≠ x → ¬usable → clockSelect w s = (.portDown, s))) ∧
       (∀ y, s.clock.state = .onExternal y → clockSelect 0 s = (.done, pends .onInternal) ∧
         (y = x → clockSelect w s = (.done, s)) ∧ (y ≠ x → usable → clockSelect w s = (.done, pends (.qualifying x))) ∧
         (y ≠ x → ¬usable → clockSelect w s = (.portDown, s)))) ∧
     (∀ p, s.clock.pending = some p →
       let brings : ClockState := match p with
         | .requested st => st
         | .qualified y => .onExternal y
         | .lost y => if s.sections.station.autoReturn then .qualifying y else .onInternal
       (brings = .onInternal → clockSelect 0 s = (.done, s)) ∧
       (brings ≠ .onInternal → clockSelect 0 s = (.done, pends .onInternal)) ∧
       (s.clock.state = .onExternal x → s.clock.lost = false →
         clockSelect w s = (.done, { s with clock := { s.clock with pending := none } })) ∧
       (s.clock.state ≠ .onExternal x ∨ s.clock.lost = true →
         (brings = .qualifying x ∨ brings = .onExternal x → clockSelect w s = (.done, s)) ∧
         (brings ≠ .qualifying x → brings ≠ .onExternal x →
           (usable → clockSelect w s = (.done, pends (.qualifying x))) ∧
           (¬usable → clockSelect w s = (.portDown, s)))))) ∧
  (∀ (s : State) (p : PendingClock), s.clock.pending = some p →
     let st : ClockState := match p with
       | .requested st => st
       | .qualified x => .onExternal x
       | .lost x => if s.sections.station.autoReturn then .qualifying x else .onInternal
     let why : ClockCause := match p with
       | .requested _ => .request
       | .qualified _ => .qualified
       | .lost _ => .loss
     ∃ c : Clock, c.state = st ∧ c.good = 0 ∧ c.badRun = 0 ∧ c.pending = none ∧ c.trim = s.clock.trim ∧
       (c.mark = none ∨ ∃ x, st = .onExternal x ∧ c.mark = s.clock.mark) ∧
       (st = s.clock.state → Completes .clockSwitch s { s with clock := c }) ∧
       (st ≠ s.clock.state → Completes .clockSwitch s
         (handLog (clockEntry s.clock.state st why s.time) { s with clock := c })))

/-- A request taken alone in RUNNING, from a slot with no result outstanding, has its owner's effect; then the counter
takes the sequence number, the result goes out, and one REQUEST entry is handed with the kind, the slot, the sequence
number and the result code (R15, R16; that the entry is handed at the taking, while the result is still on its way, is
log entry 73, that a kind above 65,535 shows its low 16 bits log entry 114). One clause for each request command. -/
def Obligations.RequestsReachTheirOwners : Prop :=
  ∀ (s : State) (i : SlotNo) (q a b c : Word), s.survey.state = .running → s.outstanding i = false →
    Completes (.segmentSkip i q a) s (answer (requestOf i q 1 a 0 0) (segmentSkip a s)) ∧
    Completes (.callerOnAir i q a) s (answer (requestOf i q 2 a 0 0) (callerOnAir a s)) ∧
    Completes (.callerHold i q a) s (answer (requestOf i q 3 a 0 0) (callerHold a s)) ∧
    Completes (.callerDrop i q a) s (answer (requestOf i q 4 a 0 0) (callerDrop a s)) ∧
    Completes (.callerTake i q) s (answer (requestOf i q 5 0 0 0) (callerTake .request s)) ∧
    Completes (.callerQueue i q a b) s (answer (requestOf i q 6 a b 0) (callerQueue a b s)) ∧
    Completes (.delayEngage i q) s (answer (requestOf i q 7 0 0 0) (delayEngage s)) ∧
    Completes (.delayExit i q) s (answer (requestOf i q 8 0 0 0) (delayExit s)) ∧
    Completes (.delayDump i q) s (answer (requestOf i q 9 0 0 0) (dump (.slot i) s)) ∧
    Completes (.alertForward i q a b c) s (answer (requestOf i q 10 a b c) (alertForward a b c s)) ∧
    Completes (.alertCancel i q a b c) s (answer (requestOf i q 11 a b c) (alertCancel a b c s)) ∧
    Completes (.clockSelect i q a) s (answer (requestOf i q 12 a 0 0) (clockSelect a s)) ∧
    Completes (.linkSwitch i q a) s (answer (requestOf i q 13 a 0 0) (linkSwitch a s)) ∧
    Completes (.setTime i q a b) s (answer (requestOf i q 14 a b 0) (setTime a b s)) ∧
    Completes (.faultAck i q a) s (answer (requestOf i q 15 a 0 0) (faultAck a s)) ∧
    ∀ (r : Request) (code : ResultCode) (t : State),
      answer r (code, t) = handLog
        ⟨.request, .surveyUnit, 0, t.time, BitVec.ofNat 16 r.kind.toNat, BitVec.ofNat 64 r.slot.val, r.seq,
          BitVec.ofNat 32 code.code⟩
        { t with survey := { t.survey with
          counter := r.seq, results := t.survey.results ++ [resultOf r code t.time t.running] } }

/-- SET_TIME with bits 16 to 31 of its second word set is refused; any other value becomes pending, and replaces a
pending one (R27). At the boundary the pending value takes the place of the station time; one TIME_SET entry is
handed, with the value the boundary would have given as the old and the pending value as the new, and every timer kept
as a relative duration keeps what remains of it, while received and aired times and the capture stamps already taken
stay (R27, R28, R30). -/
def Obligations.SetTimeIsAppliedAtTheBoundary : Prop :=
  (∀ (s : State) (low high : Word),
     (high.toNat < 65536 → ∃ t : Time, t.toNat = low.toNat + 4294967296 * high.toNat ∧
       setTime low high s = (.done, { s with pendingTime := some t })) ∧
     (65536 ≤ high.toNat → setTime low high s = (.badArgument, s))) ∧
  (∀ (s : State) (new : Time), s.pendingTime = some new →
     ∃ e t, Completes .setTimeApplied s (handLog e t) ∧
       (e.kind = .timeSet ∧ e.fromUnit = .stationClock ∧ e.time = new ∧ e.subject.toNat = s.time.toNat ∧
         e.detail0.toNat + 4294967296 * e.detail1.toNat = new.toNat) ∧
       t.time = new ∧ t.pendingTime = none ∧
       (∀ n, (s.entry n).state ≠ .free →
         (t.entry n).expiry - t.time = (s.entry n).expiry - s.time ∧
         (t.entry n).holdUntil.map (· - t.time) = (s.entry n).holdUntil.map (· - s.time) ∧
         (t.entry n).deadline.map (· - t.time) = (s.entry n).deadline.map (· - s.time) ∧
         (t.entry n).received = (s.entry n).received ∧ (t.entry n).airedStart = (s.entry n).airedStart ∧
         (t.entry n).airedEnd = (s.entry n).airedEnd) ∧
       t.link.hold.map (· - t.time) = s.link.hold.map (· - s.time) ∧
       t.link.slip.map (· - t.time) = s.link.slip.map (· - s.time) ∧ t.link.base = new ∧
       (∀ n, (s.gpi.get n).count ≠ 1 → t.gpi.get n = s.gpi.get n) ∧
       t.alerts.queue = s.alerts.queue ∧ t = { s with
         time := new, pendingTime := none, alerts := t.alerts, link := t.link, gpi := t.gpi })

/-- Reference marks. A mark within its window is good: in QUALIFYING it adds one to the good-mark count, the 200th
making the switch to ON_EXTERNAL pending, and in ON_EXTERNAL it sets the bad-run count to 0. A bad or missing mark
sets the good-mark count to 0, or adds one to the bad-run count; the fourth in a row loses the reference at once:
CLOCK_LOSS is raised with the source as its subject and a switch away is pending, and further ones count and raise
nothing until that boundary (R19, R20, R22, R23, R179). A mark sets P, and for LINK C; a missing house mark moves P on
one block, a missing LINK mark leaves P and C. The first mark sets P and is judged neither way; a LINK frame with an
advance of 0 is no mark (R19, R20). The return frames of the active port carry the LINK marks (R20). -/
def Obligations.ReferenceMarksAreJudged : Prop :=
  (∀ (s : State) (x : ClockSource) (arrival : Nat) (count : Word),
     let after (t : State) : Prop := match x with
       | .house => Completes (.houseMark arrival) s t
       | .link => linkMark count arrival s = t
     let moved (c : Clock) : Clock := { c with
       mark := some ⟨arrival, match x with | .house => 0 | .link => count⟩, missed := 0 }
     (s.clock.mark = none → s.clock.state = .qualifying x ∨ s.clock.state = .onExternal x →
       after { s with clock := moved s.clock }) ∧
     (s.clock.state ≠ .qualifying x → s.clock.state ≠ .onExternal x → after s) ∧
     ∀ m, s.clock.mark = some m → m.pos ≤ arrival →
       let d := arrival - m.pos
       let n := (count - m.count).toNat
       let inWindow := match x with
         | .house => 245515 ≤ d ∧ d ≤ 246005
         | .link => 1 ≤ n ∧ n ≤ 16 ∧ n * (245760 - 245) ≤ d ∧ d ≤ n * (245760 + 245)
       let outside := match x with
         | .house => d < 245515
         | .link => 16 < n ∨ (1 ≤ n ∧ (d < n * (245760 - 245) ∨ n * (245760 + 245) < d))
       (x = .link → n = 0 → after s) ∧
       (s.clock.state = .qualifying x → s.clock.pending = none →
         (inWindow → after { s with clock := moved { s.clock with
           good := s.clock.good + 1
           pending := if 200 ≤ s.clock.good + 1 then some (.qualified x) else none } }) ∧
         (outside → after { s with clock := moved { s.clock with good := 0 } })) ∧
       (s.clock.state = .onExternal x →
         (inWindow → after { s with clock := moved { s.clock with badRun := 0 } }) ∧
         (outside →
           (s.clock.lost = false → s.clock.badRun < 3 →
             after { s with clock := moved { s.clock with badRun := s.clock.badRun + 1 } }) ∧
           (s.clock.lost = false → 3 ≤ s.clock.badRun →
             after { raise ⟨.clockLoss, .stationClock, BitVec.ofNat 64 x.code, 0, 0, zeros16⟩ s with
               clock := moved { s.clock with badRun := 4, pending := some (.lost x), lost := true } }) ∧
           (s.clock.lost = true → after { s with clock := moved s.clock })))) ∧
  (∀ (s : State) (x : ClockSource) (m : Mark) (now : Nat), s.clock.mark = some m →
     let after (t : State) : Prop := match x with
       | .house => Completes (.houseMarkMissing now) s t
       | .link => Completes (.linkMarkMissing now) s t
     let missed (c : Clock) : Clock := match x with
       | .house => { c with mark := some { m with pos := m.pos + 245760 } }
       | .link => { c with missed := c.missed + 1 }
     let late := match x with
       | .house => m.pos + 246005 ≤ now
       | .link => m.pos + (2 + s.clock.missed) * 245760 + 245 < now
     (¬late → after s) ∧
     (late →
       (s.clock.state = .qualifying x → s.clock.pending = none →
         after { s with clock := missed { s.clock with good := 0 } }) ∧
       (s.clock.state = .onExternal x →
         (s.clock.lost = false → s.clock.badRun < 3 →
           after { s with clock := missed { s.clock with badRun := s.clock.badRun + 1 } }) ∧
         (s.clock.lost = false → 3 ≤ s.clock.badRun →
           after { raise ⟨.clockLoss, .stationClock, BitVec.ofNat 64 x.code, 0, 0, zeros16⟩ s with
             clock := missed { s.clock with badRun := 4, pending := some (.lost x), lost := true } }) ∧
         (s.clock.lost = true → after { s with clock := missed s.clock })))) ∧
  ∀ (s : State) (p : PortId) (bs : List Byte) (arrival : Nat), returnFrameRight bs = true →
    returnSite bs = s.sections.station.siteAddress →
    ∃ t, Completes (.returnFrame p bs arrival) s t ∧
      (p = s.link.active → t.clock = (linkMark (returnMarks bs) arrival s).clock) ∧
      (p ≠ s.link.active → t.clock = s.clock)

/-- The fourth consecutive differing sample of a line, and no earlier one, makes the new level due for acceptance; the
first sets the capture stamp, and a sample equal to the accepted level starts the count again (R30; that the
acceptance is a command of its own is log entry 39). An accepted level, by the sense of the line: a change to the
active level is active, and BOTH with LOG_ONLY takes either for active and is always armed; an inactive change arms
the line and an active one disarms it. An active change of an armed line with a function fires it: the owner acts at
once, and one GPI entry holds the new level, the capture stamp and the owner's result. With function NONE, on a line
not armed, or with an inactive change, nothing is dispatched or written (R29, R31 to R34; that the entry precedes what
the owner logs is log entry 28). At the return of SAFE, here by a DELAY_ENGAGE taken in EXITING, the one line that
holds a level DUMP active fires for itself: its GPI entry carries REFIRE and the station time of the block, and the
dump follows (after the DELAY_STATE entry: log entry 109); a line under an edge sense, of another function or at its
inactive level does not (R32; that a line active without an activation is among those held is log entry 74; for
several held lines see log entry 86). -/
def Obligations.StudioLinesAreDebouncedAndFired : Prop :=
  (∀ (l : GpiLine) (level : Bool) (now : Time),
     (level = l.accepted → (l.sample now level).count = 0 ∧ (l.sample now level).due = l.due ∧
       (l.sample now level).stamp = l.stamp) ∧
     (level ≠ l.accepted →
       (l.count < 3 → (l.sample now level).count = l.count + 1 ∧ (l.sample now level).due = l.due) ∧
       (l.count = 3 → (l.sample now level).count = 0 ∧ (l.sample now level).due = true) ∧
       (l.count = 0 → (l.sample now level).stamp = now) ∧ (0 < l.count → (l.sample now level).stamp = l.stamp)) ∧
     (l.sample now level).accepted = l.accepted) ∧
  (∀ (s : State) (n : GpiNo), (s.gpi.get n).due = true →
     let g := s.sections.station.gpi.get n
     let l := s.gpi.get n
     let level := !l.accepted
     let either := g.sense = .both ∧ g.function = .logOnly
     let active := either ∨ (match g.sense with
       | .rising | .levelHigh => level = true
       | .falling | .levelLow | .both => level = false)
     let after (armed : Bool) : State := { s with gpi := s.gpi.set n { l with
       accepted := level, due := false, armed := armed } }
     let owner : State → ResultCode × State := match g.function with
       | .dump => dump (.line n)
       | .takeCaller => callerTake .button
       | .dropCallers => dropCallers
       | .alertForward => forwardButton
       | .alertCancel => cancelButton
       | .skip => skipPlaying
       | .none | .logOnly => fun u => (.done, u)
     (¬active → Completes (.gpiLevelAccepted n) s (after true)) ∧
     (active → ∃ armed, (armed = true ↔ either) ∧
       (g.function = .none ∨ l.armed = false → Completes (.gpiLevelAccepted n) s (after armed)) ∧
       (g.function ≠ .none → l.armed = true → Completes (.gpiLevelAccepted n) s
         (owner (handLog (gpiEntry n g level l.stamp (owner (after armed)).1 false) (after armed))).2))) ∧
  (∀ (s : State) (n : GpiNo), (s.gpi.get n).due = false → Ignored (.gpiLevelAccepted n) s) ∧
  ∀ s : State, s.delay.state = .exiting → s.onProgramme = true →
    let t := s.sections.station.target
    let u : State := { s with delay := { s.delay with state :=
      if s.delay.mem.length < t then .building else if s.delay.mem.length = t then .holding else .squeezing } }
    let v := handLog (delayStateEntry .exiting .request u) u
    let holds (n : GpiNo) : Prop := (s.sections.station.gpi.get n).function = .dump ∧
      (((s.sections.station.gpi.get n).sense = .levelHigh ∧ (s.gpi.get n).accepted = true) ∨
        ((s.sections.station.gpi.get n).sense = .levelLow ∧ (s.gpi.get n).accepted = false))
    min s.sections.station.dumpSize t ≤ s.delay.mem.length →
      ((∀ n, ¬holds n) → delayEngage s = (.done, v)) ∧
      ∀ n, holds n → (∀ m, m ≠ n → ¬holds m) →
        let entry := gpiEntry n (s.sections.station.gpi.get n) (s.gpi.get n).accepted s.time .done true
        delayEngage s = (.done, (dump (.line n) (handLog entry v)).2)

/-! ## The block, the mix and the ramps -/

/-- At each block boundary, in every part state, station time rises by 240 modulo 2⁴⁸, and the air block just
completed is handed on with the station time of its own start (R26, R98, R164). What else the command leaves is the
model's division of a boundary (log entry 4): a SET_TIME still pending, the fault state, the delay line's memory and
the queues stay, and the block that begins is the mixer's input. -/
def Obligations.BoundaryRaisesStationTime : Prop :=
  ∀ (s : State) (i : BlockInput),
    ∃ t, Completes (.blockBoundary i) s t ∧ t.time = s.time + 240 ∧ t.pendingTime = s.pendingTime ∧
      (∃ b, t.air.block = some b ∧ b.time = s.time ∧ b.frames.length = 240 ∧ b.flags = t.link.airFlags) ∧
      t.mixer.output.length = 240 ∧ t.mixer.input = i ∧ t.survey.state = s.survey.state ∧
      t.survey.applied = s.survey.applied ∧ t.sections = s.sections ∧ t.walker.ptr = s.walker.ptr ∧
      t.faults = s.faults ∧ t.delay.mem = s.delay.mem ∧ t.delay.state = s.delay.state ∧
      t.alerts.queue = s.alerts.queue ∧ t.callers.queue = s.callers.queue ∧ t.callers.onAir = s.callers.onAir ∧
      t.link.queue = s.link.queue ∧ t.link.nextSeq = s.link.nextSeq

/-- The mixer's unsaturated sums: each channel adds the sample times the gain in force of deck A, deck B, the studio
input and the run-out fill, and the one product of each caller line, whose sample is 0 while its framing is LOST (R72,
R92). They lie within ±2⁴¹ whatever the samples, when no gain is above unity, and the programme sample is the sum over
32,768 with floor, saturated (R93). The boundary hands on the mix, the air block and a return stream for each caller
line by its state at the start of the block that ends: on air its mix-minus, both sums less its own products over
65,536 with floor, saturated; in SCREENING and HOLD the hold feed of the air output at the hold gain in force; else
silence (R88, R94; that the hold gain in force is the section 5 copy's from the next boundary is log entry 63, that
the state at the start is the one before the later events of that boundary log entry 110). -/
def Obligations.MixSumsStayExact : Prop :=
  (∀ (s : State) (i : Nat),
    let x (fs : List Frame) (r : Ramp) : Int := (frameAt fs i).l.toInt * (r.blk : Int)
    let y (fs : List Frame) (r : Ramp) : Int := (frameAt fs i).r.toInt * (r.blk : Int)
    let caller (n : LineNo) : Int := if (s.line n).framingGood then
      (sampleAt (s.mixer.input.callers.get n) i).toInt * ((s.mixer.line.get n).blk : Int) else 0
    let callers := caller 0 + caller 1 + caller 2 + caller 3
    (s.sums i).1 = x s.mixer.deckFrames.a s.mixer.deckRamp.a + x s.mixer.deckFrames.b s.mixer.deckRamp.b +
      x s.mixer.input.studio s.mixer.studio + x s.decks.fillBlock s.mixer.fill + callers ∧
    (s.sums i).2 = y s.mixer.deckFrames.a s.mixer.deckRamp.a + y s.mixer.deckFrames.b s.mixer.deckRamp.b +
      y s.mixer.input.studio s.mixer.studio + y s.decks.fillBlock s.mixer.fill + callers) ∧
  (∀ (s : State) (input : BlockInput),
    ∃ t, Completes (.blockBoundary input) s t ∧ t.mixer.output = s.mixBlock ∧
      (∃ b, t.air.block = some b ∧ b.frames = s.airFrames) ∧ t.callers.holdGain = s.sections.callers.holdGain ∧
      ∀ n, (t.line n).atStart = (t.line n).state ∧ (t.line n).state = (s.line n).state ∧
        (t.mixer.returns.get n).length = 240 ∧ ∀ i, i < 240 →
          let z := (sampleAt (t.mixer.returns.get n) i).toInt
          let own : Int := if (s.line n).framingGood then
            (sampleAt (s.mixer.input.callers.get n) i).toInt * ((s.mixer.line.get n).blk : Int) else 0
          let air := frameAt s.airFrames i
          let h : Int := s.callers.holdGain
          ((s.line n).atStart = .onAir →
            z = max (-8388608) (min 8388607 (((s.sums i).1 - own + ((s.sums i).2 - own)) / 65536))) ∧
          ((s.line n).atStart = .screening ∨ (s.line n).atStart = .hold → h ≤ 32768 →
            z = (air.l.toInt * h + air.r.toInt * h) / 65536) ∧
          ((s.line n).atStart = .idle ∨ (s.line n).atStart = .clearing ∨ (s.line n).atStart = .outOfService → z = 0)) ∧
  ∀ s : State,
    (∀ d, (s.mixer.deckRamp.get d).blk ≤ 32768) → s.mixer.studio.blk ≤ 32768 → s.mixer.fill.blk ≤ 32768 →
    (∀ n, (s.mixer.line.get n).blk ≤ 32768) →
    ∀ i, -(2 ^ 41) ≤ (s.sums i).1 ∧ (s.sums i).1 ≤ 2 ^ 41 ∧ -(2 ^ 41) ≤ (s.sums i).2 ∧ (s.sums i).2 ≤ 2 ^ 41 ∧
      (i < 240 → (frameAt s.mixBlock i).l.toInt = max (-8388608) (min 8388607 ((s.sums i).1 / 32768)) ∧
        (frameAt s.mixBlock i).r.toInt = max (-8388608) (min 8388607 ((s.sums i).2 / 32768)))

/-- A ramp of n blocks started during a block lands exactly on its target at its n-th boundary, is complete at the
boundary after, and never leaves the span between its ends (R90). -/
def Obligations.RampLandsOnItsTarget : Prop :=
  ∀ (r : Ramp) (target n : Nat), 0 < n →
    (Ramp.tick^[n] (r.start target n)).g = target ∧ (Ramp.tick^[n] (r.start target n)).blk = target ∧
    (Ramp.tick^[n] (r.start target n)).complete = false ∧ (Ramp.tick^[n + 1] (r.start target n)).complete = true ∧
    ∀ k, min r.g target ≤ (Ramp.tick^[k] (r.start target n)).g ∧ (Ramp.tick^[k] (r.start target n)).g ≤ max r.g target

/-! ## Order walker and record writes -/

/-- In RUNNING with demand and an order, a walk begins at the cue pointer for a record to examine, and for a waiting
walker once 20 blocks have passed since its last read, or demand has arisen anew, or this block's survey pass has
found the header edition changed and is over; that change is forgotten at the boundary, unless the pass is still in
progress (R44; log entries 75, 87 and 88). A valid READY AUDIO record is cued into the deck of demand, A when both are
open and else the open one: the deck is LOADING with the clamped copy, its frames played 0, its fetch at buffer plus
cue-in; the CUED write begins with the deck letter, the pointer goes on to the next record, and with none the walker
is in AT_END (R43, R45, R55). A DRAFT holds the order where it stands (R46). A record in a final state, or in CUED or
PLAYING and held by a deck, is passed without a write; one in CUED or PLAYING that no deck holds keeps its part half
as read, with STALE, and is ABANDONED; one with no such state value, and a READY record that fails a check, is FAULTED
with BAD_RECORD, and RECORD_BAD is raised with the record's address, its reason (the numbers are log entry 14) and its
first 16 bytes; the marked ones hand SEGMENT_END (R40, R41, R45, R46). Then the walker follows next: with none it is
in AT_END, where a later walk looks at next alone; else it goes on to that record, and where that would be a 65th link
it stops in CHAIN_WAIT at the record, its walk count 0, and RECORD_BAD is raised with CHAIN_LIMIT, after the
SEGMENT_END of a record marked by that read (R47, R48; log entry 98). That the SEGMENT_END of a record left behind has
the present station time, and not an aired end of its part half, is the model's (log entry 101). -/
def Obligations.WalksCueGoodRecordsAndFaultBadOnes : Prop :=
  (∀ s : State, s.survey.state = .running → s.demand = true → s.walker.walking = false → s.walker.state ≠ .noOrder →
     (s.walker.state = .toExamine → Completes .walkStart s { s with walker := { s.walker with
       walking := true, links := 0, wait := 0, lapsed := false } }) ∧
     (s.walker.state = .waitingDraft ∨ s.walker.state = .atEnd ∨ s.walker.state = .chainWait → 20 ≤ s.walker.wait →
       Completes .walkWaitExpired s { s with walker := { s.walker with
         walking := true, links := 0, wait := 0, lapsed := false } }) ∧
     (s.walker.lapsed = true ∨ (s.walker.surveyChanged = true ∧ s.survey.phase = .idle) → Completes .walkStart s { s with walker := { s.walker with
       walking := true, links := 0, wait := 0, lapsed := false } }) ∧
     (s.walker.state ≠ .toExamine → s.walker.lapsed = false → s.walker.surveyChanged = false → Ignored .walkStart s)) ∧
  (∀ (s : State) (i : BlockInput), ∃ t, Completes (.blockBoundary i) s t ∧
     t.walker.surveyChanged = (s.walker.surveyChanged && s.survey.phase.inPass)) ∧
  (∀ (s : State) (bs : List Byte) (f : SampleFormat) (d : DeckId),
     s.fresh .record → s.survey.state = .running → s.walker.walking = true → s.walker.state ≠ .atEnd →
     (s.deck d).state = .empty → (s.deck d).writes = [] →
     (s.deck d.other).state ≠ .loading → (s.deck d.other).state ≠ .ready →
     (d = .b → (s.deck .a).state ≠ .empty ∨ ∃ w ∈ (s.deck .a).writes, w.kept = true) →
     (hostHalfOf bs).state = 1 → validate (hostHalfOf bs) = .ok (.audio, f) →
     let h := hostHalfOf bs
     ∃ t, Completes (.recordReadDone (some bs)) s t ∧
       (t.deck d).state = .loading ∧ (t.deck d).addr = s.walker.ptr ∧ (t.deck d).played = 0 ∧
       (t.deck d).copy = { h with
         segue := min h.segue (h.length - h.cueIn), fadeIn := min h.fadeIn 2000, fadeOut := min h.fadeOut 2000
         gain := min h.gain 32768 } ∧
       (t.deck d).fetchPos = h.buffer + BitVec.ofNat 64 (h.cueIn * f.frameBytes) ∧
       (t.deck d).toFetch = h.length - h.cueIn ∧ (t.deck d).fifo = [] ∧ (t.deck d).decided = none ∧
       (∃ p, (t.deck d).writes = [⟨s.walker.ptr, p, .cued, .first, false⟩] ∧ p.cued = s.time ∧
         p.letter = (match d with | .a => 0 | .b => 1)) ∧
       t.deck d.other = s.deck d.other ∧ t.walker.walking = false ∧
       (h.next ≠ 0 → t.walker.ptr = h.next ∧ t.walker.state = .toExamine) ∧
       (h.next = 0 → t.walker.ptr = s.walker.ptr ∧ t.walker.state = .atEnd) ∧
       t = { s with decks := t.decks, walker := t.walker }) ∧
  (∀ (s : State) (bs : List Byte), s.fresh .record → s.survey.state = .running → s.walker.walking = true →
     s.walker.writes = [] →
     let h := hostHalfOf bs
     let a := s.walker.ptr
     let held := ∃ d, ((s.deck d).state ≠ .empty ∧ (s.deck d).addr = a) ∨ ∃ w ∈ (s.deck d).writes, w.addr = a
     let follows (ws : List RecordWrite) (u t : State) : Prop :=
       let bad := raise ⟨.recordBad, .orderWalker, a, 0, RecordReason.chainLimit.code, snapshot16 bs⟩ u
       t.walker.writes = ws ∧
       (h.next = 0 → t.walker.ptr = a ∧ t.walker.state = .atEnd ∧ t.walker.walking = false ∧
         t = { u with walker := t.walker }) ∧
       (h.next ≠ 0 → s.walker.links < 64 → t.walker.ptr = h.next ∧ t.walker.state = .toExamine ∧
         t.walker.walking = true ∧ t.walker.links = s.walker.links + 1 ∧ t = { u with walker := t.walker }) ∧
       (h.next ≠ 0 → 64 ≤ s.walker.links → t.walker.ptr = a ∧ t.walker.state = .chainWait ∧
         t.walker.walking = false ∧ t.walker.links = 0 ∧ t = { bad with walker := t.walker })
     let marked (p : PartHalf) (st : RecState) (u : State) : State :=
       handLog (segmentEntry .segmentEnd .orderWalker s.time a h.tag p st) u
     (s.walker.state = .atEnd → ∃ t, Completes (.recordReadDone (some bs)) s t ∧ follows [] s t) ∧
     (s.walker.state ≠ .atEnd →
       (h.state = 0 → ∃ t, Completes (.recordReadDone (some bs)) s t ∧ t.walker.ptr = a ∧
         t.walker.state = .waitingDraft ∧ t.walker.walking = false ∧ t.walker.writes = [] ∧
         t = { s with walker := t.walker }) ∧
       (h.state = 4 ∨ h.state = 5 ∨ h.state = 6 ∨ h.state = 7 ∨ (h.state = 2 ∨ h.state = 3) ∧ held →
         ∃ t, Completes (.recordReadDone (some bs)) s t ∧ follows [] s t) ∧
       (h.state = 2 ∨ h.state = 3 → ¬held →
         let p := { partHalfOf bs with reason := .stale }
         ∃ t, Completes (.recordReadDone (some bs)) s t ∧
           follows [⟨a, p, .abandoned, .first, false⟩] (marked p .abandoned s) t) ∧
       (∀ why, (8 ≤ h.state.toNat ∧ why = .stateValue) ∨ (h.state = 1 ∧ validate h = .error why) →
         ∃ t p, Completes (.recordReadDone (some bs)) s t ∧ p.flags.badRecord = true ∧ p.reason = .badRecord ∧ p.letter = 2 ∧ p.cued = s.time ∧
           follows [⟨a, p, .faulted, .first, false⟩]
             (marked p .faulted (raise ⟨.recordBad, .orderWalker, a, 0, why.code, snapshot16 bs⟩ s)) t)))

/-- A failed record read raises RECORD_BAD with reason READ_FAILED, the address and a snapshot of zeros, writes
nothing, leaves the pointer, enters CHAIN_WAIT and ends the walk, and does not count as a failed header read; after 20
more blocks with demand the same address is read again (R49, with the wait of R44). -/
def Obligations.FailedRecordReadWaitsAtTheAddress : Prop :=
  ∀ s : State, s.fresh .record → s.walker.walking = true →
    ∃ t, Completes (.recordReadDone none) s t ∧ t.walker.ptr = s.walker.ptr ∧ t.walker.state = .chainWait ∧
      t.walker.walking = false ∧ t.walker.writes = s.walker.writes ∧ t.survey.failedReads = s.survey.failedReads ∧
      t = { raise ⟨.recordBad, .orderWalker, s.walker.ptr, 0, RecordReason.readFailed.code, zeros16⟩ s with
        walker := t.walker } ∧
      ∀ u : State, u.survey.state = .running → u.demand = true → u.walker = { t.walker with wait := 20 } →
        ∃ v, Completes .walkWaitExpired u v ∧ v.walker.walking = true ∧ v.walker.ptr = s.walker.ptr

/-- A record write is made part half first and state word last; a failed one raises WRITE_ERROR and is held, and one
attempt is made in each RUNNING block from its part half. The record's deck is not cued into until the held write has
completed good, an attempt at it being in flight or not; a newer write of the record takes its place, held: one that
comes later, and the newest of those that waited behind it when it failed, when it was left outside RUNNING with its
part half alone, and at entry to DETACHED (R8, R39). It takes the place of the failed one, before the writes of other
records that waited, and so is what the next RUNNING block attempts (log entry 23). A held write that waits behind
another record's write in flight is replaced in the same way, and one that was never held is not (R39). The walker's
own failed write is not held (R39, R43). -/
def Obligations.RecordWritesGoHalfThenState : Prop :=
  (∀ (s : State) (d : DeckId) (w : RecordWrite), s.survey.state = .running →
    (s.fresh (.recordWrite d) → (s.deck d).writes = [{ w with phase := .first }] →
      ∃ t, Completes (.recordWriteDone d true) s t ∧ (t.deck d).writes = [{ w with phase := .last }] ∧
        t = { s with decks := t.decks, walker := t.walker } ∧ t.deck d.other = s.deck d.other) ∧
    (s.fresh (.recordWrite d) → (s.deck d).writes = [{ w with phase := .last }] →
      ∃ t, Completes (.recordWriteDone d true) s t ∧ (t.deck d).writes = [] ∧ t.deck d.other = s.deck d.other ∧
        t = { s with decks := t.decks, walker := t.walker }) ∧
    (s.fresh (.recordWrite d) → (s.deck d).writes = [{ w with phase := .first }] ∨
        (s.deck d).writes = [{ w with phase := .last }] →
      ∃ t, Completes (.recordWriteDone d false) s t ∧ (t.deck d).writes = [{ w with phase := .held, kept := true }] ∧
        (t.deck d).open = false ∧
        t = { writeError (deckUnit d) s with decks := t.decks, walker := t.walker } ∧ t.deck d.other = s.deck d.other) ∧
    ((s.deck d).writes = [{ w with phase := .held, kept := true }] →
      ((s.deck d).writeTried = true → Ignored (.heldWriteRetry d) s) ∧
      ((s.deck d).writeTried = false →
        ∃ t, Completes (.heldWriteRetry d) s t ∧ (t.deck d).writes = [{ w with phase := .first, kept := true }] ∧
          (t.deck d).open = false ∧ (t.deck d).writeTried = true ∧ t = { s with decks := t.decks } ∧
          t.deck d.other = s.deck d.other)) ∧
    (s.fresh .walkerWrite → s.walker.writes = [{ w with phase := .last }] →
      Completes (.walkerWriteDone true) s { s with walker := { s.walker with writes := [] } } ∧
      Completes (.walkerWriteDone false) s
        { writeError .orderWalker s with walker := { s.walker with writes := [] } })) ∧
  (∀ (s : State) (d : DeckId) (w x : RecordWrite) (ws : List RecordWrite), (∀ y ∈ ws ++ [x], y.addr = w.addr) →
    let held : RecordWrite := { x with phase := .held, kept := true }
    let inFlight (p : WritePhase) := (s.deck d).writes = { w with phase := p } :: (ws ++ [x])
    (s.fresh (.recordWrite d) → inFlight .first ∨ inFlight .last →
      ∃ t, Completes (.recordWriteDone d false) s t ∧ (t.deck d).writes = [held]) ∧
    (s.fresh (.recordWrite d) → s.survey.state ≠ .running → inFlight .first →
      ∃ t, Completes (.recordWriteDone d true) s t ∧ (t.deck d).writes = [held]) ∧
    (s.fresh .header → s.survey.state = .running → s.survey.phase = .editionWord → s.survey.failedReads = 2 →
      ∃ t, Completes (.headerReadDone none) s t ∧ t.survey.state = .detached ∧
        (inFlight .first → (t.deck d).writes = [{ w with phase := .first }, held]) ∧
        (inFlight .held → (t.deck d).writes = [held]))) ∧
  (∀ (s : State) (d : DeckId) (w x : RecordWrite) (ys zs : List RecordWrite), x.addr = w.addr →
    (∀ z ∈ zs, z.addr ≠ w.addr) →
    let held : RecordWrite := { x with phase := .held, kept := true }
    let others := (ys ++ zs).filter (fun y => y.addr != w.addr)
    (s.fresh (.recordWrite d) → w.phase = .first ∨ w.phase = .last → (s.deck d).writes = w :: (ys ++ x :: zs) →
      ∃ t, Completes (.recordWriteDone d false) s t ∧ (t.deck d).writes = held :: others) ∧
    (s.survey.state = .running → (s.deck d).writeTried = false → (s.deck d).writes = held :: others →
      ∃ t, Completes (.heldWriteRetry d) s t ∧ (t.deck d).writes = { held with phase := .first } :: others ∧
        t = { s with decks := t.decks } ∧ t.deck d.other = s.deck d.other)) ∧
  (∀ (w x : RecordWrite) (half : PartHalf) (st : RecState), w.phase = .waiting → x.addr ≠ w.addr →
    x.phase = .first ∨ x.phase = .last →
    (w.kept = true → pushWrite true w.addr half st [x, w] = [x, ⟨w.addr, half, st, .waiting, true⟩]) ∧
    (w.kept = false → pushWrite true w.addr half st [x, w] = [x, w, ⟨w.addr, half, st, .waiting, false⟩])) ∧
  ∀ (w : RecordWrite),
    (w.phase = .first → w.onBus = [⟨w.addr + 0x40, w.half.bytes⟩]) ∧
    (w.phase = .last → w.onBus = [⟨w.addr + 8, leBytes 4 w.state.code⟩]) ∧
    (w.phase = .held → ∀ (running : Bool) (half : PartHalf) (st : RecState),
      pushWrite running w.addr half st [w] = [⟨w.addr, half, st, .held, true⟩])

/-! ## Fetch engine, decks, rescue store -/

/-- The idle engine reads for the requester of lowest fill: with deck A alone in want, the read starts at its fetch
position, covers at most 4,096 bytes, the bytes still to fetch and, less the bytes carried, the room of the FIFO (log
entry 19), and the position advances by it (R56, R57). A good fetch read joins its deck's FIFO as whole frames, the
bytes of a cut frame being carried; a read that was given up joins nothing (R57, R58). A failed fetch read of a deck
raises FETCH_ERROR with the record address, sets the flag and stops fetching for the cue: a PLAYING segment goes
ENDING with FAULTED decided; of the loader it empties the store, with the fill address (R64, R70; the details and
snapshots of zeros are log entry 14's). -/
def Obligations.FetchEngineServesJoinsAndFails : Prop :=
  (∀ s : State, s.fetch.inFlight = none →
     ((s.deck .a).wants s.sections.station.fetchMark = true → (s.deck .b).wants s.sections.station.fetchMark = false →
       s.rescue.wants = false →
       ∃ n t, Completes .fetchIssue s t ∧ t.fetch.inFlight = some ⟨.deck .a, (s.deck .a).fetchPos, n, true⟩ ∧
         n ≤ 4096 ∧ n + (s.deck .a).carry.length ≤ max ((s.deck .a).toFetch * (s.deck .a).format.frameBytes)
           (s.deck .a).carry.length ∧
         n ≤ (16384 - (s.deck .a).fifo.length) * (s.deck .a).format.frameBytes - (s.deck .a).carry.length ∧
         (t.deck .a).fetchPos = (s.deck .a).fetchPos + BitVec.ofNat 64 n ∧
         t = { s with fetch := t.fetch, decks := t.decks } ∧ t.deck .b = s.deck .b) ∧
     ((s.deck .a).wants s.sections.station.fetchMark = true → (s.deck .b).wants s.sections.station.fetchMark = true →
       ((s.deck .b).fifo.length < (s.deck .a).fifo.length → (s.deck .b).fifo.length < 16384 →
         s.chosen = some (.deck .b)) ∧
       ((s.deck .a).fifo.length < (s.deck .b).fifo.length → (s.deck .a).fifo.length < 16384 →
         s.chosen = some (.deck .a)))) ∧
  (∀ (s : State) (d : DeckId) (a : Addr) (n : Nat) (data : List Byte), data.length = n →
     (s.fetch.inFlight = some ⟨.deck d, a, n, true⟩ →
       let all := (s.deck d).carry ++ data
       ∃ t, Completes (.fetchReadDone data) s t ∧ t.fetch.inFlight = none ∧
         (t.deck d).fifo = (s.deck d).fifo ++ framesOf (s.deck d).format all ∧
         (t.deck d).toFetch = (s.deck d).toFetch - all.length / (s.deck d).format.frameBytes ∧
         (t.deck d).carry.length = all.length % (s.deck d).format.frameBytes ∧
         t = { s with fetch := t.fetch, decks := t.decks } ∧ t.deck d.other = s.deck d.other) ∧
     (s.fetch.inFlight = some ⟨.deck d, a, n, false⟩ →
       Completes (.fetchReadDone data) s { s with fetch := ⟨none⟩ })) ∧
  (∀ (s : State) (d : DeckId) (a : Addr) (n : Nat),
     (s.fetch.inFlight = some ⟨.deck d, a, n, true⟩ → (s.deck d).state = .playing →
       ∃ t, Completes .fetchReadFailed s t ∧ (t.deck d).state = .ending ∧ (t.deck d).noMore = true ∧
         (t.deck d).decided = some (.faulted, .fetchError) ∧ (t.deck d).part.flags.fetchError = true ∧
         (t.deck d).fifo = (s.deck d).fifo ∧ t.deck d.other = s.deck d.other ∧
         t = { raise ⟨.fetchError, deckUnit d, (s.deck d).addr, 0, 0, zeros16⟩ s with
           fetch := ⟨none⟩, decks := t.decks }) ∧
     (s.fetch.inFlight = some ⟨.loader, a, n, true⟩ →
       ∃ t, Completes .fetchReadFailed s t ∧ t.rescue.state = .empty ∧ t.rescue.frames = [] ∧
         t = { raise ⟨.fetchError, .rescueStore, s.rescue.fill, 0, 0, zeros16⟩ s with
           fetch := ⟨none⟩, rescue := t.rescue }))

/-- Samples are converted as they join a deck's FIFO, frame by frame in order, as many whole frames as the bytes hold,
and each frame from its own bytes as the row of its format says: a 16-bit value times 256, a 24-bit value as is, a
32-bit value shifted right arithmetically by 8, the big-endian container with its bytes the other way round (R58). -/
def Obligations.SamplesConvertByFormat : Prop :=
  (∀ (k : Deck) (bs : List Byte), (k.join bs).fifo = k.fifo ++ framesOf k.format (k.carry ++ bs)) ∧
  (SampleFormat.frameBytes .s16leMono = 2 ∧ SampleFormat.frameBytes .s16leStereo = 4 ∧
    SampleFormat.frameBytes .s24leStereo = 6 ∧ SampleFormat.frameBytes .s32leStereo = 8 ∧
    SampleFormat.frameBytes .s32beStereo = 8) ∧
  (∀ (f : SampleFormat) (bs : List Byte), (framesOf f bs).length = bs.length / f.frameBytes ∧
    ∀ i, i < bs.length / f.frameBytes →
      framesOf f (slice bs (i * f.frameBytes) f.frameBytes) = [frameAt (framesOf f bs) i]) ∧
  ∀ b0 b1 b2 b3 b4 b5 b6 b7 : Byte,
    let s16 : BitVec 16 := b1 ++ b0
    let s32 : BitVec 32 := b3 ++ b2 ++ b1 ++ b0
    (∃ x : Sample, framesOf .s16leMono [b0, b1] = [⟨x, x⟩] ∧ x.toInt = s16.toInt * 256) ∧
    (∃ x y : Sample, framesOf .s16leStereo [b0, b1, b2, b3] = [⟨x, y⟩] ∧ x.toInt = s16.toInt * 256 ∧
      y.toInt = (b3 ++ b2 : BitVec 16).toInt * 256) ∧
    framesOf .s24leStereo [b0, b1, b2, b3, b4, b5] = [⟨b2 ++ b1 ++ b0, b5 ++ b4 ++ b3⟩] ∧
    (∃ x y : Sample, framesOf .s32leStereo [b0, b1, b2, b3, b4, b5, b6, b7] = [⟨x, y⟩] ∧
      x.toInt = s32.toInt / 256 ∧ y.toInt = (b7 ++ b6 ++ b5 ++ b4 : BitVec 32).toInt / 256) ∧
    ∃ x y : Sample, framesOf .s32beStereo [b0, b1, b2, b3, b4, b5, b6, b7] = [⟨x, y⟩] ∧
      x.toInt = (b0 ++ b1 ++ b2 ++ b3 : BitVec 32).toInt / 256 ∧
      y.toInt = (b4 ++ b5 ++ b6 ++ b7 : BitVec 32).toInt / 256

/-- A READY record with no hard start starts at its natural start when no pause is in force: the other deck is EMPTY
or ENDING, or PLAYING with no more frames left than its segue, and goes on as it was. The record is PLAYING with its
aired start, its PLAYING write and SEGMENT_START, run-out ended and NO_FILL carried and cleared (R37, R40, R59, R69).
Its gain: the record gain from the first block, or the first step of its fade-in; a fade-out that is due at once
begins with it, from the gain in force (R60). A WAIT hard start that is reached cuts the PLAYING segment, which goes
ENDING with SKIPPED and HARD_START decided, and a READY record starts at that boundary, LATE when more than one block
late (R61). -/
def Obligations.RecordsStartAtTheirTime : Prop :=
  (∀ (s : State) (d : DeckId),
     let k := s.deck d
     let o := s.deck d.other
     let left := k.copy.length - k.copy.cueIn - k.played
     s.survey.state = .running → k.state = .ready → k.kind = .audio →
     k.copy.hardPresent = false → k.writes = [] → s.decks.pause = false →
     o.state = .empty ∨ o.state = .ending ∨ (o.state = .playing ∧ o.kind = .audio ∧
       o.copy.length ≤ o.copy.cueIn + o.played + o.copy.segue) →
     ∃ t, Completes (.segmentStart d) s t ∧ (t.deck d).state = .playing ∧ (t.deck d).part.airedStart = s.time ∧
       (t.deck d).part.flags.noFill = (k.part.flags.noFill || s.decks.noFill) ∧
       (t.deck d).writes = [⟨k.addr, (t.deck d).part, .playing, .first, false⟩] ∧
       t.decks.runOut = false ∧ t.decks.noFill = false ∧
       t.decks.lastStarted = some d ∧ t.deck d.other = o ∧ (t.deck d).fifo = k.fifo ∧
       (k.copy.fadeOut = 0 ∨ k.copy.fadeOut * 240 < left →
         (t.deck d).fading = false ∧ (t.mixer.deckRamp.get d).target = k.copy.gain ∧
         (k.copy.fadeIn = 0 → (t.mixer.deckRamp.get d).blk = k.copy.gain) ∧
         (0 < k.copy.fadeIn → (t.mixer.deckRamp.get d).blk = k.copy.gain / k.copy.fadeIn ∧
           (t.mixer.deckRamp.get d).m = k.copy.fadeIn - 1)) ∧
       (0 < k.copy.fadeOut → 0 < left → left ≤ k.copy.fadeOut * 240 →
         (t.deck d).fading = true ∧ (t.mixer.deckRamp.get d).target = 0 ∧
         (t.mixer.deckRamp.get d).m = (left + 239) / 240 - 1 ∧
         (k.copy.fadeIn = 0 →
           (t.mixer.deckRamp.get d).blk = k.copy.gain - k.copy.gain / ((left + 239) / 240))) ∧
       t.log = (handLog (segmentEntry .segmentStart (deckUnit d) s.time k.addr k.copy.tag (t.deck d).part .playing)
         s).log ∧
       t = { s with decks := t.decks, mixer := t.mixer, walker := t.walker, log := t.log }) ∧
  (∀ (s : State) (d : DeckId),
     (s.deck d).state = .ready → (s.deck d).copy.hardPresent = true → (s.deck d).copy.soft = false →
     (s.deck d).kind = .live → reached s.time (s.deck d).copy.hardTime = true → s.decks.pause = false →
     (s.deck d).owed = false → (s.deck d).fired = false → (s.deck d.other).state = .playing →
     ∃ t, Completes (.hardStart d) s t ∧ (t.deck d).state = .playing ∧ (t.deck d).part.airedStart = s.time ∧
       (t.deck d.other).state = .ending ∧ (t.deck d.other).decided = some (.skipped, .hardStart) ∧
       (t.deck d.other).fading = true ∧ (t.deck d.other).fifo = (s.deck d.other).fifo ∧
       (240 < (s.time - (s.deck d).copy.hardTime).toNat → (t.deck d).part.flags.late = true) ∧
       t.log = (handLog (segmentEntry .segmentStart (deckUnit d) s.time (s.deck d).addr (s.deck d).copy.tag
         (t.deck d).part .playing) s).log ∧
       t = { s with decks := t.decks, mixer := t.mixer, walker := t.walker, log := t.log })

/-- A PLAYING AUDIO deck takes the smaller of 240, its fill and its frames left; frames missing while it still fetches
are underrun frames, and the first underrun of a cue raises FETCH_LATE with the record address (R63). -/
def Obligations.DeckTakesItsFrames : Prop :=
  ∀ (s : State) (d : DeckId), (s.deck d).state = .playing ∨ (s.deck d).state = .ending → (s.deck d).kind = .audio →
    (s.deck d).blockTaken = false → (s.deck d).noMore = false →
    let k := s.deck d
    let left := k.copy.length - k.copy.cueIn - k.played
    let n := min (min 240 k.fifo.length) left
    ∃ t, Completes (.deckBlock d) s t ∧ t.mixer.deckFrames.get d = k.fifo.take n ∧ (t.deck d).fifo = k.fifo.drop n ∧
      (t.deck d).played = k.played + n ∧ (t.deck d).part.framesAired = k.part.framesAired + n ∧
      (t.deck d).part.underrunFrames = k.part.underrunFrames + (min 240 left - n) ∧
      (n < min 240 left → (t.deck d).part.flags.underrun = true ∧ (t.deck d).lateRaised = true) ∧
      (t.deck d).state = k.state ∧ t.deck d.other = s.deck d.other ∧
      t = { (if n < min 240 left ∧ k.lateRaised = false then raise ⟨.fetchLate, deckUnit d, k.addr, 0, 0, zeros16⟩ s
          else s) with decks := t.decks, mixer := t.mixer }

/-- A segment whose last frame has been played, whose last buffered frame has after a fetch error, or whose fade is
complete in ENDING from a cut or a skip, ends at the boundary: in the decided state with its reason when there is one,
else AIRED with COMPLETE, TRUNCATED when frames were left, its final write after its earlier ones, SEGMENT_END handed,
the deck EMPTY; before that it does not end. A LIVE or GAP ends so when its fade is complete, and one whose blocks
reach its duration AIRED with COMPLETE (R62, R64, R65); a record LOADING in the other deck whose start boundary that
is is owed its start (R40, R59, R62, R65; that a SOFT one is owed it only once its time has been reached is log entry
21). The aired end is the station time of the frame after the last: where the deck filled the block that ends, that of
the block that begins, a SET_TIME applied at the boundary counted (R26, R27, R37, R65; log entry 20). SEGMENT_SKIP: an
argument other than PLAYING and CUED is refused; with no target NOTHING_TO_SKIP is answered. With PLAYING, and for the
SKIP button, the target is the deck started last among those in PLAYING and PAUSED: a PLAYING one goes ENDING with
SKIPPED and SKIP decided and BY_REQUEST set; a PAUSED one ends at once, SKIPPED with SKIP and BY_REQUEST, its final
write and SEGMENT_END made. With CUED, the LOADING or READY record ends so, its aired start and end 0, and its
SEGMENT_END has the station time of the skip (R34, R66; log entry 42). -/
def Obligations.SegmentsEndAsDecided : Prop :=
  (∀ (s : State) (d : DeckId),
     let k := s.deck d
     let o := s.deck d.other
     let after := if o.state = .loading ∧ s.decks.pause = false ∧ (o.copy.hardPresent = false ∨
         (o.copy.soft = true ∧ reached s.time o.copy.hardTime = true)) then { o with owed := true } else o
     let final := k.decided.getD (.aired, .complete)
     let left := k.copy.length - k.copy.cueIn - k.played
     let faded := (s.mixer.deckRamp.get d).complete = true
     let ends (c : Instr) (st : RecState) (why : EndReason) (aired : Nat) (truncated : Bool) : Prop :=
       ∃ t p, Completes c s t ∧ (t.deck d).state = .empty ∧ (t.deck d).writes = [⟨k.addr, p, st, .first, false⟩] ∧
         p.reason = why ∧ p.airedEnd = k.lastEnd ∧ p.framesAired = aired ∧
         p.flags = { k.part.flags with truncated := k.part.flags.truncated || truncated } ∧
         p.underrunFrames = k.part.underrunFrames ∧ t.deck d.other = after ∧
         t.log = (handLog (segmentEntry .segmentEnd (deckUnit d) k.lastEnd k.addr k.copy.tag p st) s).log ∧
         t = { s with decks := t.decks, mixer := t.mixer, walker := t.walker, fetch := t.fetch, log := t.log }
     s.survey.state = .running → k.writes = [] →
     (k.kind = .audio → k.blockTaken = false → k.state = .playing ∨ k.state = .ending →
       (left = 0 ∨ (k.noMore = true ∧ k.fifo = []) ∨
           (k.state = .ending ∧ (∃ why, k.decided = some (.skipped, why)) ∧ faded) →
         ends (.segmentEnd d) final.1 final.2 k.part.framesAired (decide (0 < left))) ∧
       (0 < left → k.noMore = false ∨ k.fifo ≠ [] → (k.state = .playing ∨ ¬faded) → Ignored (.segmentEnd d) s)) ∧
     (k.kind = .live ∨ k.kind = .gap →
       (k.state = .ending → k.blockTaken = false → faded →
         ends (.segmentEnd d) final.1 final.2 (k.sounded * 240) (decide (k.sounded * 240 < k.copy.duration))) ∧
       (k.state = .playing → 0 < k.copy.duration → k.copy.duration ≤ k.sounded * 240 →
         ends (.durationComplete d) .aired .complete (k.sounded * 240) false))) ∧
  (∀ (s : State) (i : BlockInput), ∃ t, Completes (.blockBoundary i) s t ∧ ∀ d,
     ((s.mixer.deckFrames.get d).length = 240 → (t.deck d).lastEnd = s.pendingTime.getD (s.time + 240)) ∧
     ((s.mixer.deckFrames.get d).length ≠ 240 → (s.deck d).kind = .audio → (t.deck d).lastEnd = (s.deck d).lastEnd)) ∧
  (∀ s : State,
     (∀ w : Word, 1 < w.toNat → segmentSkip w s = (.badArgument, s)) ∧
     skipPlaying s = segmentSkip 0 s ∧
     ((∀ d, (s.deck d).state ≠ .playing ∧ (s.deck d).state ≠ .paused) → segmentSkip 0 s = (.nothingToSkip, s)) ∧
     ((∀ d, (s.deck d).state ≠ .loading ∧ (s.deck d).state ≠ .ready) → segmentSkip 1 s = (.nothingToSkip, s)) ∧
     ∀ d,
       let k := s.deck d
       let o := s.deck d.other
       let ends (w : Word) (time : Time) (p : PartHalf) : Prop := ∃ t, segmentSkip w s = (.done, t) ∧
         (t.deck d).state = .empty ∧ (t.deck d).writes = [⟨k.addr, p, .skipped, .first, false⟩] ∧
         p.reason = .skip ∧ p.flags.byRequest = true ∧ p.airedStart = k.part.airedStart ∧ t.deck d.other = o ∧
         t.log = (handLog (segmentEntry .segmentEnd (deckUnit d) time k.addr k.copy.tag p .skipped) s).log ∧
         t = { s with decks := t.decks, mixer := t.mixer, walker := t.walker, fetch := t.fetch, log := t.log }
       (s.decks.lastStarted = some d ∨ (o.state ≠ .playing ∧ o.state ≠ .paused) →
         (k.state = .playing → ∃ t, segmentSkip 0 s = (.done, t) ∧ (t.deck d).state = .ending ∧
           (t.deck d).decided = some (.skipped, .skip) ∧ (t.deck d).part.flags.byRequest = true ∧
           t.deck d.other = o ∧ t = { s with decks := t.decks, mixer := t.mixer }) ∧
         (k.state = .paused → s.survey.state = .running → k.writes = [] →
           ∃ p, p.airedEnd = k.lastEnd ∧ ends 0 k.lastEnd p)) ∧
       (k.state = .loading ∨ k.state = .ready → o.state ≠ .loading → o.state ≠ .ready → s.survey.state = .running →
         k.writes = [] → ∃ p, p.airedEnd = 0 ∧ ends 1 s.time p))

/-- Run-out starts at a boundary in RUNNING or DETACHED with no deck sounding and no start owed; a READY store is read
from frame 0, the first frame following the last, and ramps to the fill gain in one block (R69, R71, R90). The fill
record's read: a failed one, with a snapshot of zeros, and a record that is no good AUDIO record, with its first 16
bytes, leave the store EMPTY and raise FETCH_ERROR with the fill address (the reasons' numbers are log entry 14); a
good one enters LOADING with L the smaller of length less cue-in and 2,880,000 (R70). Among the boundaries at which
run-out starts is the one at which a MARK or a GAP of duration 0 has started and ended (log entry 102); that with the
store not READY its ramp begins only later is log entry 111. -/
def Obligations.RunOutPlaysTheLoadedStore : Prop :=
  (∀ s : State, s.survey.state = .running ∨ s.survey.state = .detached → s.decks.runOut = false → s.quiet = true →
     ∃ t, Completes .runOutStart s t ∧ t.decks.runOut = true ∧ t.decks.fillPos = 0 ∧
       (s.rescue.state = .ready → t.decks.fillLive = true ∧ t.mixer.fill.blk = s.sections.station.fillGain ∧
         t.decks.fillBlock.length = 240 ∧ ∀ i, i < 240 → 0 < s.rescue.frames.length →
           frameAt t.decks.fillBlock i = frameAt s.rescue.frames (i % s.rescue.frames.length)) ∧
       (s.rescue.state ≠ .ready → t.decks.fillLive = false ∧ t.decks.fillBlock = [] ∧ t.mixer = s.mixer) ∧
       (∀ d, t.deck d = s.deck d) ∧ t = { s with decks := t.decks, mixer := t.mixer }) ∧
  (∀ s : State, s.fresh .fillRecord → s.rescue.reading = true →
     (∀ r : ReadResult, r.all (fun bs => (fillFormat (hostHalfOf bs)).isNone) = true →
       ∃ t, Completes (.fillRecordReadDone r) s t ∧ t.rescue.state = .empty ∧ t.rescue.frames = [] ∧
         t.decks.fillBlock = s.decks.fillBlock ∧ (∀ d, t.deck d = s.deck d) ∧
         t = { raise (match r with
             | none => ⟨.fetchError, .rescueStore, s.rescue.fill, 0, 1, zeros16⟩
             | some bs => ⟨.fetchError, .rescueStore, s.rescue.fill, 0, 2, snapshot16 bs⟩) s with
           rescue := t.rescue, decks := t.decks, monitor := t.monitor }) ∧
     ∀ bs f, fillFormat (hostHalfOf bs) = some f →
       ∃ t, Completes (.fillRecordReadDone (some bs)) s t ∧ t.rescue.state = .loading ∧ t.rescue.frames = [] ∧
         t.rescue.len = min ((hostHalfOf bs).length - (hostHalfOf bs).cueIn) 2880000 ∧ t.rescue.left = t.rescue.len ∧
         t.rescue.pos = (hostHalfOf bs).buffer + BitVec.ofNat 64 ((hostHalfOf bs).cueIn * f.frameBytes) ∧
         t.faults = s.faults ∧ (∀ d, t.deck d = s.deck d) ∧ t.survey = s.survey ∧ t.mixer = s.mixer ∧ t.log = s.log)

/-! ## Callers -/

/-- Presence: a rise on an IDLE line takes it to SCREENING with the tag of the section 5 copy, and on a CLEARING line
is remembered; a fall takes a line on air to CLEARING, out of the on-air order, with its gain fading over 2 blocks
(R76, R77, R88, R89). Framing LOST raises LINE_FAULT with the line, marks it out of service and takes an IDLE line to
CLEARING; clearing then ends in OUT_OF_SERVICE, and framing regained there takes the line to IDLE with its mark
cleared (R77, R78, R89). -/
def Obligations.LinesFollowPresenceAndFraming : Prop :=
  (∀ (s : State) (n : LineNo),
     ((s.line n).presence = false → (s.line n).state = .idle →
       ∃ t, Completes (.presenceRise n) s t ∧ (t.line n).state = .screening ∧ (t.line n).presence = true ∧
         (t.line n).tag = (s.sections.callers.lines.get n).tag ∧ (t.line n).since = s.time ∧
         (t.line n).heldForAlert = false ∧ t.callers.queue = s.callers.queue ∧ t.callers.onAir = s.callers.onAir ∧
         (∀ m, m ≠ n → t.line m = s.line m) ∧ t = { s with callers := t.callers, log := t.log }) ∧
     ((s.line n).presence = false → (s.line n).state = .clearing →
       Completes (.presenceRise n) s (s.setLine n { s.line n with presence := true, remembered := true })) ∧
     ((s.line n).presence = true → (s.line n).state = .onAir →
       ∃ t, Completes (.presenceFall n) s t ∧ (t.line n).state = .clearing ∧ (t.line n).presence = false ∧
         t.callers.onAir = s.callers.onAir.filter (· != n) ∧
         (t.mixer.line.get n).target = 0 ∧ (t.mixer.line.get n).m = 2 ∧
         (∀ m, m ≠ n → t.line m = s.line m) ∧ t = { s with callers := t.callers, mixer := t.mixer, log := t.log })) ∧
  (∀ (s : State) (n : LineNo),
     ((s.line n).framingGood = true → (s.line n).state = .idle →
       ∃ t, Completes (.framingLost n) s t ∧ (t.line n).state = .clearing ∧ (t.line n).oos = true ∧
         (t.line n).framingGood = false ∧ (t.line n).clearing = 2 ∧
         (∀ m, m ≠ n → t.line m = s.line m) ∧
         t = { handLog (callerEntry n .idle .framing t)
             (raise ⟨.lineFault, .callerUnit, BitVec.ofNat 64 (n.val + 1), 0, 0, zeros16⟩ s) with
           callers := t.callers }) ∧
     ((s.line n).state = .clearing → (s.line n).clearing = 0 →
       ∃ t, Completes (.clearingEnd n) s t ∧
         (t.line n).state = (if (s.line n).oos then (if (s.line n).framingGood then .idle else .outOfService)
           else if (s.line n).remembered then .screening else .idle) ∧
         (t.line n).remembered = false ∧ ((s.line n).oos = true → (t.line n).tag = none) ∧
         t.callers.queue = s.callers.queue ∧ t.callers.onAir = s.callers.onAir ∧ (∀ m, m ≠ n → t.line m = s.line m) ∧
         t = { s with callers := t.callers, log := t.log }) ∧
     ((s.line n).framingGood = false → (s.line n).state = .outOfService →
       ∃ t, Completes (.framingRegained n) s t ∧ (t.line n).state = .idle ∧ (t.line n).oos = false ∧
         (t.line n).framingGood = true ∧ (∀ m, m ≠ n → t.line m = s.line m) ∧ t.faults = s.faults ∧
         t = { s with callers := t.callers, log := t.log }))

/-- CALLER_HOLD is decided in its order: a bad line number and a wrong state are refused, a screened line joins the
tail of the queue, a line on air joins its head and fades over 2 blocks, and a held line stays in its place with its
held-for-alert flag cleared (R79). CALLER_DROP clears a line in a call state and refuses the others; CALLER_QUEUE
moves a line in HOLD to the place asked for, to the tail when that lies beyond it, and refuses positions outside 1 to
4 (R82, R83). The DROP_CALLERS button answers WRONG_STATE with no line on air; else every line on air goes to
CLEARING, in on-air order and with its gain fading over 2 blocks, and the other lines stay as they are (R34, R82).
CALLER_ON_AIR, for a line in SCREENING or HOLD: WRONG_STATE in any other state and outside RUNNING and DETACHED,
NOT_SAFE under the guard with the delay line not SAFE, AT_LIMIT at the conference limit, and else the line leaves the
queue and goes last in the on-air order, with its gain ramping to its line gain over 2 blocks and CALLER_STATE handed.
CALLER_TAKE and the TAKE_CALLER button answer by the same conditions, QUEUE_EMPTY with no line queued, and take the
head of the queue (R34, R80, R81, R84, R85). -/
def Obligations.CallerRequestsAnswer : Prop :=
  (∀ s : State,
     (∀ w p : Word, w = 0 ∨ 4 < w.toNat → callerHold w s = (.badArgument, s) ∧ callerDrop w s = (.badArgument, s) ∧
       callerQueue w p s = (.badArgument, s) ∧ callerOnAir w s = (.badArgument, s)) ∧
     ∀ (w : Word) (n : LineNo), lineOf w = some n →
       ((s.line n).state = .screening → (callerHold w s).1 = .done ∧ ((callerHold w s).2.line n).state = .hold ∧
         (callerHold w s).2.callers.queue = s.callers.queue ++ [n] ∧
         (callerHold w s).2.mixer = s.mixer) ∧
       ((s.line n).state = .onAir → (callerHold w s).1 = .done ∧ ((callerHold w s).2.line n).state = .hold ∧
         (callerHold w s).2.callers.queue = n :: s.callers.queue ∧
         (callerHold w s).2.callers.onAir = s.callers.onAir.filter (fun m => m != n) ∧
         ((callerHold w s).2.mixer.line.get n).target = 0 ∧ ((callerHold w s).2.mixer.line.get n).m = 2) ∧
       ((s.line n).state = .hold →
         callerHold w s = (.done, s.setLine n { s.line n with heldForAlert := false })) ∧
       ((s.line n).state = .idle ∨ (s.line n).state = .clearing ∨ (s.line n).state = .outOfService →
         callerHold w s = (.wrongState, s))) ∧
  (∀ (s : State) (w p : Word) (n : LineNo), lineOf w = some n →
     ((s.line n).state.call = false → callerDrop w s = (.wrongState, s)) ∧
     ((s.line n).state = .screening → (callerDrop w s).1 = .done ∧ ((callerDrop w s).2.line n).state = .clearing ∧
       (callerDrop w s).2.mixer = s.mixer ∧ ∀ m, m ≠ n → (callerDrop w s).2.line m = s.line m) ∧
     (p = 0 ∨ 4 < p.toNat → callerQueue w p s = (.badArgument, s)) ∧
     (p ≠ 0 → p.toNat ≤ 4 → (s.line n).state ≠ .hold → callerQueue w p s = (.wrongState, s)) ∧
     (p ≠ 0 → p.toNat ≤ 4 → (s.line n).state = .hold → ∃ q, callerQueue w p s =
       (.done, { s with callers := { s.callers with queue := q } }) ∧
       q.filter (· != n) = s.callers.queue.filter (· != n) ∧ q[min (p.toNat - 1) (q.length - 1)]? = some n)) ∧
  (∀ s : State,
     (s.callers.onAir = [] → dropCallers s = (.wrongState, s)) ∧
     (s.callers.onAir ≠ [] → s.callers.onAir.Nodup → (∀ n ∈ s.callers.onAir, (s.line n).state = .onAir) →
       ∃ t, dropCallers s = (.done, t) ∧ t.callers.onAir = [] ∧
         t.callers.queue = s.callers.queue.filter (fun n => !s.callers.onAir.contains n) ∧
         (∀ n, n ∈ s.callers.onAir → t.line n = { s.line n with
             state := .clearing, since := s.time, heldForAlert := false, clearing := 2 } ∧
           (t.mixer.line.get n).target = 0 ∧ (t.mixer.line.get n).m = 2) ∧
         (∀ n, n ∉ s.callers.onAir → t.line n = s.line n ∧ t.mixer.line.get n = s.mixer.line.get n) ∧
         (∀ n, s.callers.onAir = [n] → t.log = (handLog (callerEntry n .onAir .button t) s).log) ∧
         t = { s with callers := t.callers, mixer := t.mixer, log := t.log })) ∧
  ∀ s : State,
     let barred := s.sections.callers.guardSet = true ∧ s.safe = false
     let full := s.sections.callers.limit ≤ s.callers.onAir.length
     let airs (n : LineNo) (cause : CallerCause) (x : ResultCode × State) : Prop := ∃ t, x = (.done, t) ∧
       (t.line n).state = .onAir ∧ (t.line n).since = s.time ∧ (t.line n).heldForAlert = false ∧
       t.callers.onAir = s.callers.onAir ++ [n] ∧ t.callers.queue = s.callers.queue.filter (· != n) ∧
       (t.mixer.line.get n).target = (s.line n).gain ∧ (t.mixer.line.get n).m = 2 ∧
       (∀ m, m ≠ n → t.line m = s.line m ∧ t.mixer.line.get m = s.mixer.line.get m) ∧
       t.log = (handLog (callerEntry n (s.line n).state cause t) s).log ∧
       t = { s with callers := t.callers, mixer := t.mixer, log := t.log }
     (∀ cause : CallerCause,
       (s.onProgramme = false → callerTake cause s = (.wrongState, s)) ∧
       (s.onProgramme = true → barred → callerTake cause s = (.notSafe, s)) ∧
       (s.onProgramme = true → ¬barred → full → callerTake cause s = (.atLimit, s)) ∧
       (s.onProgramme = true → ¬barred → ¬full →
         (s.callers.queue = [] → callerTake cause s = (.queueEmpty, s)) ∧
         ∀ n rest, s.callers.queue = n :: rest → n ∉ s.callers.onAir → airs n cause (callerTake cause s))) ∧
     ∀ (w : Word) (n : LineNo), lineOf w = some n →
       let waits := (s.line n).state = .screening ∨ (s.line n).state = .hold
       (¬waits ∨ s.onProgramme = false → callerOnAir w s = (.wrongState, s)) ∧
       (waits → s.onProgramme = true →
         (barred → callerOnAir w s = (.notSafe, s)) ∧
         (¬barred → full → callerOnAir w s = (.atLimit, s)) ∧
         (¬barred → ¬full → n ∉ s.callers.onAir → airs n .request (callerOnAir w s)))

/-! ## Dead air and the air switch -/

/-- A silent block that brings the count to the silence time makes the monitor DEAD and raises DEAD_AIR; with rescue
ENABLED and the store READY a rescue begins at frame 0, then or at a later boundary in DEAD (R100, R101; that the air
switch is the raising unit is log entry 49). At the 40th heard block a DEAD monitor recovers: WATCHING with both
counts 0 and the rescue over; from RESCUE the switch returns to PROGRAMME by a fade of 20 blocks, and the fade ends
when its ramp is complete; a rescue that is DISABLED stops with the monitor still DEAD (R100, R103, R104). -/
def Obligations.DeadAirBringsAndEndsRescue : Prop :=
  (∀ s : State,
     (s.monitor.state = .watching → s.monitor.judged = some true →
       s.sections.station.silenceTime ≤ s.monitor.silence →
       ∃ t, Completes .silenceTimeReached s t ∧ t.monitor.state = .dead ∧ t.monitor.recovery = 0 ∧
         t.monitor.silence = s.monitor.silence ∧
         (s.sections.station.rescueEnabled = true → s.rescue.state = .ready → t.monitor.rescue = true ∧ t.monitor.pos = 0) ∧
         (s.sections.station.rescueEnabled = false ∨ s.rescue.state ≠ .ready → t.monitor.rescue = s.monitor.rescue) ∧
         t = { raise ⟨.deadAir, .airSwitch, 0, 0, 0, zeros16⟩ s with monitor := t.monitor, air := t.air }) ∧
     (s.monitor.state = .dead → s.monitor.rescue = false → s.sections.station.rescueEnabled = true →
       s.rescue.state = .ready →
       ∃ t, Completes .rescueStart s t ∧ t.monitor = { s.monitor with rescue := true, pos := 0, live := true } ∧
         (s.airing.state = .idle → t.air.now = .rescue) ∧ t = { s with monitor := t.monitor, air := t.air })) ∧
  (∀ s : State,
     (s.monitor.state = .dead → 40 ≤ s.monitor.recovery →
       ∃ t, Completes .recovery s t ∧ t.monitor.state = .watching ∧ t.monitor.silence = 0 ∧ t.monitor.recovery = 0 ∧
         t.monitor.rescue = false ∧
         (s.monitor.rescue = true → s.air.before = .rescue → s.onProgramme = true → s.airing.state = .idle →
           t.air.now = .programme ∧ t.air.fading = true ∧ t.air.crossfade = none ∧ t.air.fade.target = 0 ∧
           t.air.fade.m = 19) ∧
         t = { s with monitor := t.monitor, air := t.air }) ∧
     (s.air.fading = true → s.air.fade.complete = true →
       Completes .returnFadeEnd s { s with air := { s.air with fading := false } }) ∧
     (s.monitor.rescue = true → s.sections.station.rescueEnabled = false →
       ∃ t, Completes .rescueStop s t ∧ t.monitor = { s.monitor with rescue := false } ∧ t.air.now ≠ .rescue ∧
         t = { s with monitor := t.monitor, air := t.air }))

/-- The air block, each sample of both channels: with no crossfade it is the block of the source in force, to which a
return fade adds the rescue reader's frames at the fade's gain, saturated; in a crossfade block it is the floor of the
mean of the departing and the arriving source, a departed source giving silence (R95, R96, R103). The sources: the
console's frames for FAILSAFE, the rescue reader's frames at the fill gain, the delay line's output, and the alert
block, whose frames carry in both channels the attention tone in its first blocks and then the record slot's samples
in order, times the alert gain over 32,768 with floor; frame f of a FADE block is such a sample times 239 − f over
240, truncated; a GAP block is silent (R154, R157). The tone's cycle of 48 frames is that of R154's table. -/
def Obligations.AirBlockFollowsTheSwitch : Prop :=
  ((List.range 13).map toneSample = [0, 273733, 542783, 802545, 1048576, 1276665, 1482910, 1663783, 1816187, 1937516,
      2025693, 2079211, 2097152] ∧
    (∀ i, i ≤ 24 → toneSample (24 - i) = toneSample i) ∧ ∀ i, i < 24 → toneSample (i + 24) = -toneSample i) ∧
  (∀ (s : State) (i : Nat), i < 240 → s.airing.gain.blk ≤ 32768 →
    let out := frameAt (s.sourceBlock .alert) i
    let g : Int := s.airing.gain.blk
    let gives (x : Int) : Prop := out.l = out.r ∧
      (s.airing.state = .tone ∨ s.airing.state = .message → out.l.toInt = x * g / 32768) ∧
      (s.airing.state = .fade → out.l.toInt = (x * g / 32768 * (239 - i)).tdiv 240) ∧
      (s.airing.state = .idle ∨ s.airing.state = .gap → out.l.toInt = 0)
    (s.airing.given < s.airing.tone → gives (toneSample (i % 48))) ∧
    (∀ e k, s.airing.tone ≤ s.airing.given → s.airing.entry = some e → (s.entry e).slot = some k →
      gives (sampleAt (s.alerts.slot.get k) ((s.airing.given - s.airing.tone) * 240 + i)).toInt)) ∧
  (∀ s : State, s.sourceBlock .failsafe = s.mixer.input.studio ∧
    (∀ out, s.delay.out = some out → s.sourceBlock .programme = out) ∧
    ∀ i, i < 240 → s.mixer.fillGain.blk ≤ 32768 →
      let x := frameAt s.rescueFrames i
      let g : Int := s.mixer.fillGain.blk
      (frameAt (s.sourceBlock .rescue) i).l.toInt = x.l.toInt * g / 32768 ∧
      (frameAt (s.sourceBlock .rescue) i).r.toInt = x.r.toInt * g / 32768) ∧
  ∀ (s : State) (i : Nat), i < 240 →
    let here := frameAt (s.sourceBlock s.air.now) i
    let air := frameAt s.airFrames i
    (s.air.crossfade = none → s.air.fading = false → air = here) ∧
    (s.air.crossfade = none → s.air.fading = true →
      let r := frameAt s.rescueFrames i
      let g : Int := s.air.fade.blk
      air.l.toInt = max (-8388608) (min 8388607 (here.l.toInt + r.l.toInt * g / 32768)) ∧
      air.r.toInt = max (-8388608) (min 8388607 (here.r.toInt + r.r.toInt * g / 32768))) ∧
    (∀ src, s.air.crossfade = some ⟨src, true, false⟩ →
      air.l.toInt = ((frameAt (s.sourceBlock src) i).l.toInt + here.l.toInt) / 2 ∧
      air.r.toInt = ((frameAt (s.sourceBlock src) i).r.toInt + here.r.toInt) / 2) ∧
    (∀ src, s.air.crossfade = some ⟨src, false, false⟩ →
      air.l.toInt = here.l.toInt / 2 ∧ air.r.toInt = here.r.toInt / 2)

/-! ## Delay line -/

/-- DELAY_ENGAGE: from BYPASS it is refused below a target of 48,000 and else gives BUILDING with the accumulator 0;
in EXITING the state is worked out from D and T; in an engaged line nothing changes (R114). DELAY_EXIT: refused with
callers on air under the guard, refused in BYPASS, and else EXITING, or BYPASS at once when nothing is held (R115). A
dump is refused in BYPASS and on a frozen line; else it removes the min(E, D) newest frames, softens the newest 240
that stay, clears the accumulator and leaves a fade-in pending (R117 to R119). -/
def Obligations.DelayEngageExitAndDumpAnswer : Prop :=
  (∀ s : State,
     (s.delay.state = .bypass → s.sections.station.target < 48000 → delayEngage s = (.targetTooShort, s)) ∧
     (s.delay.state = .bypass → 48000 ≤ s.sections.station.target → s.delay.mem = [] → 48000 ≤ s.sections.station.dumpSize →
       ∃ t, delayEngage s = (.done, t) ∧ t.delay = { s.delay with state := .building, acc := 0 } ∧ t.safe = false ∧
         t = { s with delay := t.delay, log := t.log }) ∧
     (s.delay.state = .exiting → (delayEngage s).1 = .done ∧ (places8.all (fun n => !s.heldDump n) = true →
       (delayEngage s).2.delay = { s.delay with state :=
         if s.delay.depth < s.sections.station.target then .building
         else if s.delay.depth = s.sections.station.target then .holding else .squeezing })) ∧
     (s.delay.state = .building ∨ s.delay.state = .holding ∨ s.delay.state = .squeezing → delayEngage s = (.done, s))) ∧
  (∀ s : State,
     (s.sections.callers.guardSet = true → s.callers.onAir ≠ [] → delayExit s = (.callersOnAir, s)) ∧
     (s.sections.callers.guardSet = false ∨ s.callers.onAir = [] →
       (s.delay.state = .bypass → delayExit s = (.notEngaged, s)) ∧
       (s.delay.state = .exiting → delayExit s = (.done, s)) ∧
       (s.delay.state.engaged = true → 0 < s.delay.depth → ∃ t, delayExit s = (.done, t) ∧
         t.delay = { s.delay with state := .exiting } ∧ t = { s with delay := t.delay, log := t.log }) ∧
       (s.delay.state.engaged = true → s.delay.depth = 0 → s.delay.pauseNow = false → ∃ t, delayExit s = (.done, t) ∧
         t.delay = { s.delay with state := .bypass, acc := 0 } ∧ t = { s with delay := t.delay, log := t.log }))) ∧
  ∀ (s : State) (src : DumpSource),
    (s.delay.state = .bypass → dump src s = (.notEngaged, s)) ∧
    (s.delay.state ≠ .bypass → s.onProgramme = false → dump src s = (.wrongState, s)) ∧
    (s.delay.state ≠ .bypass → s.onProgramme = true →
      let e := min s.sections.station.dumpSize s.sections.station.target
      let kept := s.delay.mem.length - min e s.delay.mem.length
      ∃ t, dump src s = (.done, t) ∧ t.delay.mem.length = kept ∧
        t.delay.mem.take (kept - 240) = s.delay.mem.take (kept - 240) ∧
        (∀ i, kept - 240 ≤ i → i < kept →
          (frameAt t.delay.mem i).l.toInt = ((frameAt s.delay.mem i).l.toInt * (kept - i : Nat)).tdiv 240 ∧
          (frameAt t.delay.mem i).r.toInt = ((frameAt s.delay.mem i).r.toInt * (kept - i : Nat)).tdiv 240) ∧
        t.delay.acc = 0 ∧ t.delay.fadeIn = true ∧
        (s.delay.state = .exiting → t.delay.state = if kept = 0 ∧ s.delay.pauseNow = false then .bypass else .exiting) ∧
        (s.delay.state ≠ .exiting → t.delay.state =
          if kept < s.sections.station.target then .building
          else if kept = s.sections.station.target then .holding else .squeezing) ∧
        t = { s with delay := t.delay, log := t.log })

/-- Stretching n = 240 less k frames by k inserts a frame after frame q_j = floor((j + 1) n / (k + 1)) − 1 for each j
below k, its channels the floor of the mean of frame q_j and the next; squeezing n = 240 and k frames by k merges the
pair that starts at m_j, of the same formula, into one such frame. Every other frame is given unchanged and in order,
and the output is a whole block, for every k that the accumulator can give (R110, R111, R112). -/
def Obligations.StretchAndSqueezeFillTheBlock : Prop :=
  ∀ (k : Nat) (ts : List Frame), k ≤ 12 →
    let isMean (out a b : Frame) : Prop :=
      out.l.toInt = (a.l.toInt + b.l.toInt) / 2 ∧ out.r.toInt = (a.r.toInt + b.r.toInt) / 2
    (ts.length = 240 - k →
      let q (j : Nat) := (j + 1) * (240 - k) / (k + 1) - 1
      (stretch k ts).length = 240 ∧
      (∀ j, j < k → isMean (frameAt (stretch k ts) (q j + j + 1)) (frameAt ts (q j)) (frameAt ts (q j + 1))) ∧
      (∀ i, i < 240 - k →
        frameAt (stretch k ts) (i + (List.range k).countP (fun j => decide (q j < i))) = frameAt ts i)) ∧
    (ts.length = 240 + k →
      let m (j : Nat) := (j + 1) * (240 + k) / (k + 1) - 1
      (squeeze k ts).length = 240 ∧
      (∀ j, j < k → isMean (frameAt (squeeze k ts) (m j - j)) (frameAt ts (m j)) (frameAt ts (m j + 1))) ∧
      (∀ i, i < 240 + k → (∀ j, j < k → i ≠ m j ∧ i ≠ m j + 1) →
        frameAt (squeeze k ts) (i - (List.range k).countP (fun j => decide (m j < i))) = frameAt ts i))

/-- A block moves D toward its target and never past it: BYPASS and HOLDING leave it, BUILDING adds and SQUEEZING and
EXITING take the smaller of the accumulator's share and the distance, from the oldest frames of the memory that the
input has joined; the output is a whole block (R109 to R113). While a pause is in force an engaged line takes its
input and gives nothing; D rises by the block until the capacity of 2,097,152 frames is reached, and the first block
past it raises DELAY_OVERFLOW (R106, R121). A pause told of in a block is in force from the boundary that ends it, and
no DELAY_BLOCK changes that (R120). -/
def Obligations.DelayBlockMovesTowardItsTarget : Prop :=
  (∀ s : State, s.onProgramme = true → s.delay.made = false → s.delay.pauseNow = false → s.delay.acc < 1000 →
     1 ≤ s.sections.station.rate → s.sections.station.rate ≤ 50 → (s.delay.state = .bypass → s.delay.mem = []) →
     (∀ n, s.heldDump n = false) →
     let t := s.sections.station.target
     let d := s.delay.mem.length
     let k := (s.delay.acc + 240 * s.sections.station.rate) / 1000
     let joined := s.delay.mem ++ s.delay.faded s.mixBlock
     ∃ u out, Completes .delayBlock s u ∧ u.delay.out = some out ∧ out.length = 240 ∧ u.delay.made = true ∧
       u.delay.pauseNow = false ∧ u.delay.pauseFlag = s.delay.pauseFlag ∧
       (s.delay.state = .bypass → u.delay.mem = [] ∧ u.delay.state = .bypass ∧ out = joined) ∧
       (s.delay.state = .holding → u.delay.mem.length = d ∧ u.delay.state = .holding ∧ out = joined.take 240 ∧
         u.delay.mem = joined.drop 240) ∧
       (s.delay.state = .building → u.delay.mem.length = d + min k (t - d) ∧
         out = stretch (min k (t - d)) (joined.take (240 - min k (t - d))) ∧
         u.delay.mem = joined.drop (240 - min k (t - d)) ∧
         (u.delay.state = if t ≤ d + k then .holding else .building)) ∧
       (s.delay.state = .squeezing → u.delay.mem.length = d - min k (d - t) ∧
         out = squeeze (min k (d - t)) (joined.take (240 + min k (d - t))) ∧
         u.delay.mem = joined.drop (240 + min k (d - t)) ∧
         (u.delay.state = if d ≤ t + k then .holding else .squeezing)) ∧
       (s.delay.state = .exiting → u.delay.mem.length = d - k ∧
         out = squeeze (min k d) (joined.take (240 + min k d)) ∧ u.delay.mem = joined.drop (240 + min k d) ∧
         (u.delay.state = if d ≤ k then .bypass else .exiting)) ∧
       u = { s with delay := u.delay, log := u.log }) ∧
  (∀ s : State, s.onProgramme = true → s.delay.made = false → s.delay.pauseNow = true → s.delay.state.engaged = true →
     (∀ n, s.heldDump n = false) → s.delay.mem.length ≤ 2097152 →
     ∃ u, Completes .delayBlock s u ∧ u.delay.out = none ∧ u.delay.made = true ∧ u.delay.pauseNow = true ∧
       u.delay.mem.length = min (s.delay.mem.length + 240) 2097152 ∧ u.delay.acc = s.delay.acc ∧
       (u.delay.state = workOut s.sections.station.target u.delay.mem.length) ∧
       (2097152 < s.delay.mem.length + 240 → s.delay.overflowRaised = false →
         u.faults = (raise ⟨.delayOverflow, .delayLine, 0, 0, s.delay.mem.length + 240 - 2097152, zeros16⟩ s).faults) ∧
       (s.delay.mem.length + 240 ≤ 2097152 → u.faults = s.faults) ∧
       u = { s with delay := u.delay, faults := u.faults, log := u.log }) ∧
  ∀ (s : State) (i : BlockInput), ∃ t, Completes (.blockBoundary i) s t ∧
    t.delay = { s.delay with made := false, out := none, pauseNow := s.delay.pauseFlag }

/-! ## Alert reception -/

/-- In HUNT only a 0x7E starts a frame. In IN_FRAME every good character is held until the frame is complete, at 14
bytes for an end frame and 25 + 3 n for a header of n areas; a second byte that is no type abandons the frame with
reason TYPE. A complete frame whose check does not match is abandoned with reason CRC, a header that fails a content
check with the first one's reason, and any other waits for the alert table with the station time of its last byte's
block; the decoder is back in HUNT. Every good character sets the line status to NORMAL. An abandoned frame raises
ALERT_FRAME with the port, the reason (the numbers are log entry 14) and its first 16 bytes (R125 to R127, R130,
R131). A framing error or a break abandons a frame in progress and returns to HUNT; the break that moves the line
status to BREAK marks every recording from that port's audio line to end, and further breaks end nothing (R129, R130).
-/
def Obligations.AlertCharactersBuildFrames : Prop :=
  (∀ (s : State) (p : PortId) (v : Byte) (at0 : Nat),
     ((s.decoder.get p).inFrame = false →
       (v = 0x7E → Completes (.goodCharacter p v at0) s { s with decoder := s.decoder.set p { s.decoder.get p with
         inFrame := true, bytes := [0x7E], expected := none, lineBreak := false, lastAt := at0 } }) ∧
       (v ≠ 0x7E → Completes (.goodCharacter p v at0) s
         { s with decoder := s.decoder.set p { s.decoder.get p with lineBreak := false } })) ∧
     ((s.decoder.get p).inFrame = true → (s.decoder.get p).bytes ≠ [] →
       let bs := (s.decoder.get p).bytes ++ [v]
       let abandoned (why : AlertReason) (t : State) : Prop := (t.decoder.get p).inFrame = false ∧
         (t.decoder.get p).bytes = [] ∧ (t.decoder.get p).handed = (s.decoder.get p).handed ∧
         t = { raise ⟨.alertFrame, decoderUnit p, BitVec.ofNat 64 (sideCode p), 0, why.code, snapshot16 bs⟩ s with
           decoder := t.decoder }
       let wrongType := bs.length = 2 ∧ v ≠ 0x48 ∧ v ≠ 0x45
       let complete := if bs.getD 1 0 = 0x45 then bs.length = 14
         else 23 ≤ bs.length ∧ bs.length = 25 + 3 * headerAreaCount bs
       ∃ t, Completes (.goodCharacter p v at0) s t ∧ (t.decoder.get p).lineBreak = false ∧
         t.decoder.get p.other = s.decoder.get p.other ∧
         (wrongType → abandoned .type t) ∧
         (¬wrongType → ¬complete → (t.decoder.get p).inFrame = true ∧ (t.decoder.get p).bytes = bs ∧
           (t.decoder.get p).lastAt = at0 ∧ (t.decoder.get p).handed = (s.decoder.get p).handed ∧
           t = { s with decoder := t.decoder }) ∧
         (¬wrongType → complete →
           (alertCheckRight bs = false → abandoned .crc t) ∧
           (alertCheckRight bs = true →
             (isAlertHeader bs = true → ∀ why, headerFault bs = some why → abandoned why t) ∧
             (isAlertHeader bs = false ∨ headerFault bs = none → (t.decoder.get p).inFrame = false ∧
               (t.decoder.get p).bytes = [] ∧
               (t.decoder.get p).handed = (s.decoder.get p).handed ++ [⟨bs, s.time⟩] ∧
               t = { s with decoder := t.decoder }))))) ∧
  (∀ (s : State) (p : PortId),
     let d := s.decoder.get p
     let gone (why : AlertReason) (u : State) : State := if d.inFrame = true then
       raise ⟨.alertFrame, decoderUnit p, BitVec.ofNat 64 (sideCode p), 0, why.code, snapshot16 d.bytes⟩ u else u
     (d.inFrame = true → Completes (.framingError p) s { gone .framing s with
       decoder := s.decoder.set p { d with inFrame := false, bytes := [], expected := none } }) ∧
     (d.inFrame = false → Ignored (.framingError p) s) ∧
     ∃ t, Completes (.breakCharacter p) s t ∧ (t.decoder.get p).lineBreak = true ∧ (t.decoder.get p).inFrame = false ∧
       (d.lineBreak = true → t.alerts = s.alerts) ∧
       (d.lineBreak = false → ∀ n, (s.entry n).state = .recording → (s.entry n).recPort = p →
         (s.entry n).mark = none → (t.entry n).mark = some .lineBreak) ∧
       (∀ n, (t.entry n).state = (s.entry n).state ∧ (t.entry n).recLen = (s.entry n).recLen) ∧
       t = { gone .lineBreak s with decoder := t.decoder, alerts := t.alerts })

/-- In IN_FRAME the decoder abandons the frame with reason IDLE once 1,000 frames have passed since the last character
it held, and not before; a character held starts the timing again, and a framing error or a break ends it with the
frame (R128). -/
def Obligations.IdleFrameIsAbandoned : Prop :=
  ∀ (s : State) (p : PortId) (now : Nat),
    ((s.decoder.get p).inFrame = true → (s.decoder.get p).lastAt + 1000 ≤ now →
      ∃ t, Completes (.alertFrameIdle p now) s t ∧ (t.decoder.get p).inFrame = false ∧
        t = { raise ⟨.alertFrame, decoderUnit p, BitVec.ofNat 64 (sideCode p), 0, AlertReason.idle.code,
          snapshot16 (s.decoder.get p).bytes⟩ s with decoder := t.decoder }) ∧
    (now < (s.decoder.get p).lastAt + 1000 → Ignored (.alertFrameIdle p now) s) ∧
    ((s.decoder.get p).inFrame = false → Ignored (.alertFrameIdle p now) s) ∧
    (∀ (v : Byte) (t : State), Completes (.goodCharacter p v now) s t → (t.decoder.get p).inFrame = true →
      (t.decoder.get p).lastAt = now) ∧
    ∀ t : State, Completes (.framingError p) s t ∨ Completes (.breakCharacter p) s t → (t.decoder.get p).inFrame = false

/-- Two area codes match when they are equal, or when either is a district code (its last three digits 000) and both
have the same district (the code over 1,000); an alert matches the locale when one of its areas matches one entry, so
an empty list matches none (R134). -/
def Obligations.AreasMatchByDistrict : Prop :=
  (∀ x y : Nat, x ≤ 999999 → y ≤ 999999 →
    (codesMatch x y = true ↔ x = y ∨ ((x % 1000 = 0 ∨ y % 1000 = 0) ∧ x / 1000 = y / 1000))) ∧
  (∀ locale areas : List Nat, localeMatches locale areas = true ↔ ∃ a ∈ areas, ∃ e ∈ locale, codesMatch a e = true) ∧
  (∀ areas : List Nat, localeMatches [] areas = false) ∧
  codesMatch 48113 48000 = true ∧ codesMatch 48000 48000 = true ∧ codesMatch 48114 48113 = false ∧
  ∀ x : Nat, x ≤ 999 → codesMatch x 0 = true

/-- The policy of a new alert is resolved in order: a test under test airing clear, a sender not on a list that is not
empty, and an alert for no listed area are LOG_ONLY; then the first listed event policy decides, and else the default
(R135). -/
def Obligations.PolicyIsResolvedInOrder : Prop :=
  ∀ (p : AlertSettings) (cls : Byte) (ev : BitVec 24) (sender : BitVec 64) (areas : List Nat),
    let r := resolve p cls ev sender areas
    (cls = 0x54 → p.airTests = false → r = (.logOnly, .test)) ∧
    (cls ≠ 0x54 ∨ p.airTests = true →
      (p.authority ≠ [] → sender ∉ p.authority → r = (.logOnly, .unlistedSender)) ∧
      (p.authority = [] ∨ sender ∈ p.authority →
        (localeMatches p.locale areas = false → r = (.logOnly, .noArea)) ∧
        (localeMatches p.locale areas = true →
          (∀ x, p.events.find? (fun e => e.code == ev) = some x → r = (x.policy, .table)) ∧
          ((∀ e ∈ p.events, e.code ≠ ev) → r = (p.defaultPolicy, .default)))))

/-- A header whose identity no entry holds is a new alert. It takes the lowest FREE entry; with none, the final entry
of earliest expiry by signed distance, the lower index first, which is evicted with an ALERT_STATE entry (the flags it
carries are log entry 79); with neither it is not admitted, ALERT_TABLE_FULL is raised once while that condition
holds, and the table stays. The entry holds the header's fields, its expiry at received time plus duration, its port
as heard, one copy and the resolved policy: IGNORE and LOG_ONLY are NOTED; AUTO and MANUAL record into the lowest slot
that no other entry holds, and with none are PENDING with NO_AUDIO and their timers begun. ALERT_RECEIVED is handed
with the state entered, for an alert not admitted FREE and after that raising (log entries 80 and 97), with
UNLISTED_SENDER in both (log entry 104); the EVICTED entry has the policy answer's bit clear (log entry 106). A header
of an identity that an entry holds is a conflict when a field differs, and then one ALERT_CONFLICT entry with the
fields is all it leaves; else a duplicate, counted and its port added. Each takes the frame from the decoder (R132,
R133, R135 to R137, R147). -/
def Obligations.NewAlertIsAdmitted : Prop :=
  ∀ (s : State) (p : PortId) (f : HandedFrame) (rest : List HandedFrame),
    (s.decoder.get p).handed = f :: rest → isAlertHeader f.bytes = true →
    let i := headerIdentity f.bytes
    let r := resolve s.sections.policy (headerClass f.bytes) (headerEvent f.bytes) i.sender (headerAreas f.bytes)
    let free (m : EntryNo) : Prop := (s.entry m).state = .free
    let final (m : EntryNo) : Prop := (s.entry m).state.final = true
    let distance (m : EntryNo) : Int := ((s.entry m).expiry - s.time).toInt
    let unheld (n : EntryNo) (k : SlotId) : Prop := ∀ m, m ≠ n → (s.entry m).slot ≠ some k
    let admitted (n : EntryNo) (u t : State) : Prop :=
      let e := t.entry n
      (e.ident = i ∧ e.originClass = headerClass f.bytes ∧ e.event = headerEvent f.bytes ∧
        e.areas = headerAreas f.bytes ∧ e.issue = headerIssue f.bytes ∧ e.duration = headerDuration f.bytes ∧
        e.received = f.time ∧ e.expiry = f.time + BitVec.ofNat 48 (headerDuration f.bytes * 2880000) ∧
        e.heardA = (p == .a) ∧ e.heardB = (p == .b) ∧ e.copies = 1 ∧ e.policy = r.1 ∧ e.resolution = r.2 ∧
        e.recPort = p ∧ e.recLen = 0 ∧ e.flags.truncated = false) ∧
      (r.1 = .ignore ∨ r.1 = .logOnly → e.state = .noted ∧ e.slot = none ∧ e.flags.noAudio = false) ∧
      (r.1 = .auto ∨ r.1 = .manual →
        (∀ k, unheld n k → (k = .b → ¬unheld n .a) →
          e.state = .recording ∧ e.slot = some k ∧ e.flags.noAudio = false) ∧
        (¬unheld n .a → ¬unheld n .b → e.state = .pending ∧ e.slot = none ∧ e.flags.noAudio = true ∧
          (r.1 = .auto → e.holdUntil = some (s.time + BitVec.ofNat 48 (s.sections.policy.forwardHold * 48000))) ∧
          (r.1 = .manual → e.holdUntil = none ∧ e.deadline = if s.sections.policy.manualDeadline = 0 then none
            else some (s.time + BitVec.ofNat 48 (s.sections.policy.manualDeadline * 48000))))) ∧
      (∀ m, m ≠ n → t.entry m = s.entry m) ∧ t.alerts.queue = s.alerts.queue ∧ t.alerts.slot = s.alerts.slot ∧
      t.log = (handLog (receivedEntry s.time true (n.val + 1) p f.bytes e.state r) u).log ∧
      t = { s with decoder := t.decoder, alerts := t.alerts, log := t.log }
    let taken (t : State) : Prop := Completes (.alertHeader p) s t ∧ (t.decoder.get p).handed = rest
    (s.holder i = none →
      (∀ n, free n → (∀ m, m < n → ¬free m) → (s.entry n).slot = none → ∃ t, taken t ∧ admitted n s t) ∧
      (∀ n, (∀ m, ¬free m) → final n → (∀ m, m ≠ n → final m → distance n < distance m ∨
          (distance n = distance m ∧ n < m)) →
        ∃ t, taken t ∧ admitted n (handLog (alertStateEntry n (s.entry n).state .free .evicted false (s.entry n).recLen
          (s.entry n) s.time) s) t) ∧
      ((∀ m, ¬free m ∧ ¬final m) → ∃ t, taken t ∧ (∀ m, t.entry m = s.entry m) ∧ t.alerts.full = true ∧
        t = { handLog (receivedEntry s.time false 0 p f.bytes .free r)
          (if s.alerts.full then s else raise ⟨.alertTableFull, .alertUnit, i.sender, i.message, 0, zeros16⟩ s) with
            decoder := t.decoder, alerts := t.alerts })) ∧
    ∀ n, s.holder i = some n →
      let differ := differences (s.entry n) f.bytes
      (differ.any id = true → ∃ t, taken t ∧
        t = { handLog (entryOf .alertConflict .alertUnit s.time 0 (s.entry n).ident.message.toNat
          (s.entry n).ident.sender.toNat (packBytes [n.val + 1, sideCode p]) (packBits differ)) s with
            decoder := t.decoder }) ∧
      (differ.any id = false → ∃ t, taken t ∧
        (t.entry n).copies = min ((s.entry n).copies + 1) (max 65535 (s.entry n).copies) ∧
        (t.entry n).heardA = ((s.entry n).heardA || p == .a) ∧ (t.entry n).heardB = ((s.entry n).heardB || p == .b) ∧
        (t.entry n).state = (s.entry n).state ∧ (t.entry n).policy = (s.entry n).policy ∧
        (∀ m, m ≠ n → t.entry m = s.entry m) ∧ t.faults = s.faults ∧
        ((s.entry n).policy = .ignore → t.log = s.log) ∧
        t = { s with decoder := t.decoder, alerts := t.alerts, log := t.log })

/-- A recording begins at the first boundary after its header's block; from then the recorder writes at each boundary
the 240 samples of the block from the recording port's audio line at the end of what the slot holds, up to a full
slot, and the older samples stay (R138). An end frame on its recording port, and on no other, marks it to end, at the
boundary after that frame's block, with NO_AUDIO when nothing was recorded; a full slot ends it TRUNCATED, but for an
end frame taken in the block that filled it; a break ends its port's recordings TRUNCATED; the recordings that end at
one boundary end in increasing index, whatever ends them; under a MANUAL policy with no deadline the entry waits
PENDING (R138 to R140, R145, R147; log entry 70). An entry in RECORDING, PENDING or QUEUED whose expiry is reached
enters EXPIRED: it leaves the air queue and its record slot is free; the expiries of one boundary pass in increasing
index, and an AIRING entry does not expire (R141 to R143, R145, R151). -/
def Obligations.RecordingsEndAndAlertsExpire : Prop :=
  (∀ (s : State) (input : BlockInput) (n : EntryNo) (k : SlotId),
     let e := s.entry n
     let old := s.alerts.slot.get k
     (∀ m, m ≠ n → (s.entry m).slot ≠ some k) → e.slot = some k → e.recLen ≤ old.length →
     ∃ t, Completes (.blockBoundary input) s t ∧
       let new := t.alerts.slot.get k
       (e.state = .recording → e.started = true → e.recLen < 5760000 →
         (t.entry n).recLen = e.recLen + 240 ∧ (t.entry n).state = .recording ∧
         (∀ i, i < e.recLen → sampleAt new i = sampleAt old i) ∧
         ∀ i, i < 240 → sampleAt new (e.recLen + i) = sampleAt (s.mixer.input.alertAudio.get e.recPort) i) ∧
       (e.state ≠ .recording ∨ e.started = false ∨ 5760000 ≤ e.recLen →
         (t.entry n).recLen = e.recLen ∧ new = old)) ∧
  (∀ (s : State) (n : EntryNo), (s.entry n).state = .recording → (s.entry n).policy = .manual →
     (s.entry n).flags.forwardOnCompletion = false → s.sections.policy.manualDeadline = 0 →
     ((s.entry n).started = false → (s.entry n).fresh = false →
       Completes (.recordingStart n) s (s.setEntry n { s.entry n with started := true })) ∧
     (∀ (p : PortId) (f : HandedFrame) (rest : List HandedFrame), (s.decoder.get p).handed = f :: rest →
       isAlertHeader f.bytes = false → s.holder (endIdentity f.bytes) = some n →
       ∃ t, Completes (.alertEndFrame p) s t ∧ (t.decoder.get p).handed = rest ∧
         ((s.entry n).recPort = p → (s.entry n).mark = none → (t.entry n).mark = some .endFrame) ∧
         ((s.entry n).recPort ≠ p → t.alerts = s.alerts) ∧ t = { s with decoder := t.decoder, alerts := t.alerts }) ∧
     let ends (m : EntryNo) : Prop := (s.entry m).state = .recording ∧
       (((s.entry m).mark ≠ none ∧ (s.entry m).fresh = false) ∨ 5760000 ≤ (s.entry m).recLen)
     ((∃ m, m < n ∧ ends m) → Ignored (.recordingEnd n) s ∧ Ignored (.recordingFull n) s) ∧
     ((∀ m, m < n → ¬ends m) →
       ((s.entry n).mark = some .endFrame → (s.entry n).fresh = false →
         ∃ t, Completes (.recordingEnd n) s t ∧ (t.entry n).state = .pending ∧
           (t.entry n).flags.noAudio = ((s.entry n).flags.noAudio || (s.entry n).recLen == 0) ∧
           (t.entry n).flags.truncated = (s.entry n).flags.truncated ∧ (t.entry n).recLen = (s.entry n).recLen ∧
           (∀ m, m ≠ n → t.entry m = s.entry m) ∧ t = { s with alerts := t.alerts, log := t.log }) ∧
       ((s.entry n).mark = some .lineBreak → (s.entry n).fresh = false →
         ∃ t, Completes (.recordingEnd n) s t ∧ (t.entry n).state = .pending ∧
           (t.entry n).flags.truncated = true ∧ (∀ m, m ≠ n → t.entry m = s.entry m) ∧
           t = { s with alerts := t.alerts, log := t.log }) ∧
       (5760000 ≤ (s.entry n).recLen →
         ∃ t, Completes (.recordingFull n) s t ∧ (t.entry n).state = .pending ∧
           ((s.entry n).mark = some .endFrame → (s.entry n).fresh = false →
             (t.entry n).flags.truncated = (s.entry n).flags.truncated) ∧
           ((s.entry n).mark ≠ some .endFrame ∨ (s.entry n).fresh = true → (t.entry n).flags.truncated = true) ∧
           (∀ m, m ≠ n → t.entry m = s.entry m) ∧ t = { s with alerts := t.alerts, log := t.log }))) ∧
  (∀ (s : State) (n : EntryNo),
     let due (m : EntryNo) : Prop := ((s.entry m).state = .recording ∨ (s.entry m).state = .pending ∨
       (s.entry m).state = .queued) ∧ reached s.time (s.entry m).expiry = true
     ((∃ m, m < n ∧ due m) → Ignored (.alertExpiry n) s) ∧
     (due n → (∀ m, m < n → ¬due m) →
       ∃ t, Completes (.alertExpiry n) s t ∧ (t.entry n).state = .expired ∧ (t.entry n).slot = none ∧
         (t.entry n).recLen = (s.entry n).recLen ∧ t.alerts.queue = s.alerts.queue.filter (fun q => q.entry != n) ∧
         t.alerts.slot = s.alerts.slot ∧ (∀ m, m ≠ n → t.entry m = s.entry m) ∧
         t = { s with alerts := t.alerts, log := t.log }) ∧
     ((s.entry n).state = .airing → Ignored (.alertExpiry n) s) ∧
     (reached s.time (s.entry n).expiry = false → Ignored (.alertExpiry n) s))

/-! ## Alert airing -/

/-- A PENDING entry whose hold-until passes is QUEUED; one whose manual deadline passes is QUEUED with DEADLINE and
raises ALERT_DEADLINE; each has its queueing time at the boundary (R148, R151). ALERT_FORWARD and ALERT_CANCEL refuse
a bad third word and an identity that no entry holds; a forward of a PENDING MANUAL entry queues it and of a RECORDING
one marks it; a cancel of a QUEUED entry ends it CANCELLED, and of the AIRING one is taken by the airing (R149, R150,
R157). The ALERT_FORWARD button forwards the PENDING MANUAL entry of earliest received time, and the ALERT_CANCEL
button cancels the AIRING entry, and with none AIRING the PENDING or QUEUED entry of earliest received time, in each
case the lower index first (times compared as log entry 58 says); with none both answer NO_SUCH_ALERT (R34). -/
def Obligations.AlertsAreQueuedOrCancelled : Prop :=
  (∀ (s : State) (n : EntryNo) (at0 : Time), (s.entry n).state = .pending → (s.entry n).fresh = false →
     reached s.time at0 = true →
     ((s.entry n).holdUntil = some at0 →
       ∃ t, Completes (.holdUntilPassed n) s t ∧ (t.entry n).state = .queued ∧ ⟨n, s.time⟩ ∈ t.alerts.queue ∧
         (t.entry n).holdUntil = none ∧ (∀ m, m ≠ n → t.entry m = s.entry m) ∧
         t = { s with alerts := t.alerts, log := t.log }) ∧
     ((s.entry n).deadline = some at0 →
       ∃ t, Completes (.manualDeadlinePassed n) s t ∧ (t.entry n).state = .queued ∧ ⟨n, s.time⟩ ∈ t.alerts.queue ∧
         (t.entry n).flags.deadline = true ∧ t.faults = (raise ⟨.alertDeadline, .alertUnit, (s.entry n).ident.sender,
           (s.entry n).ident.message, 0, zeros16⟩ s).faults ∧
         (∀ m, m ≠ n → t.entry m = s.entry m) ∧
         t = { s with alerts := t.alerts, faults := t.faults, log := t.log })) ∧
  (∀ (s : State) (w0 w1 w2 : Word),
     (65536 ≤ w2.toNat → alertForward w0 w1 w2 s = (.badArgument, s) ∧ alertCancel w0 w1 w2 s = (.badArgument, s)) ∧
     (w2.toNat < 65536 →
       (s.holder (namedIdentity w0 w1 w2) = none →
         alertForward w0 w1 w2 s = (.noSuchAlert, s) ∧ alertCancel w0 w1 w2 s = (.noSuchAlert, s)) ∧
       ∀ n, s.holder (namedIdentity w0 w1 w2) = some n →
         ((s.entry n).policy ≠ .manual → alertForward w0 w1 w2 s = (.wrongState, s)) ∧
         ((s.entry n).policy = .manual → (s.entry n).state = .pending → ∃ t, alertForward w0 w1 w2 s = (.done, t) ∧
           (t.entry n).state = .queued ∧ ⟨n, s.time⟩ ∈ t.alerts.queue ∧ t = { s with alerts := t.alerts, log := t.log }) ∧
         ((s.entry n).policy = .manual → (s.entry n).state = .recording → alertForward w0 w1 w2 s =
           (.done, s.setEntry n { s.entry n with flags := { (s.entry n).flags with forwardOnCompletion := true } })) ∧
         ((s.entry n).state = .queued → ∃ t, alertCancel w0 w1 w2 s = (.done, t) ∧ (t.entry n).state = .cancelled ∧
           (∀ q ∈ t.alerts.queue, q.entry ≠ n) ∧ t = { s with alerts := t.alerts, log := t.log }) ∧
         ((s.entry n).state = .airing → alertCancel w0 w1 w2 s =
           (.done, { s with airing := { s.airing with cancel := true } })) ∧
         ((s.entry n).state.final = true → alertCancel w0 w1 w2 s = (.wrongState, s)))) ∧
  ∀ s : State,
    let forwardable (m : EntryNo) : Prop := (s.entry m).state = .pending ∧ (s.entry m).policy = .manual
    let cancellable (m : EntryNo) : Prop := (s.entry m).state = .pending ∨ (s.entry m).state = .queued
    let first (among : EntryNo → Prop) (n : EntryNo) : Prop := among n ∧ ∀ m, m ≠ n → among m →
      (s.entry n).received.toNat < (s.entry m).received.toNat ∨
        ((s.entry n).received = (s.entry m).received ∧ n < m)
    ((∀ m, ¬forwardable m) → forwardButton s = (.noSuchAlert, s)) ∧
    (∀ n, first forwardable n → ∃ t, forwardButton s = (.done, t) ∧ (t.entry n).state = .queued ∧
      ⟨n, s.time⟩ ∈ t.alerts.queue ∧ (∀ m, m ≠ n → t.entry m = s.entry m) ∧
      t = { s with alerts := t.alerts, log := t.log }) ∧
    (∀ n, (s.entry n).state = .airing →
      cancelButton s = (.done, { s with airing := { s.airing with cancel := true } })) ∧
    ((∀ m, (s.entry m).state ≠ .airing) →
      ((∀ m, ¬cancellable m) → cancelButton s = (.noSuchAlert, s)) ∧
      ∀ n, first cancellable n → ∃ t, cancelButton s = (.done, t) ∧ (t.entry n).state = .cancelled ∧
        (t.entry n).slot = none ∧ t.alerts.queue = s.alerts.queue.filter (fun q => q.entry != n) ∧
        (∀ m, m ≠ n → t.entry m = s.entry m) ∧ t = { s with alerts := t.alerts, log := t.log })

/-- An entry joins the air queue in the order of class, A before C before W before the rest, then of queueing time,
then of index, and the others keep their order (R151; that queueing times are compared as plain 48-bit numbers is log
entry 81). -/
def Obligations.AirQueueIsOrderedByKey : Prop :=
  ∀ (s : State) (q : Queued) (l : List Queued),
    let rank (x : Queued) : Nat :=
      let c := (s.entry x.entry).originClass
      if c = 0x41 then 0 else if c = 0x43 then 1 else if c = 0x57 then 2 else 3
    let before (x y : Queued) : Prop := rank x < rank y ∨ (rank x = rank y ∧
      (x.time.toNat < y.time.toNat ∨ (x.time = y.time ∧ x.entry < y.entry)))
    l.Pairwise before → q ∉ l → (s.placeQueued q l).Pairwise before ∧ (s.placeQueued q l).Perm (q :: l)

/-- At an IDLE boundary, also one at which a run has just ended (log entry 112), and at the end of a GAP block, by
AIRING_START or GAP_END, the head of the air queue that has not expired starts to air: AIRING with its aired start,
its tone and message blocks worked out, every line on air held for the alert but those taken in the block that begins
with it, and the switch on ALERT (R86, R97, R152, R153, R155). On the answer CUT the decks that play or end enter
PAUSED, with their return state and PAUSED_FOR_ALERT, unless the pause is in force already; on PAUSE the delay line is
told and the decks stay (R67, R120, R155). The tone gives way to the recording after its last block. The boundary
after an airing's last block, of tone or of recording, sets the entry AIRED with its aired end, and a cancelled airing
ends CANCELLED with PARTIAL_AIR after its FADE block; either goes to GAP with the air queue not empty, nothing being
released, and ends the run with it empty, as does a GAP with nothing left to air: the delay line's pause is cleared
and each PAUSED deck returns to its return state where it stood (R67, R153, R156, R157). -/
def Obligations.AlertsAirAndEndTheirRun : Prop :=
  (∀ (s : State) (n : EntryNo) (q : Time) (rest : List Queued),
     s.airing.state = .idle ∨ (s.airing.state = .gap ∧ s.airing.blockGiven = true) →
     s.alerts.queue = ⟨n, q⟩ :: rest → reached s.time (s.entry n).expiry = false → (∀ x ∈ rest, x.entry ≠ n) →
     ∃ t, Completes .airingStart s t ∧ (t.entry n).state = .airing ∧ (t.entry n).airedStart = some s.time ∧
       t.airing.entry = some n ∧ t.alerts.queue = rest ∧ t.air.now = .alert ∧
       t.airing.tone = (if (s.entry n).flags.noAudio = true ∧ s.sections.policy.attention = 0 then 1600
         else s.sections.policy.attention * 200) ∧
       t.airing.message = (if (s.entry n).flags.noAudio then 0 else (s.entry n).recLen / 240) ∧ t.airing.given = 0 ∧
       (t.airing.state = if 0 < t.airing.tone then .tone else .message) ∧
       t.callers.onAir = s.callers.onAir.filter (fun l => (s.line l).taken) ∧
       t.callers.queue = s.callers.onAir.filter (fun l => !(s.line l).taken) ++ s.callers.queue ∧
       (∀ l ∈ s.callers.onAir, (s.line l).taken = false → (t.line l).state = .hold ∧ (t.line l).heldForAlert = true) ∧
       (∀ l, (s.line l).taken = true → t.line l = s.line l) ∧
       (s.delayAnswer = .cut → t.decks.pause = true ∧ t.delay = s.delay ∧
         (s.decks.pause = true → t.decks = s.decks) ∧
         (s.decks.pause = false → ∀ d, let k := s.deck d
           (k.state = .playing ∨ k.state = .ending → t.deck d = { k with
             state := .paused, returnTo := k.state
             part := { k.part with flags := { k.part.flags with pausedForAlert := true } } }) ∧
           (k.state ≠ .playing → k.state ≠ .ending → t.deck d = k))) ∧
       (s.delayAnswer = .pause → t.delay = { s.delay with pauseFlag := true, overflowRaised := false } ∧
         t.decks = s.decks) ∧
       (s.airing.state = .gap → exec .gapEnd s = exec .airingStart s) ∧
       (∀ m, m ≠ n → t.entry m = s.entry m) ∧ t.faults = s.faults ∧ t.survey = s.survey ∧ t.link = s.link ∧ t.time = s.time) ∧
  (∀ s : State,
     (s.airing.state = .tone → s.airing.tone ≤ s.airing.given → 0 < s.airing.message →
       Completes .toneEnd s { s with airing := { s.airing with state := .message } }) ∧
     (let ended (t : State) : Prop := t.airing.state = .idle ∧ t.airing.entry = none ∧ t.air.now ≠ .alert ∧
        t.decks.pause = false ∧ t.delay.pauseFlag = false ∧ t.delay.pauseNow = false ∧
        (s.decks.pause = true → ∀ d, (s.deck d).state = .paused →
          (t.deck d).state = (s.deck d).returnTo ∧ (t.deck d).part = (s.deck d).part ∧
            (t.deck d).played = (s.deck d).played ∧ (t.deck d).fifo = (s.deck d).fifo) ∧
        (s.decks.pause = false → t.decks = s.decks)
      let gapped (t : State) : Prop := t.airing.state = .gap ∧ t.airing.entry = none ∧ t.airing.blockGiven = false ∧
        t.air.now = .alert ∧ t.decks = s.decks ∧ t.delay = s.delay
      let rest (t : State) : Prop := t.time = s.time ∧ t.callers = s.callers ∧ t.survey = s.survey ∧ t.faults = s.faults
      (∀ n, s.airing.entry = some n → (∀ q ∈ s.alerts.queue, q.entry ≠ n) →
        let final (t : State) : Prop := (t.entry n).airedEnd = some s.time ∧ (t.entry n).slot = none ∧
          t.alerts.queue = s.alerts.queue ∧ (∀ m, m ≠ n → t.entry m = s.entry m) ∧ rest t ∧
          (s.alerts.queue = [] → ended t) ∧ (s.alerts.queue ≠ [] → gapped t)
        (s.airing.state = .tone ∨ s.airing.state = .message → s.airing.tone + s.airing.message ≤ s.airing.given →
          ∃ t, Completes .airingEnd s t ∧ (t.entry n).state = .aired ∧
            (t.entry n).flags = (s.entry n).flags ∧ final t) ∧
        (s.airing.state = .fade → s.airing.blockGiven = true →
          ∃ t, Completes .cancelFadeEnd s t ∧ (t.entry n).state = .cancelled ∧
            (t.entry n).flags = { (s.entry n).flags with partialAir := true } ∧ final t)) ∧
      (s.airing.state = .gap → s.airing.blockGiven = true → s.alerts.queue = [] →
        ∃ t, Completes .gapEnd s t ∧ t.alerts = s.alerts ∧ rest t ∧ ended t)))

/-! ## Transmitter link -/

/-- A received frame is sorted: a bad one is counted and breaks a training run, one for another site is disregarded,
and a good one trains a port, the eighth in a row bringing it UP (R162, R163). A port in TRAINING or UP enters DOWN on
a line break, and when its return age reaches the return timeout; the active port falling with the other not UP raises
LINK_DOWN once for the condition (R163, R173). -/
def Obligations.PortsTrainAndFall : Prop :=
  (∀ (s : State) (p : PortId) (bs : List Byte) (at0 : Nat),
     (returnFrameRight bs = false → Completes (.returnFrame p bs at0) s (s.setPort p { s.link.port.get p with
       bad := satInc 4294967295 (s.link.port.get p).bad
       training := if (s.link.port.get p).state = .training then 0 else (s.link.port.get p).training })) ∧
     (returnFrameRight bs = true → returnSite bs ≠ s.sections.station.siteAddress →
       Ignored (.returnFrame p bs at0) s) ∧
     (returnFrameRight bs = true → returnSite bs = s.sections.station.siteAddress → p ≠ s.link.active →
       ∃ t, Completes (.returnFrame p bs at0) s t ∧ (t.link.port.get p).age = 0 ∧
         ((s.link.port.get p).state = .down → (t.link.port.get p).state = .training ∧ (t.link.port.get p).training = 1) ∧
         ((s.link.port.get p).state = .training → (s.link.port.get p).training < 7 →
           (t.link.port.get p).state = .training ∧
             (t.link.port.get p).training = (s.link.port.get p).training + 1) ∧
         ((s.link.port.get p).state = .training → 7 ≤ (s.link.port.get p).training →
           (t.link.port.get p).state = .up) ∧
         ((s.link.port.get p).state = .up → (t.link.port.get p).state = .up) ∧
         t.link.port.get p.other = s.link.port.get p.other ∧ t.link.active = s.link.active ∧ t.clock = s.clock ∧
         t = { s with link := t.link, faults := t.faults, log := t.log })) ∧
  (∀ (s : State) (p : PortId), (s.link.port.get p).state ≠ .down →
     (∃ t, Completes (.linkBreak p) s t ∧ (t.link.port.get p).state = .down ∧ (t.link.port.get p).training = 0 ∧
       t.link.port.get p.other = s.link.port.get p.other ∧ t.link.active = s.link.active ∧
       (p = s.link.active → (s.link.port.get p.other).state ≠ .up → s.link.downCond = false →
         t.faults = (raise ⟨.linkDown, .linkUnit, BitVec.ofNat 64 (sideCode p), 0, 0, zeros16⟩ s).faults ∧
         t.link.downCond = true) ∧
       (p ≠ s.link.active ∨ s.link.downCond = true → t.faults = s.faults) ∧
       t = { s with link := t.link, faults := t.faults, log := t.log }) ∧
     (s.sections.station.returnTimeout ≤ (s.link.port.get p).age →
       ∃ t, Completes (.returnTimeout p) s t ∧ (t.link.port.get p).state = .down ∧
         t.link.port.get p.other = s.link.port.get p.other ∧ t.link.queue = s.link.queue ∧
         t = { s with link := t.link, faults := t.faults, log := t.log }) ∧
     ((s.link.port.get p).age < s.sections.station.returnTimeout → Ignored (.returnTimeout p) s))

/-- A good return, on either port, sets the port's return age to 0 and is kept with a room above 64 taken as 64; it
replaces the telemetry by its own port, flags, powers and peak, and sets the carrier state by its CARRIER_ON flag, and
TX_CARRIER is raised with the port exactly when ON becomes OFF (R162, R171). On the active port alone the latency
becomes the station time less the echoed time, modulo 2⁴⁸, when the echo lies between the latency base and the station
time, and else stays (R170). -/
def Obligations.ReturnsCarryTelemetryAndLatency : Prop :=
  ∀ (s : State) (p : PortId) (bs : List Byte) (arrival : Nat),
    returnFrameRight bs = true → returnSite bs = s.sections.station.siteAddress →
    let flags : Byte := BitVec.ofNat 8 (field bs 5 1)
    let echo : Time := BitVec.ofNat 48 (field bs 14 6)
    let reaches := (echo - s.link.base).toNat ≤ (s.time - s.link.base).toNat
    ∃ t, Completes (.returnFrame p bs arrival) s t ∧
      (t.link.port.get p).age = 0 ∧
      (t.link.port.get p).latest = some (bs.set 4 (BitVec.ofNat 8 (min (field bs 4 1) 64))) ∧
      t.link.telemetry = some ⟨p, flags &&& 0x0F, BitVec.ofNat 16 (field bs 6 2), BitVec.ofNat 16 (field bs 8 2),
        BitVec.ofNat 32 (field bs 10 4)⟩ ∧
      t.link.carrier = (if flags.getLsbD 0 then .on else .off) ∧
      (p ≠ s.link.active → t.link.latency = s.link.latency) ∧
      (p = s.link.active → (reaches → t.link.latency = some (s.time - echo).toNat) ∧
        (¬reaches → t.link.latency = s.link.latency)) ∧
      (p ≠ s.link.active ∨ s.clock.state ≠ .onExternal .link →
        (s.link.carrier = .on → flags.getLsbD 0 = false →
          t.faults = (raise ⟨.txCarrier, .linkUnit, BitVec.ofNat 64 (sideCode p), 0, 0, zeros16⟩ s).faults) ∧
        (s.link.carrier ≠ .on ∨ flags.getLsbD 0 = true → t.faults = s.faults)) ∧
      t.link.base = s.link.base ∧ t.link.active = s.link.active ∧
      t = { s with link := t.link, clock := t.clock, faults := t.faults, log := t.log }

/-- The active port changes by failover to an UP port when it is DOWN, which raises LINK_FAILOVER, by a pending switch
to a port still UP (at the boundary: log entry 113), and by revert to the preferred port when the hold has ended;
LINK_STATE is handed, and the send queue and the next sequence go on (R172, R174, R175; that LINK_STATE precedes
LINK_FAILOVER is log entry 49, and that LINK_FAILOVER precedes CLOCK_LOSS log entry 100). A clock ON_EXTERNAL LINK
loses its reference at once, with CLOCK_LOSS and a switch away pending, once; one QUALIFYING LINK counts from 0 with
no mark point and no switch to LINK pending; any other is left alone (R24, R179). LINK_SWITCH: a bad port is refused,
the active port clears a pending switch, a port not UP is refused PORT_DOWN, and an UP one becomes pending (R174). -/
def Obligations.ActivePortChanges : Prop :=
  (∀ s : State,
     let clock : Clock := match s.clock.state with
       | .onExternal .link => { s.clock with
           mark := none, missed := 0, lost := true
           pending := if s.clock.lost then s.clock.pending else some (.lost .link) }
       | .qualifying .link => { s.clock with
           good := 0, mark := none, missed := 0
           pending := if s.clock.pending = some (.qualified .link) then none else s.clock.pending }
       | .onInternal | .qualifying .house | .onExternal .house => s.clock
     let loss (u : State) : State := if s.clock.state = .onExternal .link ∧ s.clock.lost = false then
       raise ⟨.clockLoss, .stationClock, 2, 0, 0, zeros16⟩ u else u
     let goesOn (p : PortId) (t : State) : Prop := t.link.active = p ∧ t.link.queue = s.link.queue ∧
       t.link.nextSeq = s.link.nextSeq ∧ t.link.port = s.link.port ∧ t.link.pendingSwitch = none
     ((s.link.port.get s.link.active).state = .down → (s.link.port.get s.link.active.other).state = .up →
       let p := s.link.active.other
       ∃ t, Completes .failover s t ∧ goesOn p t ∧
         t = { loss (raise ⟨.linkFailover, .linkUnit, BitVec.ofNat 64 (sideCode p), 0, 0, zeros16⟩
           (handLog (linkEntry p .up .failover t) s)) with link := t.link, clock := clock }) ∧
     (∀ p, (s.link.port.get s.link.active).state ≠ .down → s.link.pendingSwitch = some p →
       ((s.link.port.get p).state = .up → p ≠ s.link.active →
         ∃ t, Completes .pendingLinkSwitch s t ∧ goesOn p t ∧
           t = { loss (handLog (linkEntry p .up .switch t) s) with link := t.link, clock := clock }) ∧
       ((s.link.port.get p).state ≠ .up →
         Completes .pendingLinkSwitch s { s with link := { s.link with pendingSwitch := none } })) ∧
     (∀ h, (s.link.port.get s.link.active).state ≠ .down → s.link.pendingSwitch = none →
       s.sections.station.autoRevert = true → s.link.active ≠ s.sections.station.preferred →
       (s.link.port.get s.sections.station.preferred).state = .up → s.link.hold = some h → reached s.time h = true →
       let p := s.sections.station.preferred
       ∃ t, Completes .revert s t ∧ goesOn p t ∧ t.link.hold = none ∧
         t = { loss (handLog (linkEntry p .up .revert t) s) with link := t.link, clock := clock })) ∧
  (∀ s : State,
     (∀ w : Word, 1 < w.toNat → linkSwitch w s = (.badArgument, s)) ∧
     ∀ (w : Word) (p : PortId), (w = 0 ∧ p = .a) ∨ (w = 1 ∧ p = .b) →
       (p = s.link.active → linkSwitch w s = (.done, { s with link := { s.link with pendingSwitch := none } })) ∧
       (p ≠ s.link.active → (s.link.port.get p).state ≠ .up → linkSwitch w s = (.portDown, s)) ∧
       (p ≠ s.link.active → (s.link.port.get p).state = .up →
         linkSwitch w s = (.done, { s with link := { s.link with pendingSwitch := some p } })))

/-- The air block joins the tail of the send queue, the oldest being discarded at 16; a port that is not UP sends the
head blind once in a block, each frame taking the next sequence; an UP one sends it while the distance of the next
sequence from the acknowledged one of its latest good return is at most that return's room, at most three in a block,
and again when a frame has been sent; a closed window holds the frames. A port silent for 20 blocks sends a keepalive
with the sequence of the last frame sent (R164 to R168). -/
def Obligations.FramesLeaveInSequence : Prop :=
  ∀ s : State,
    (∀ b, s.air.block = some b → s.link.activePort.state ≠ .up → s.link.activePort.sending = none →
      s.link.activePort.sent = 0 → s.link.queue = [] →
      ∃ t f, Completes .programmeFrameFormed s t ∧ t.link.queue = [] ∧ t.link.nextSeq = s.link.nextSeq + 1 ∧
        t.link.activePort.sending = some f ∧ f.seq = s.link.nextSeq ∧ f.frames = b.frames ∧ f.time = b.time ∧
        f.programme = true ∧ t.link.activePort.sent = 1 ∧ t.link.activePort.keepalive = 0 ∧ t.air.block = none ∧
        t.link.port.get s.link.active.other = s.link.port.get s.link.active.other ∧ t.faults = s.faults ∧
        t.link.active = s.link.active) ∧
    (∀ (b : AirBlock) (bs : List Byte), s.link.activePort.state = .up → s.link.activePort.latest = some bs →
      let isOpen := s.link.activePort.sent < 3 ∧ (s.link.nextSeq - returnAck bs).toNat ≤ returnRoom bs
      let sends (t : State) : Prop := t.link.nextSeq = s.link.nextSeq + 1 ∧
        t.link.activePort.sent = s.link.activePort.sent + 1 ∧ t.link.activePort.keepalive = 0 ∧
        ∃ f, t.link.activePort.sending = some f ∧ f.seq = s.link.nextSeq ∧ f.frames = b.frames ∧ f.time = b.time ∧
          f.programme = true
      (s.air.block = some b → s.link.activePort.sending = none → s.link.queue = [] →
        ∃ t, Completes .programmeFrameFormed s t ∧ t.air.block = none ∧ t.faults = s.faults ∧
          (isOpen → t.link.queue = [] ∧ sends t) ∧
          (¬isOpen → t.link.queue = [b] ∧ t.link.nextSeq = s.link.nextSeq ∧ t.link.port = s.link.port)) ∧
      (∀ rest, s.link.activePort.sending.isSome = true → s.link.queue = b :: rest →
        ∃ t, Completes (.frameSent s.link.active) s t ∧ t = { s with link := t.link } ∧
          (isOpen → t.link.queue = rest ∧ sends t) ∧
          (¬isOpen → t.link.queue = s.link.queue ∧ t.link.nextSeq = s.link.nextSeq ∧
            t.link.activePort.sending = none))) ∧
    (∀ b, s.air.block = some b → s.link.activePort.sending.isSome = true → s.link.queue.length = 16 →
      ∃ t, Completes .programmeFrameFormed s t ∧ t.link.queue = s.link.queue.drop 1 ++ [b] ∧
        t.link.discards = satInc 4294967295 s.link.discards ∧ t.link.nextSeq = s.link.nextSeq ∧
        (s.link.slip = none → t.faults = (raise ⟨.linkSlip, .linkUnit, 0, 0, 0, zeros16⟩ s).faults ∧
          t.link.slip = some s.time)) ∧
    (∀ p, p ≠ s.link.active → (s.link.port.get p).sending.isSome = true →
      Completes (.frameSent p) s (s.setPort p { s.link.port.get p with sending := none })) ∧
    (∀ p, 20 ≤ (s.link.port.get p).keepalive → (s.link.port.get p).sending = none →
      ∃ f, Completes (.keepaliveDue p) s (s.setPort p { s.link.port.get p with sending := some f, keepalive := 0 }) ∧
        f.programme = false ∧ f.seq = s.link.nextSeq - 1 ∧ f.time = s.time ∧ f.frames = [] ∧ f.ident = none)

/-! ## Faults, log, notices -/

/-- A raising sets its status; unmasked and new it takes a free first-fault record or sets the multiple flag, and an
ON_AIR kind makes an urgent notice due, which is considered at once in RUNNING with a notice address, and else not
before a boundary; masked it does no more, and repeated it sets the repeat flag alone (R178, R180, R186). -/
def Obligations.RaisingIsRecordedOnce : Prop :=
  ∀ (s : State) (r : Raising),
    (raise r s).faults.status = s.faults.status ||| (1 <<< r.kind.code) ∧
    (s.sections.station.mask.getLsbD r.kind.code = true → (raise r s).faults.first = s.faults.first ∧
      (raise r s).faults.multiple = s.faults.multiple ∧ (raise r s).faults.repeated = s.faults.repeated ∧
      (raise r s).log = s.log) ∧
    (s.sections.station.mask.getLsbD r.kind.code = false →
      (s.faults.status.getLsbD r.kind.code = true → (raise r s).faults = { s.faults with
        repeated := s.faults.repeated ||| (1 <<< r.kind.code), status := s.faults.status } ∧ (raise r s).log = s.log) ∧
      (s.faults.status.getLsbD r.kind.code = false → (raise r s).faults.repeated = s.faults.repeated ∧
        (s.faults.first = none → (raise r s).faults.first =
          some ⟨r.kind, s.time, r.raisedBy, r.subject, r.message, r.snapshot⟩ ∧
          (raise r s).faults.multiple = s.faults.multiple) ∧
        (∀ f, s.faults.first = some f → (raise r s).faults.first = some f ∧ (raise r s).faults.multiple = true) ∧
        (s.classOf r.kind = .onAir → (raise r s).log.urgent = true ∧
          (s.survey.state = .running → s.sections.station.noticeAddr ≠ 0 → (raise r s).log.considers = true) ∧
          (s.survey.state ≠ .running ∨ s.sections.station.noticeAddr = 0 → s.log.considers = false →
            (raise r s).log.considers = false)))) ∧
    raise r s = { s with faults := (raise r s).faults, log := (raise r s).log }

/-- FAULT_ACK taken alone in RUNNING from a free slot: a bit beyond the eighteen kinds is refused BAD_ARGUMENT; else
it is answered DONE, clears the status and repeat flags of the kinds it names, and frees the first-fault record with
the multiple flag when it names the record's kind; an empty set changes nothing. STATION_FAULT is lit by what is left
(R35). The one log entry is the REQUEST entry of the answer (R181), handed at the taking while the result is on its
way (log entry 73). -/
def Obligations.AcknowledgedFaultsAreCleared : Prop :=
  ∀ (s : State) (i : SlotNo) (q w : Word), s.survey.state = .running → s.outstanding i = false →
    (2 ^ 18 ≤ w.toNat →
      Completes (.faultAck i q w) s (answer (requestOf i q 15 w 0 0) (.badArgument, s))) ∧
    (w.toNat < 2 ^ 18 → ∃ f : Faults,
      Completes (.faultAck i q w) s (answer (requestOf i q 15 w 0 0) (.done, { s with faults := f })) ∧
      (∀ k, k < 18 → f.status.getLsbD k = (s.faults.status.getLsbD k && !w.getLsbD k) ∧
        f.repeated.getLsbD k = (s.faults.repeated.getLsbD k && !w.getLsbD k)) ∧
      (∀ x, s.faults.first = some x →
        (w.getLsbD x.kind.code = true → f.first = none ∧ f.multiple = false) ∧
        (w.getLsbD x.kind.code = false → f.first = some x ∧ f.multiple = s.faults.multiple)) ∧
      (w = 0 → f = s.faults) ∧
      ((gpo { s with faults := f }).stationFault = true ↔ ∃ k, s.classOf k = .onAir ∧
        s.sections.station.mask.getLsbD k.code = false ∧ f.status.getLsbD k.code = true)) ∧
    ∀ (c : ResultCode) (t : State), answer (requestOf i q 15 w 0 0) (c, t) =
      handLog (requestEntry (requestOf i q 15 w 0 0) c t.time) { t with survey :=
        { t.survey with counter := q, results := t.survey.results ++ [⟨i, c, t.time.setWidth 32,
          if t.survey.state = .running then .first else .held⟩] } }

/-- A log write puts the sequence word last; completed good it moves the head on by one, a LOG_GAP clearing the
dropped count, and in RUNNING the next entry that waits is issued to the next slot, a LOG_GAP before it when one is
owed, or all that wait are counted as dropped with no room. Failed it raises WRITE_ERROR, counts its entry as dropped
and leaves the head; in RUNNING the same slot is written next, with the LOG_GAP that is then owed before the entries
that wait; a failed LOG_GAP counts nothing and they stay behind it. A LOG_GAP is written at a RUNNING boundary when
there are drops and room, and one that failed is not written again before the next boundary (R183, R184). At a RUNNING
boundary with a notice address a due notice is considered when it is urgent, an urgent flag kept from elsewhere with
it, or when the holdoff has run out with nothing in flight; one that is considered is written as the head with no log
write in flight, an urgent one waiting for the FAULT entry that set the flag when that is next in the queue. The
holdoff count returns to 0, at most one notice is issued in a block, one that failed is not issued again before a
boundary unless a raising makes it urgent, and only a good write changes the value last sent (R186; log entry 67). The
fault unit raises the WRITE_ERROR of a failed log or notice write (log entry 49). The word is written little-endian at
the notice address (R187). -/
def Obligations.LogAndNoticesFollowTheHead : Prop :=
  (∀ (s : State) (w : LogWrite), s.fresh .logWrite →
     (s.log.writing = some { w with phase := .first } → Completes (.logWriteDone true) s
       { s with log := { s.log with writing := some { w with phase := .last } } }) ∧
     (s.log.writing = some { w with phase := .last } → s.log.queue = [] →
       ∃ t, Completes (.logWriteDone true) s t ∧ t.log.head = s.log.head + 1 ∧ t.log.writing = none ∧
         t.log.dropped = (if w.gap then 0 else s.log.dropped) ∧ t = { s with log := t.log }) ∧
     (s.log.writing = some { w with phase := .last } → s.survey.state = .running → s.log.urgent = false →
       s.sections.logs.base ≠ 0 →
       let slot (h : Word) : Addr :=
         s.sections.logs.base + BitVec.ofNat 64 (32 * (h.toNat % s.sections.logs.size))
       let room (h : Word) : Prop := s.log.valid = true ∧ (h - s.log.consumed).toNat < s.sections.logs.size
       let next := s.log.head + 1
       let owed := if w.gap then 0 else s.log.dropped
       let gapFailed := s.log.gapFailed && !w.gap
       (∀ e rest, s.log.queue = e :: rest → ∃ t, Completes (.logWriteDone true) s t ∧ t.log.head = next ∧
         t = { s with log := t.log } ∧
         (room next → owed = 0 → t.log.writing = some ⟨e, next, slot next, false, .first⟩ ∧ t.log.queue = rest ∧
           t.log.dropped = 0) ∧
         (room next → 0 < owed → gapFailed = false → ∃ g, t.log.writing = some ⟨g, next, slot next, true, .first⟩ ∧
           g.kind = .logGap ∧ g.detail0 = BitVec.ofNat 32 owed ∧ t.log.queue = s.log.queue ∧ t.log.dropped = owed) ∧
         (room next → 0 < owed → gapFailed = true → t.log.writing = none ∧ t.log.queue = s.log.queue ∧
           t.log.dropped = owed) ∧
         (¬room next → t.log.writing = none ∧ t.log.queue = [] ∧
           t.log.dropped = min (owed + s.log.queue.length) 4294967295)) ∧
       (room s.log.head → s.log.queue.length < 64 → s.log.dropped < 4294967295 →
         ∃ t, Completes (.logWriteDone false) s t ∧ t.log.head = s.log.head ∧
           t = { writeError .faultUnit s with log := t.log } ∧
           (w.gap = false → s.log.gapFailed = false → s.log.queue ≠ [] → t.log.dropped = s.log.dropped + 1 ∧
             s.log.queue <+: t.log.queue ∧ ∃ g, t.log.writing = some ⟨g, s.log.head, slot s.log.head, true, .first⟩ ∧ g.kind = .logGap ∧
               g.detail0 = BitVec.ofNat 32 (s.log.dropped + 1)) ∧
           (w.gap = true → 0 < s.log.dropped → t.log.writing = none ∧ t.log.dropped = s.log.dropped ∧
             s.log.queue <+: t.log.queue ∧ t.log.gapFailed = true))) ∧
     (s.log.writing = some { w with phase := .last } → s.survey.state ≠ .running → s.log.dropped < 4294967295 →
       ∃ t, Completes (.logWriteDone false) s t ∧ t.log.head = s.log.head ∧ t.log.writing = none ∧
         s.log.dropped + (if w.gap then 0 else 1) ≤ t.log.dropped ∧ t.log.gapFailed = (s.log.gapFailed || w.gap) ∧
         t = { writeError .faultUnit s with log := t.log }) ∧
     (s.survey.state = .running → s.log.writing = none → 0 < s.log.dropped → s.sections.logs.base ≠ 0 →
       s.log.valid = true → (s.log.head - s.log.consumed).toNat < s.sections.logs.size →
       (s.log.gapFailed = true → Ignored .logGap s) ∧
       (s.log.gapFailed = false → ∃ e, Completes .logGap s { s with log := { s.log with
           considers := s.log.considers && s.log.urgent
           writing := some ⟨e, s.log.head, s.sections.logs.base +
             BitVec.ofNat 64 (32 * (s.log.head.toNat % s.sections.logs.size)), true, .first⟩ } } ∧
         e.kind = .logGap ∧ e.detail0 = BitVec.ofNat 32 s.log.dropped)) ∧
     (w.phase = .first → w.onBus = [⟨w.addr + 4, (w.entry.bytes w.seq).drop 4⟩]) ∧
     (w.phase = .last → w.onBus = [⟨w.addr, leBytes 4 w.seq.toNat⟩])) ∧
  (∀ s : State,
     (s.survey.state = .running → s.sections.station.noticeAddr ≠ 0 → s.log.notice = none → s.log.noticed = false →
       (s.log.considers = true → s.log.writing = none →
         (s.log.urgent = true ∧ (s.log.awaited = none ∨ s.log.queue.head? ≠ s.log.awaited)) ∨
           (s.log.urgent = false ∧ s.log.head ≠ s.log.lastSent ∧ s.sections.station.noticeHoldoff ≤ s.log.holdoff) →
         ∃ t, Completes .noticeWrite s t ∧
           t.log.notice = some ⟨s.sections.station.noticeAddr, s.log.head, s.log.urgent⟩ ∧ t.log.holdoff = 0 ∧
           t.log.urgent = false ∧ t.log.noticed = true ∧ t.log.head = s.log.head ∧ t.log.lastSent = s.log.lastSent ∧
           t = { s with log := t.log }) ∧
       (∀ e, s.log.urgent = true → s.log.awaited = some e → s.log.queue.head? = some e → Ignored .noticeWrite s) ∧
       (s.log.writing ≠ none → Ignored .noticeWrite s)) ∧
     (s.log.noticed = true ∨ s.log.considers = false ∨ s.survey.state ≠ .running ∨ s.sections.station.noticeAddr = 0 →
       Ignored .noticeWrite s) ∧
     (∀ i : BlockInput, ∃ t, Completes (.blockBoundary i) s t ∧ t.log.noticed = false ∧ t.log.urgent = s.log.urgent ∧
       let free := s.log.head ≠ s.log.lastSent ∧ s.log.writing = none ∧ s.log.notice = none ∧
         s.sections.station.noticeHoldoff ≤ satInc 255 s.log.holdoff
       (s.survey.state ≠ .running ∨ s.sections.station.noticeAddr = 0 → t.log.considers = false) ∧
       (s.survey.state = .running → s.sections.station.noticeAddr ≠ 0 →
         (s.log.urgent = true → t.log.considers = true) ∧
         (s.log.urgent = false → (¬free → t.log.considers = false) ∧
           (free → s.log.queue = [] → t.log.considers = true)))) ∧
     ∀ n, s.fresh .notice → s.log.notice = some n →
       n.onBus = [⟨n.addr, leBytes 4 n.word.toNat⟩] ∧
       Completes (.noticeWriteDone true) s { s with log := { s.log with notice := none, lastSent := n.word } } ∧
       ∃ t, Completes (.noticeWriteDone false) s t ∧ t.log.notice = none ∧ t.log.lastSent = s.log.lastSent ∧
         (n.urgent = true → t.log.urgent = true) ∧ t.faults = (writeError .faultUnit s).faults ∧
         (s.log.considers = false → s.newFault .writeError = false → Ignored .noticeWrite t) ∧
         t = { s with faults := t.faults, log := t.log })

/-! ## What every step keeps -/

/-- The state after reset is good. -/
def Obligations.ResetStateIsGood : Prop := Good State.reset

/-- Every step keeps the part state and the units that follow it in step: what the survey reads, the monitor, the
walker, the decks and the lines on air all fit the part state (spec/01, Part states; R42, R54, R87, R99). -/
def Obligations.EveryStepKeepsPartState : Prop :=
  ∀ s t : State, PartStateFits s → step s = .next t → PartStateFits t

/-- Every step keeps the next-up queue as exactly the lines in HOLD and the on-air order as exactly the lines ON_AIR,
each once and within the conference limit in force (R75, R84). -/
def Obligations.EveryStepKeepsTheCallers : Prop :=
  ∀ s t : State, PartStateFits s → CallersFit s → step s = .next t → CallersFit t

/-- Every step keeps at most one alert AIRING, with the air while it airs (the first law of the device), the air queue
as exactly the QUEUED entries, each once, and each record slot with one entry at most (R97, R143, R151). -/
def Obligations.EveryStepKeepsTheFirstLaw : Prop :=
  ∀ s t : State, AlertsFit s → step s = .next t → AlertsFit t

/-- Every step keeps D within the delay memory and at 0 in BYPASS, the accumulator below 1,000 and the target in range
(R106, R107, R110, R113). -/
def Obligations.EveryStepKeepsTheDelay : Prop :=
  ∀ s t : State, DelayFits s → step s = .next t → DelayFits t

/-- Every step keeps CB_BASE aligned, the queues and counts within their bounds, and the fault flags in agreement (R1,
R30, R164, R165, R178, R180, R182). -/
def Obligations.EveryStepKeepsTheBounds : Prop :=
  ∀ s t : State, BoundsFit s → step s = .next t → BoundsFit t
end

