-- ==== Sys2Proof/Laws/State.lean ====
section
/-! SUPPORT. The containers' and the record updates' lemmas: what one update leaves of every field of the state. -/

namespace Sys2Proof

/-! ## Containers -/

@[simp] theorem Side.other_other (i : Side) : i.other.other = i := by cases i <;> rfl
@[simp] theorem Side.other_ne (i : Side) : i.other ≠ i := by cases i <;> decide
@[simp] theorem Side.ne_other (i : Side) : i ≠ i.other := by cases i <;> decide
theorem Side.eq_or_other (i j : Side) : j = i ∨ j = i.other := by cases i <;> cases j <;> simp [Side.other]

@[simp] theorem Two.get_set_self {α : Type} (t : Two α) (i : Side) (x : α) : (t.set i x).get i = x := by cases i <;> rfl
theorem Two.get_set_ne {α : Type} (t : Two α) {i j : Side} (x : α) (h : j ≠ i) : (t.set i x).get j = t.get j := by
  cases i <;> cases j <;> first | rfl | exact absurd rfl h
@[simp] theorem Two.get_set_other {α : Type} (t : Two α) (i : Side) (x : α) : (t.set i x).get i.other = t.get i.other := by
  cases i <;> rfl
@[simp] theorem Two.get_other_set {α : Type} (t : Two α) (i : Side) (x : α) : (t.set i.other x).get i = t.get i := by
  cases i <;> rfl
@[simp] theorem Two.set_get_self {α : Type} (t : Two α) (i : Side) : t.set i (t.get i) = t := by cases i <;> rfl
@[simp] theorem Two.set_set {α : Type} (t : Two α) (i : Side) (x y : α) : (t.set i x).set i y = t.set i y := by
  cases i <;> rfl
@[simp] theorem Two.get_map {α β : Type} (f : α → β) (t : Two α) (i : Side) : (t.map f).get i = f (t.get i) := by
  cases i <;> rfl
@[simp] theorem Two.get_a {α : Type} (t : Two α) : t.get .a = t.a := rfl
@[simp] theorem Two.get_b {α : Type} (t : Two α) : t.get .b = t.b := rfl
@[simp] theorem Two.set_a {α : Type} (t : Two α) (x : α) : t.set .a x = ⟨x, t.b⟩ := rfl
@[simp] theorem Two.set_b {α : Type} (t : Two α) (x : α) : t.set .b x = ⟨t.a, x⟩ := rfl

@[simp] theorem Four.get_set_self {α : Type} (t : Four α) (i : Fin 4) (x : α) : (t.set i x).get i = x := by
  fin_cases i <;> rfl
theorem Four.get_set_ne {α : Type} (t : Four α) {i j : Fin 4} (x : α) (h : j ≠ i) : (t.set i x).get j = t.get j := by
  fin_cases i <;> fin_cases j <;> first | rfl | exact absurd rfl h
@[simp] theorem Four.set_get_self {α : Type} (t : Four α) (i : Fin 4) : t.set i (t.get i) = t := by fin_cases i <;> rfl
@[simp] theorem Four.set_set {α : Type} (t : Four α) (i : Fin 4) (x y : α) : (t.set i x).set i y = t.set i y := by
  fin_cases i <;> rfl
@[simp] theorem Four.get_map {α β : Type} (f : α → β) (t : Four α) (i : Fin 4) : (t.map f).get i = f (t.get i) := by
  fin_cases i <;> rfl
@[simp] theorem Four.get_ofFn {α : Type} (f : Fin 4 → α) (i : Fin 4) : (Four.ofFn f).get i = f i := by
  fin_cases i <;> rfl
theorem Four.get_set {α : Type} (t : Four α) (i j : Fin 4) (x : α) :
    (t.set i x).get j = if j = i then x else t.get j := by
  split
  · subst_vars; exact Four.get_set_self t _ x
  · exact Four.get_set_ne t x ‹_›

@[simp] theorem Eight.get_set_self {α : Type} (t : Eight α) (i : Fin 8) (x : α) : (t.set i x).get i = x := by
  fin_cases i <;> rfl
theorem Eight.get_set_ne {α : Type} (t : Eight α) {i j : Fin 8} (x : α) (h : j ≠ i) : (t.set i x).get j = t.get j := by
  fin_cases i <;> fin_cases j <;> first | rfl | exact absurd rfl h
@[simp] theorem Eight.set_get_self {α : Type} (t : Eight α) (i : Fin 8) : t.set i (t.get i) = t := by fin_cases i <;> rfl
@[simp] theorem Eight.set_set {α : Type} (t : Eight α) (i : Fin 8) (x y : α) : (t.set i x).set i y = t.set i y := by
  fin_cases i <;> rfl
@[simp] theorem Eight.get_map {α β : Type} (f : α → β) (t : Eight α) (i : Fin 8) : (t.map f).get i = f (t.get i) := by
  fin_cases i <;> rfl
@[simp] theorem Eight.get_ofFn {α : Type} (f : Fin 8 → α) (i : Fin 8) : (Eight.ofFn f).get i = f i := by
  fin_cases i <;> rfl
theorem Eight.get_set {α : Type} (t : Eight α) (i j : Fin 8) (x : α) :
    (t.set i x).get j = if j = i then x else t.get j := by
  split
  · subst_vars; exact Eight.get_set_self t _ x
  · exact Eight.get_set_ne t x ‹_›

end Sys2Proof

namespace Sys2Proof.Machine

open Sys2Proof

@[simp] theorem PerSec.get_set_self {α : Type} (t : PerSec α) (i : Sec) (x : α) : (t.set i x).get i = x := by
  cases i <;> rfl
theorem PerSec.get_set_ne {α : Type} (t : PerSec α) {i j : Sec} (x : α) (h : j ≠ i) : (t.set i x).get j = t.get j := by
  cases i <;> cases j <;> first | rfl | exact absurd rfl h

/-! ## One unit's member replaced: every other field of the state stays -/

@[simp] theorem State.setDeck_pending (s : State) (d : DeckId) (k : Deck) : (s.setDeck d k).pending = s.pending := rfl
@[simp] theorem State.setDeck_time (s : State) (d : DeckId) (k : Deck) : (s.setDeck d k).time = s.time := rfl
@[simp] theorem State.setDeck_pendingTime (s : State) (d : DeckId) (k : Deck) : (s.setDeck d k).pendingTime = s.pendingTime := rfl
@[simp] theorem State.setDeck_bus (s : State) (d : DeckId) (k : Deck) : (s.setDeck d k).bus = s.bus := rfl
@[simp] theorem State.setDeck_survey (s : State) (d : DeckId) (k : Deck) : (s.setDeck d k).survey = s.survey := rfl
@[simp] theorem State.setDeck_sections (s : State) (d : DeckId) (k : Deck) : (s.setDeck d k).sections = s.sections := rfl
@[simp] theorem State.setDeck_mirror (s : State) (d : DeckId) (k : Deck) : (s.setDeck d k).mirror = s.mirror := rfl
@[simp] theorem State.setDeck_clock (s : State) (d : DeckId) (k : Deck) : (s.setDeck d k).clock = s.clock := rfl
@[simp] theorem State.setDeck_gpi (s : State) (d : DeckId) (k : Deck) : (s.setDeck d k).gpi = s.gpi := rfl
@[simp] theorem State.setDeck_walker (s : State) (d : DeckId) (k : Deck) : (s.setDeck d k).walker = s.walker := rfl
@[simp] theorem State.setDeck_fetch (s : State) (d : DeckId) (k : Deck) : (s.setDeck d k).fetch = s.fetch := rfl
@[simp] theorem State.setDeck_rescue (s : State) (d : DeckId) (k : Deck) : (s.setDeck d k).rescue = s.rescue := rfl
@[simp] theorem State.setDeck_callers (s : State) (d : DeckId) (k : Deck) : (s.setDeck d k).callers = s.callers := rfl
@[simp] theorem State.setDeck_mixer (s : State) (d : DeckId) (k : Deck) : (s.setDeck d k).mixer = s.mixer := rfl
@[simp] theorem State.setDeck_air (s : State) (d : DeckId) (k : Deck) : (s.setDeck d k).air = s.air := rfl
@[simp] theorem State.setDeck_monitor (s : State) (d : DeckId) (k : Deck) : (s.setDeck d k).monitor = s.monitor := rfl
@[simp] theorem State.setDeck_delay (s : State) (d : DeckId) (k : Deck) : (s.setDeck d k).delay = s.delay := rfl
@[simp] theorem State.setDeck_decoder (s : State) (d : DeckId) (k : Deck) : (s.setDeck d k).decoder = s.decoder := rfl
@[simp] theorem State.setDeck_alerts (s : State) (d : DeckId) (k : Deck) : (s.setDeck d k).alerts = s.alerts := rfl
@[simp] theorem State.setDeck_airing (s : State) (d : DeckId) (k : Deck) : (s.setDeck d k).airing = s.airing := rfl
@[simp] theorem State.setDeck_link (s : State) (d : DeckId) (k : Deck) : (s.setDeck d k).link = s.link := rfl
@[simp] theorem State.setDeck_faults (s : State) (d : DeckId) (k : Deck) : (s.setDeck d k).faults = s.faults := rfl
@[simp] theorem State.setDeck_log (s : State) (d : DeckId) (k : Deck) : (s.setDeck d k).log = s.log := rfl

@[simp] theorem State.setLine_pending (s : State) (n : LineNo) (l : Line) : (s.setLine n l).pending = s.pending := rfl
@[simp] theorem State.setLine_time (s : State) (n : LineNo) (l : Line) : (s.setLine n l).time = s.time := rfl
@[simp] theorem State.setLine_pendingTime (s : State) (n : LineNo) (l : Line) : (s.setLine n l).pendingTime = s.pendingTime := rfl
@[simp] theorem State.setLine_bus (s : State) (n : LineNo) (l : Line) : (s.setLine n l).bus = s.bus := rfl
@[simp] theorem State.setLine_survey (s : State) (n : LineNo) (l : Line) : (s.setLine n l).survey = s.survey := rfl
@[simp] theorem State.setLine_sections (s : State) (n : LineNo) (l : Line) : (s.setLine n l).sections = s.sections := rfl
@[simp] theorem State.setLine_mirror (s : State) (n : LineNo) (l : Line) : (s.setLine n l).mirror = s.mirror := rfl
@[simp] theorem State.setLine_clock (s : State) (n : LineNo) (l : Line) : (s.setLine n l).clock = s.clock := rfl
@[simp] theorem State.setLine_gpi (s : State) (n : LineNo) (l : Line) : (s.setLine n l).gpi = s.gpi := rfl
@[simp] theorem State.setLine_walker (s : State) (n : LineNo) (l : Line) : (s.setLine n l).walker = s.walker := rfl
@[simp] theorem State.setLine_decks (s : State) (n : LineNo) (l : Line) : (s.setLine n l).decks = s.decks := rfl
@[simp] theorem State.setLine_fetch (s : State) (n : LineNo) (l : Line) : (s.setLine n l).fetch = s.fetch := rfl
@[simp] theorem State.setLine_rescue (s : State) (n : LineNo) (l : Line) : (s.setLine n l).rescue = s.rescue := rfl
@[simp] theorem State.setLine_mixer (s : State) (n : LineNo) (l : Line) : (s.setLine n l).mixer = s.mixer := rfl
@[simp] theorem State.setLine_air (s : State) (n : LineNo) (l : Line) : (s.setLine n l).air = s.air := rfl
@[simp] theorem State.setLine_monitor (s : State) (n : LineNo) (l : Line) : (s.setLine n l).monitor = s.monitor := rfl
@[simp] theorem State.setLine_delay (s : State) (n : LineNo) (l : Line) : (s.setLine n l).delay = s.delay := rfl
@[simp] theorem State.setLine_decoder (s : State) (n : LineNo) (l : Line) : (s.setLine n l).decoder = s.decoder := rfl
@[simp] theorem State.setLine_alerts (s : State) (n : LineNo) (l : Line) : (s.setLine n l).alerts = s.alerts := rfl
@[simp] theorem State.setLine_airing (s : State) (n : LineNo) (l : Line) : (s.setLine n l).airing = s.airing := rfl
@[simp] theorem State.setLine_link (s : State) (n : LineNo) (l : Line) : (s.setLine n l).link = s.link := rfl
@[simp] theorem State.setLine_faults (s : State) (n : LineNo) (l : Line) : (s.setLine n l).faults = s.faults := rfl
@[simp] theorem State.setLine_log (s : State) (n : LineNo) (l : Line) : (s.setLine n l).log = s.log := rfl

@[simp] theorem State.setEntry_pending (s : State) (n : EntryNo) (e : AlertEntry) : (s.setEntry n e).pending = s.pending := rfl
@[simp] theorem State.setEntry_time (s : State) (n : EntryNo) (e : AlertEntry) : (s.setEntry n e).time = s.time := rfl
@[simp] theorem State.setEntry_pendingTime (s : State) (n : EntryNo) (e : AlertEntry) : (s.setEntry n e).pendingTime = s.pendingTime := rfl
@[simp] theorem State.setEntry_bus (s : State) (n : EntryNo) (e : AlertEntry) : (s.setEntry n e).bus = s.bus := rfl
@[simp] theorem State.setEntry_survey (s : State) (n : EntryNo) (e : AlertEntry) : (s.setEntry n e).survey = s.survey := rfl
@[simp] theorem State.setEntry_sections (s : State) (n : EntryNo) (e : AlertEntry) : (s.setEntry n e).sections = s.sections := rfl
@[simp] theorem State.setEntry_mirror (s : State) (n : EntryNo) (e : AlertEntry) : (s.setEntry n e).mirror = s.mirror := rfl
@[simp] theorem State.setEntry_clock (s : State) (n : EntryNo) (e : AlertEntry) : (s.setEntry n e).clock = s.clock := rfl
@[simp] theorem State.setEntry_gpi (s : State) (n : EntryNo) (e : AlertEntry) : (s.setEntry n e).gpi = s.gpi := rfl
@[simp] theorem State.setEntry_walker (s : State) (n : EntryNo) (e : AlertEntry) : (s.setEntry n e).walker = s.walker := rfl
@[simp] theorem State.setEntry_decks (s : State) (n : EntryNo) (e : AlertEntry) : (s.setEntry n e).decks = s.decks := rfl
@[simp] theorem State.setEntry_fetch (s : State) (n : EntryNo) (e : AlertEntry) : (s.setEntry n e).fetch = s.fetch := rfl
@[simp] theorem State.setEntry_rescue (s : State) (n : EntryNo) (e : AlertEntry) : (s.setEntry n e).rescue = s.rescue := rfl
@[simp] theorem State.setEntry_callers (s : State) (n : EntryNo) (e : AlertEntry) : (s.setEntry n e).callers = s.callers := rfl
@[simp] theorem State.setEntry_mixer (s : State) (n : EntryNo) (e : AlertEntry) : (s.setEntry n e).mixer = s.mixer := rfl
@[simp] theorem State.setEntry_air (s : State) (n : EntryNo) (e : AlertEntry) : (s.setEntry n e).air = s.air := rfl
@[simp] theorem State.setEntry_monitor (s : State) (n : EntryNo) (e : AlertEntry) : (s.setEntry n e).monitor = s.monitor := rfl
@[simp] theorem State.setEntry_delay (s : State) (n : EntryNo) (e : AlertEntry) : (s.setEntry n e).delay = s.delay := rfl
@[simp] theorem State.setEntry_decoder (s : State) (n : EntryNo) (e : AlertEntry) : (s.setEntry n e).decoder = s.decoder := rfl
@[simp] theorem State.setEntry_airing (s : State) (n : EntryNo) (e : AlertEntry) : (s.setEntry n e).airing = s.airing := rfl
@[simp] theorem State.setEntry_link (s : State) (n : EntryNo) (e : AlertEntry) : (s.setEntry n e).link = s.link := rfl
@[simp] theorem State.setEntry_faults (s : State) (n : EntryNo) (e : AlertEntry) : (s.setEntry n e).faults = s.faults := rfl
@[simp] theorem State.setEntry_log (s : State) (n : EntryNo) (e : AlertEntry) : (s.setEntry n e).log = s.log := rfl

@[simp] theorem State.setPort_pending (s : State) (p : PortId) (x : Port) : (s.setPort p x).pending = s.pending := rfl
@[simp] theorem State.setPort_time (s : State) (p : PortId) (x : Port) : (s.setPort p x).time = s.time := rfl
@[simp] theorem State.setPort_pendingTime (s : State) (p : PortId) (x : Port) : (s.setPort p x).pendingTime = s.pendingTime := rfl
@[simp] theorem State.setPort_bus (s : State) (p : PortId) (x : Port) : (s.setPort p x).bus = s.bus := rfl
@[simp] theorem State.setPort_survey (s : State) (p : PortId) (x : Port) : (s.setPort p x).survey = s.survey := rfl
@[simp] theorem State.setPort_sections (s : State) (p : PortId) (x : Port) : (s.setPort p x).sections = s.sections := rfl
@[simp] theorem State.setPort_mirror (s : State) (p : PortId) (x : Port) : (s.setPort p x).mirror = s.mirror := rfl
@[simp] theorem State.setPort_clock (s : State) (p : PortId) (x : Port) : (s.setPort p x).clock = s.clock := rfl
@[simp] theorem State.setPort_gpi (s : State) (p : PortId) (x : Port) : (s.setPort p x).gpi = s.gpi := rfl
@[simp] theorem State.setPort_walker (s : State) (p : PortId) (x : Port) : (s.setPort p x).walker = s.walker := rfl
@[simp] theorem State.setPort_decks (s : State) (p : PortId) (x : Port) : (s.setPort p x).decks = s.decks := rfl
@[simp] theorem State.setPort_fetch (s : State) (p : PortId) (x : Port) : (s.setPort p x).fetch = s.fetch := rfl
@[simp] theorem State.setPort_rescue (s : State) (p : PortId) (x : Port) : (s.setPort p x).rescue = s.rescue := rfl
@[simp] theorem State.setPort_callers (s : State) (p : PortId) (x : Port) : (s.setPort p x).callers = s.callers := rfl
@[simp] theorem State.setPort_mixer (s : State) (p : PortId) (x : Port) : (s.setPort p x).mixer = s.mixer := rfl
@[simp] theorem State.setPort_air (s : State) (p : PortId) (x : Port) : (s.setPort p x).air = s.air := rfl
@[simp] theorem State.setPort_monitor (s : State) (p : PortId) (x : Port) : (s.setPort p x).monitor = s.monitor := rfl
@[simp] theorem State.setPort_delay (s : State) (p : PortId) (x : Port) : (s.setPort p x).delay = s.delay := rfl
@[simp] theorem State.setPort_decoder (s : State) (p : PortId) (x : Port) : (s.setPort p x).decoder = s.decoder := rfl
@[simp] theorem State.setPort_alerts (s : State) (p : PortId) (x : Port) : (s.setPort p x).alerts = s.alerts := rfl
@[simp] theorem State.setPort_airing (s : State) (p : PortId) (x : Port) : (s.setPort p x).airing = s.airing := rfl
@[simp] theorem State.setPort_faults (s : State) (p : PortId) (x : Port) : (s.setPort p x).faults = s.faults := rfl
@[simp] theorem State.setPort_log (s : State) (p : PortId) (x : Port) : (s.setPort p x).log = s.log := rfl

@[simp] theorem State.setDecoder_pending (s : State) (p : PortId) (d : Decoder) : (s.setDecoder p d).pending = s.pending := rfl
@[simp] theorem State.setDecoder_time (s : State) (p : PortId) (d : Decoder) : (s.setDecoder p d).time = s.time := rfl
@[simp] theorem State.setDecoder_pendingTime (s : State) (p : PortId) (d : Decoder) : (s.setDecoder p d).pendingTime = s.pendingTime := rfl
@[simp] theorem State.setDecoder_bus (s : State) (p : PortId) (d : Decoder) : (s.setDecoder p d).bus = s.bus := rfl
@[simp] theorem State.setDecoder_survey (s : State) (p : PortId) (d : Decoder) : (s.setDecoder p d).survey = s.survey := rfl
@[simp] theorem State.setDecoder_sections (s : State) (p : PortId) (d : Decoder) : (s.setDecoder p d).sections = s.sections := rfl
@[simp] theorem State.setDecoder_mirror (s : State) (p : PortId) (d : Decoder) : (s.setDecoder p d).mirror = s.mirror := rfl
@[simp] theorem State.setDecoder_clock (s : State) (p : PortId) (d : Decoder) : (s.setDecoder p d).clock = s.clock := rfl
@[simp] theorem State.setDecoder_gpi (s : State) (p : PortId) (d : Decoder) : (s.setDecoder p d).gpi = s.gpi := rfl
@[simp] theorem State.setDecoder_walker (s : State) (p : PortId) (d : Decoder) : (s.setDecoder p d).walker = s.walker := rfl
@[simp] theorem State.setDecoder_decks (s : State) (p : PortId) (d : Decoder) : (s.setDecoder p d).decks = s.decks := rfl
@[simp] theorem State.setDecoder_fetch (s : State) (p : PortId) (d : Decoder) : (s.setDecoder p d).fetch = s.fetch := rfl
@[simp] theorem State.setDecoder_rescue (s : State) (p : PortId) (d : Decoder) : (s.setDecoder p d).rescue = s.rescue := rfl
@[simp] theorem State.setDecoder_callers (s : State) (p : PortId) (d : Decoder) : (s.setDecoder p d).callers = s.callers := rfl
@[simp] theorem State.setDecoder_mixer (s : State) (p : PortId) (d : Decoder) : (s.setDecoder p d).mixer = s.mixer := rfl
@[simp] theorem State.setDecoder_air (s : State) (p : PortId) (d : Decoder) : (s.setDecoder p d).air = s.air := rfl
@[simp] theorem State.setDecoder_monitor (s : State) (p : PortId) (d : Decoder) : (s.setDecoder p d).monitor = s.monitor := rfl
@[simp] theorem State.setDecoder_delay (s : State) (p : PortId) (d : Decoder) : (s.setDecoder p d).delay = s.delay := rfl
@[simp] theorem State.setDecoder_alerts (s : State) (p : PortId) (d : Decoder) : (s.setDecoder p d).alerts = s.alerts := rfl
@[simp] theorem State.setDecoder_airing (s : State) (p : PortId) (d : Decoder) : (s.setDecoder p d).airing = s.airing := rfl
@[simp] theorem State.setDecoder_link (s : State) (p : PortId) (d : Decoder) : (s.setDecoder p d).link = s.link := rfl
@[simp] theorem State.setDecoder_faults (s : State) (p : PortId) (d : Decoder) : (s.setDecoder p d).faults = s.faults := rfl
@[simp] theorem State.setDecoder_log (s : State) (p : PortId) (d : Decoder) : (s.setDecoder p d).log = s.log := rfl

@[simp] theorem State.setPhase_pending (s : State) (p : SurveyPhase) : (s.setPhase p).pending = s.pending := rfl
@[simp] theorem State.setPhase_time (s : State) (p : SurveyPhase) : (s.setPhase p).time = s.time := rfl
@[simp] theorem State.setPhase_pendingTime (s : State) (p : SurveyPhase) : (s.setPhase p).pendingTime = s.pendingTime := rfl
@[simp] theorem State.setPhase_bus (s : State) (p : SurveyPhase) : (s.setPhase p).bus = s.bus := rfl
@[simp] theorem State.setPhase_sections (s : State) (p : SurveyPhase) : (s.setPhase p).sections = s.sections := rfl
@[simp] theorem State.setPhase_mirror (s : State) (p : SurveyPhase) : (s.setPhase p).mirror = s.mirror := rfl
@[simp] theorem State.setPhase_clock (s : State) (p : SurveyPhase) : (s.setPhase p).clock = s.clock := rfl
@[simp] theorem State.setPhase_gpi (s : State) (p : SurveyPhase) : (s.setPhase p).gpi = s.gpi := rfl
@[simp] theorem State.setPhase_walker (s : State) (p : SurveyPhase) : (s.setPhase p).walker = s.walker := rfl
@[simp] theorem State.setPhase_decks (s : State) (p : SurveyPhase) : (s.setPhase p).decks = s.decks := rfl
@[simp] theorem State.setPhase_fetch (s : State) (p : SurveyPhase) : (s.setPhase p).fetch = s.fetch := rfl
@[simp] theorem State.setPhase_rescue (s : State) (p : SurveyPhase) : (s.setPhase p).rescue = s.rescue := rfl
@[simp] theorem State.setPhase_callers (s : State) (p : SurveyPhase) : (s.setPhase p).callers = s.callers := rfl
@[simp] theorem State.setPhase_mixer (s : State) (p : SurveyPhase) : (s.setPhase p).mixer = s.mixer := rfl
@[simp] theorem State.setPhase_air (s : State) (p : SurveyPhase) : (s.setPhase p).air = s.air := rfl
@[simp] theorem State.setPhase_monitor (s : State) (p : SurveyPhase) : (s.setPhase p).monitor = s.monitor := rfl
@[simp] theorem State.setPhase_delay (s : State) (p : SurveyPhase) : (s.setPhase p).delay = s.delay := rfl
@[simp] theorem State.setPhase_decoder (s : State) (p : SurveyPhase) : (s.setPhase p).decoder = s.decoder := rfl
@[simp] theorem State.setPhase_alerts (s : State) (p : SurveyPhase) : (s.setPhase p).alerts = s.alerts := rfl
@[simp] theorem State.setPhase_airing (s : State) (p : SurveyPhase) : (s.setPhase p).airing = s.airing := rfl
@[simp] theorem State.setPhase_link (s : State) (p : SurveyPhase) : (s.setPhase p).link = s.link := rfl
@[simp] theorem State.setPhase_faults (s : State) (p : SurveyPhase) : (s.setPhase p).faults = s.faults := rfl
@[simp] theorem State.setPhase_log (s : State) (p : SurveyPhase) : (s.setPhase p).log = s.log := rfl

@[simp] theorem State.mapDeckRamp_pending (s : State) (d : DeckId) (f : Ramp → Ramp) : (s.mapDeckRamp d f).pending = s.pending := rfl
@[simp] theorem State.mapDeckRamp_time (s : State) (d : DeckId) (f : Ramp → Ramp) : (s.mapDeckRamp d f).time = s.time := rfl
@[simp] theorem State.mapDeckRamp_pendingTime (s : State) (d : DeckId) (f : Ramp → Ramp) : (s.mapDeckRamp d f).pendingTime = s.pendingTime := rfl
@[simp] theorem State.mapDeckRamp_bus (s : State) (d : DeckId) (f : Ramp → Ramp) : (s.mapDeckRamp d f).bus = s.bus := rfl
@[simp] theorem State.mapDeckRamp_survey (s : State) (d : DeckId) (f : Ramp → Ramp) : (s.mapDeckRamp d f).survey = s.survey := rfl
@[simp] theorem State.mapDeckRamp_sections (s : State) (d : DeckId) (f : Ramp → Ramp) : (s.mapDeckRamp d f).sections = s.sections := rfl
@[simp] theorem State.mapDeckRamp_mirror (s : State) (d : DeckId) (f : Ramp → Ramp) : (s.mapDeckRamp d f).mirror = s.mirror := rfl
@[simp] theorem State.mapDeckRamp_clock (s : State) (d : DeckId) (f : Ramp → Ramp) : (s.mapDeckRamp d f).clock = s.clock := rfl
@[simp] theorem State.mapDeckRamp_gpi (s : State) (d : DeckId) (f : Ramp → Ramp) : (s.mapDeckRamp d f).gpi = s.gpi := rfl
@[simp] theorem State.mapDeckRamp_walker (s : State) (d : DeckId) (f : Ramp → Ramp) : (s.mapDeckRamp d f).walker = s.walker := rfl
@[simp] theorem State.mapDeckRamp_decks (s : State) (d : DeckId) (f : Ramp → Ramp) : (s.mapDeckRamp d f).decks = s.decks := rfl
@[simp] theorem State.mapDeckRamp_fetch (s : State) (d : DeckId) (f : Ramp → Ramp) : (s.mapDeckRamp d f).fetch = s.fetch := rfl
@[simp] theorem State.mapDeckRamp_rescue (s : State) (d : DeckId) (f : Ramp → Ramp) : (s.mapDeckRamp d f).rescue = s.rescue := rfl
@[simp] theorem State.mapDeckRamp_callers (s : State) (d : DeckId) (f : Ramp → Ramp) : (s.mapDeckRamp d f).callers = s.callers := rfl
@[simp] theorem State.mapDeckRamp_air (s : State) (d : DeckId) (f : Ramp → Ramp) : (s.mapDeckRamp d f).air = s.air := rfl
@[simp] theorem State.mapDeckRamp_monitor (s : State) (d : DeckId) (f : Ramp → Ramp) : (s.mapDeckRamp d f).monitor = s.monitor := rfl
@[simp] theorem State.mapDeckRamp_delay (s : State) (d : DeckId) (f : Ramp → Ramp) : (s.mapDeckRamp d f).delay = s.delay := rfl
@[simp] theorem State.mapDeckRamp_decoder (s : State) (d : DeckId) (f : Ramp → Ramp) : (s.mapDeckRamp d f).decoder = s.decoder := rfl
@[simp] theorem State.mapDeckRamp_alerts (s : State) (d : DeckId) (f : Ramp → Ramp) : (s.mapDeckRamp d f).alerts = s.alerts := rfl
@[simp] theorem State.mapDeckRamp_airing (s : State) (d : DeckId) (f : Ramp → Ramp) : (s.mapDeckRamp d f).airing = s.airing := rfl
@[simp] theorem State.mapDeckRamp_link (s : State) (d : DeckId) (f : Ramp → Ramp) : (s.mapDeckRamp d f).link = s.link := rfl
@[simp] theorem State.mapDeckRamp_faults (s : State) (d : DeckId) (f : Ramp → Ramp) : (s.mapDeckRamp d f).faults = s.faults := rfl
@[simp] theorem State.mapDeckRamp_log (s : State) (d : DeckId) (f : Ramp → Ramp) : (s.mapDeckRamp d f).log = s.log := rfl

@[simp] theorem State.rampLine_pending (s : State) (n : LineNo) (g len : Nat) : (s.rampLine n g len).pending = s.pending := rfl
@[simp] theorem State.rampLine_time (s : State) (n : LineNo) (g len : Nat) : (s.rampLine n g len).time = s.time := rfl
@[simp] theorem State.rampLine_pendingTime (s : State) (n : LineNo) (g len : Nat) : (s.rampLine n g len).pendingTime = s.pendingTime := rfl
@[simp] theorem State.rampLine_bus (s : State) (n : LineNo) (g len : Nat) : (s.rampLine n g len).bus = s.bus := rfl
@[simp] theorem State.rampLine_survey (s : State) (n : LineNo) (g len : Nat) : (s.rampLine n g len).survey = s.survey := rfl
@[simp] theorem State.rampLine_sections (s : State) (n : LineNo) (g len : Nat) : (s.rampLine n g len).sections = s.sections := rfl
@[simp] theorem State.rampLine_mirror (s : State) (n : LineNo) (g len : Nat) : (s.rampLine n g len).mirror = s.mirror := rfl
@[simp] theorem State.rampLine_clock (s : State) (n : LineNo) (g len : Nat) : (s.rampLine n g len).clock = s.clock := rfl
@[simp] theorem State.rampLine_gpi (s : State) (n : LineNo) (g len : Nat) : (s.rampLine n g len).gpi = s.gpi := rfl
@[simp] theorem State.rampLine_walker (s : State) (n : LineNo) (g len : Nat) : (s.rampLine n g len).walker = s.walker := rfl
@[simp] theorem State.rampLine_decks (s : State) (n : LineNo) (g len : Nat) : (s.rampLine n g len).decks = s.decks := rfl
@[simp] theorem State.rampLine_fetch (s : State) (n : LineNo) (g len : Nat) : (s.rampLine n g len).fetch = s.fetch := rfl
@[simp] theorem State.rampLine_rescue (s : State) (n : LineNo) (g len : Nat) : (s.rampLine n g len).rescue = s.rescue := rfl
@[simp] theorem State.rampLine_callers (s : State) (n : LineNo) (g len : Nat) : (s.rampLine n g len).callers = s.callers := rfl
@[simp] theorem State.rampLine_air (s : State) (n : LineNo) (g len : Nat) : (s.rampLine n g len).air = s.air := rfl
@[simp] theorem State.rampLine_monitor (s : State) (n : LineNo) (g len : Nat) : (s.rampLine n g len).monitor = s.monitor := rfl
@[simp] theorem State.rampLine_delay (s : State) (n : LineNo) (g len : Nat) : (s.rampLine n g len).delay = s.delay := rfl
@[simp] theorem State.rampLine_decoder (s : State) (n : LineNo) (g len : Nat) : (s.rampLine n g len).decoder = s.decoder := rfl
@[simp] theorem State.rampLine_alerts (s : State) (n : LineNo) (g len : Nat) : (s.rampLine n g len).alerts = s.alerts := rfl
@[simp] theorem State.rampLine_airing (s : State) (n : LineNo) (g len : Nat) : (s.rampLine n g len).airing = s.airing := rfl
@[simp] theorem State.rampLine_link (s : State) (n : LineNo) (g len : Nat) : (s.rampLine n g len).link = s.link := rfl
@[simp] theorem State.rampLine_faults (s : State) (n : LineNo) (g len : Nat) : (s.rampLine n g len).faults = s.faults := rfl
@[simp] theorem State.rampLine_log (s : State) (n : LineNo) (g len : Nat) : (s.rampLine n g len).log = s.log := rfl

/-! ## What the replaced member reads -/

@[simp] theorem State.deck_setDeck_self (s : State) (d : DeckId) (k : Deck) : (s.setDeck d k).deck d = k := by
  cases d <;> rfl
@[simp] theorem State.deck_setDeck_other (s : State) (d : DeckId) (k : Deck) :
    (s.setDeck d k).deck d.other = s.deck d.other := by cases d <;> rfl
@[simp] theorem State.deck_other_setDeck (s : State) (d : DeckId) (k : Deck) :
    (s.setDeck d.other k).deck d = s.deck d := by cases d <;> rfl
@[simp] theorem State.deck_mapDeckRamp (s : State) (d e : DeckId) (f : Ramp → Ramp) :
    (s.mapDeckRamp d f).deck e = s.deck e := rfl
@[simp] theorem State.line_setLine_self (s : State) (n : LineNo) (l : Line) : (s.setLine n l).line n = l :=
  Four.get_set_self _ _ _
theorem State.line_setLine_ne (s : State) {n m : LineNo} (l : Line) (h : m ≠ n) : (s.setLine n l).line m = s.line m :=
  Four.get_set_ne _ _ h
@[simp] theorem State.line_rampLine (s : State) (n m : LineNo) (g len : Nat) : (s.rampLine n g len).line m = s.line m := rfl
@[simp] theorem State.entry_setEntry_self (s : State) (n : EntryNo) (e : AlertEntry) : (s.setEntry n e).entry n = e :=
  Eight.get_set_self _ _ _
theorem State.entry_setEntry_ne (s : State) {n m : EntryNo} (e : AlertEntry) (h : m ≠ n) :
    (s.setEntry n e).entry m = s.entry m := Eight.get_set_ne _ _ h
@[simp] theorem State.port_setPort_self (s : State) (p : PortId) (x : Port) : (s.setPort p x).link.port.get p = x :=
  Two.get_set_self _ _ _
@[simp] theorem State.port_setPort_other (s : State) (p : PortId) (x : Port) :
    (s.setPort p x).link.port.get p.other = s.link.port.get p.other := Two.get_set_other _ _ _
@[simp] theorem State.decoder_setDecoder_self (s : State) (p : PortId) (d : Decoder) :
    (s.setDecoder p d).decoder.get p = d := Two.get_set_self _ _ _
@[simp] theorem State.setDeck_setDeck (s : State) (d : DeckId) (k x : Deck) :
    (s.setDeck d k).setDeck d x = s.setDeck d x := by cases d <;> rfl
@[simp] theorem State.setLine_setLine (s : State) (n : LineNo) (k x : Line) :
    (s.setLine n k).setLine n x = s.setLine n x := by simp [State.setLine]
@[simp] theorem State.setEntry_setEntry (s : State) (n : EntryNo) (k x : AlertEntry) :
    (s.setEntry n k).setEntry n x = s.setEntry n x := by simp [State.setEntry]
@[simp] theorem State.setDecoder_setDecoder (s : State) (p : PortId) (k x : Decoder) :
    (s.setDecoder p k).setDecoder p x = s.setDecoder p x := by simp [State.setDecoder]

end Sys2Proof.Machine
end

