-- ==== Sys2Proof/Laws/Reports.lean ====
section
/-! SUPPORT. Handing log entries, raising faults and the small shared operations: each changes its own unit and nothing
else, and what each does to that unit. -/

namespace Sys2Proof.Machine

open Sys2Proof

/-! ## Which fields a shared operation leaves -/

/-- Handing a log entry changes the log writer alone (R183). -/
theorem handLog_only (e : LogEntry) (s : State) : handLog e s = { s with log := (handLog e s).log } := rfl

/-- Handing several entries changes the log writer alone. -/
theorem handLogs_only (es : List LogEntry) (s : State) : handLogs es s = { s with log := (handLogs es s).log } := by
  induction es generalizing s with
  | nil => rfl
  | cons e es ih => simp only [handLogs, List.foldl_cons] at *; rw [ih]; rfl

/-- Raising a fault changes the fault unit and the log writer alone (R178). -/
theorem raise_only (r : Raising) (s : State) : raise r s = { s with faults := (raise r s).faults, log := (raise r s).log } := by
  unfold raise; dsimp only; split
  · split <;> rfl
  · rfl
theorem writeError_only (u : UnitId) (s : State) :
    writeError u s = { s with faults := (writeError u s).faults, log := (writeError u s).log } := raise_only _ s
theorem noteDemand_only (s : State) : noteDemand s = { s with walker := (noteDemand s).walker } := by
  unfold noteDemand; split <;> rfl
theorem refreshStudio_only (b : Bool) (s : State) : refreshStudio b s = { s with mixer := (refreshStudio b s).mixer } := by
  unfold refreshStudio; split <;> rfl
theorem giveUp_only (u : BusUser) (b : Bool) (s : State) : giveUp u b s = { s with bus := (giveUp u b s).bus } := by
  unfold giveUp; split <;> rfl
theorem arbitrate_only (s : State) : arbitrate s = { s with air := (arbitrate s).air } := rfl
theorem holdGroup_only (b f : Bool) (c : CallerCause) (ls : List LineNo) (s : State) :
    holdGroup b f c ls s = { s with
      callers := (holdGroup b f c ls s).callers, mixer := (holdGroup b f c ls s).mixer, log := (holdGroup b f c ls s).log } := by
  unfold holdGroup; dsimp only; rw [handLogs_only]
theorem toAir_only (n : LineNo) (c : CallerCause) (s : State) :
    toAir n c s = { s with callers := (toAir n c s).callers, mixer := (toAir n c s).mixer, log := (toAir n c s).log } := rfl
theorem toClearing_only (n : LineNo) (c : CallerCause) (s : State) :
    toClearing n c s =
      { s with callers := (toClearing n c s).callers, mixer := (toClearing n c s).mixer, log := (toClearing n c s).log } := by
  unfold toClearing; dsimp only; split <;> rfl
theorem logAlert_only (n : EntryNo) (o : EntryState) (c : AlertCause) (k : Nat) (s : State) :
    logAlert n o c k s = { s with log := (logAlert n o c k s).log } := rfl
theorem enterQueued_only (n : EntryNo) (c : AlertCause) (s : State) :
    enterQueued n c s = { s with alerts := (enterQueued n c s).alerts, log := (enterQueued n c s).log } := rfl
theorem settlePending_only (n : EntryNo) (s : State) :
    settlePending n s = { s with alerts := (settlePending n s).alerts, log := (settlePending n s).log } := by
  unfold settlePending; dsimp only; split
  · rfl
  · split
    · rfl
    · split <;> rfl
theorem logDelay_only (c : DelayCause) (o s : State) : logDelay c o s = { s with log := (logDelay c o s).log } := by
  unfold logDelay; split <;> rfl
theorem dump_only (src : DumpSource) (s : State) :
    (dump src s).2 = { s with delay := (dump src s).2.delay, log := (dump src s).2.log } := by
  unfold dump; split
  · dsimp only; rw [logDelay_only]; rfl
  · rfl
theorem refire_only (n : GpiNo) (s : State) :
    refire n s = { s with delay := (refire n s).delay, log := (refire n s).log } := by
  unfold refire; split
  · dsimp only; rw [dump_only]; rfl
  · rfl
theorem refireAll_only (s : State) :
    refireAll s = { s with delay := (refireAll s).delay, log := (refireAll s).log } := by
  unfold refireAll; generalize places8 = l
  induction l generalizing s with
  | nil => rfl
  | cons n l ih => simp only [List.foldl_cons]; rw [ih, refire_only]
theorem noteDelay_only (c : DelayCause) (o s : State) :
    noteDelay c o s = { s with delay := (noteDelay c o s).delay, log := (noteDelay c o s).log } := by
  unfold noteDelay; dsimp only; split
  · rw [refireAll_only, logDelay_only]
  · rw [logDelay_only]
theorem clearDeck_only (b : Bool) (d : DeckId) (ws : List RecordWrite) (s : State) :
    clearDeck b d ws s = { s with
      decks := (clearDeck b d ws s).decks, mixer := (clearDeck b d ws s).mixer, fetch := (clearDeck b d ws s).fetch } := by
  unfold clearDeck; dsimp only; rw [refreshStudio_only]; rfl
theorem endDeck_only (b : Bool) (d : DeckId) (st : RecState) (r : EndReason) (t : Bool) (s : State) :
    endDeck b d st r t s = { s with
      decks := (endDeck b d st r t s).decks, mixer := (endDeck b d st r t s).mixer
      fetch := (endDeck b d st r t s).fetch, walker := (endDeck b d st r t s).walker, log := (endDeck b d st r t s).log } := by
  unfold endDeck; dsimp only; rw [noteDemand_only, handLog_only, clearDeck_only]
theorem cutDeck_only (b : Bool) (d : DeckId) (r : EndReason) (q : Bool) (s : State) :
    cutDeck b d r q s = { s with decks := (cutDeck b d r q s).decks, mixer := (cutDeck b d r q s).mixer } := by
  unfold cutDeck; dsimp only; rw [refreshStudio_only]; rfl
theorem endRunOut_only (s : State) :
    endRunOut s = { s with decks := (endRunOut s).decks, mixer := (endRunOut s).mixer } := by
  unfold endRunOut; split <;> rfl
theorem startDeck_only (d : DeckId) (o : Bool) (s : State) :
    startDeck d o s = { s with
      decks := (startDeck d o s).decks, mixer := (startDeck d o s).mixer, fetch := (startDeck d o s).fetch
      walker := (startDeck d o s).walker, log := (startDeck d o s).log } := by
  unfold startDeck; extract_lets k p playing k1 s1 x1 s2 s3 s4
  have h1 : s1 = { s with decks := s1.decks, mixer := s1.mixer } := endRunOut_only _
  clear_value s1
  have h3 : s3 = { s1 with decks := s3.decks, mixer := s3.mixer } := by
    simp only [s3]; rw [refreshStudio_only]; rfl
  clear_value s3
  have h4 : s4 = { s3 with walker := s4.walker, log := s4.log } := by
    simp only [s4]; rw [noteDemand_only]; rfl
  clear_value s4
  have h : s4 = { s with decks := s4.decks, mixer := s4.mixer, walker := s4.walker, log := s4.log } := by
    rw [h4, h3, h1]
  clear h1 h3 h4
  split
  · have e := endDeck_only true d .aired .complete false s4
    generalize endDeck true d .aired .complete false s4 = t at e ⊢
    rw [e, h]
  · rw [h]
theorem loseClock_only (x : ClockSource) (s : State) :
    loseClock x s = { s with
      clock := (loseClock x s).clock, faults := (loseClock x s).faults, log := (loseClock x s).log } := by
  unfold loseClock; rw [raise_only]
theorem goodMark_only (s : State) : goodMark s = { s with clock := (goodMark s).clock } := by
  unfold goodMark; split
  · rfl
  · split
    · rfl
    · split <;> rfl
  · rfl
theorem badMark_only (s : State) :
    badMark s = { s with clock := (badMark s).clock, faults := (badMark s).faults, log := (badMark s).log } := by
  unfold badMark; split
  · rfl
  · split <;> rfl
  · split
    · rfl
    · dsimp only; split
      · rw [loseClock_only]
      · rfl
theorem considerSend_only (b : Bool) (s : State) : considerSend b s = { s with link := (considerSend b s).link } := by
  unfold considerSend; split
  · rfl
  · split <;> rfl
theorem workOutHold_only (s : State) : workOutHold s = { s with link := (workOutHold s).link } := rfl
theorem handFaultFree_applied (sec : Sec) (e : Word) (cs : List Clamp) (f : State → State) (s : State) :
    applied sec e cs f s = f (handLogs (cs.map (clampEntry sec s.time)) { s with survey := { s.survey with
      applied := s.survey.applied.set sec e, seen := s.survey.seen.set sec e
      marked := s.survey.marked.set sec false } }) := rfl
theorem answer_only (r : Request) (c : ResultCode) (t : State) :
    answer r (c, t) = { t with survey := (answer r (c, t)).survey, log := (answer r (c, t)).log } := rfl

/-! ## The same, field by field, for the two every unit uses -/

@[simp] theorem handLog_pending (e : LogEntry) (s : State) : (handLog e s).pending = s.pending := rfl
@[simp] theorem handLog_time (e : LogEntry) (s : State) : (handLog e s).time = s.time := rfl
@[simp] theorem handLog_pendingTime (e : LogEntry) (s : State) : (handLog e s).pendingTime = s.pendingTime := rfl
@[simp] theorem handLog_bus (e : LogEntry) (s : State) : (handLog e s).bus = s.bus := rfl
@[simp] theorem handLog_survey (e : LogEntry) (s : State) : (handLog e s).survey = s.survey := rfl
@[simp] theorem handLog_sections (e : LogEntry) (s : State) : (handLog e s).sections = s.sections := rfl
@[simp] theorem handLog_mirror (e : LogEntry) (s : State) : (handLog e s).mirror = s.mirror := rfl
@[simp] theorem handLog_clock (e : LogEntry) (s : State) : (handLog e s).clock = s.clock := rfl
@[simp] theorem handLog_gpi (e : LogEntry) (s : State) : (handLog e s).gpi = s.gpi := rfl
@[simp] theorem handLog_walker (e : LogEntry) (s : State) : (handLog e s).walker = s.walker := rfl
@[simp] theorem handLog_decks (e : LogEntry) (s : State) : (handLog e s).decks = s.decks := rfl
@[simp] theorem handLog_fetch (e : LogEntry) (s : State) : (handLog e s).fetch = s.fetch := rfl
@[simp] theorem handLog_rescue (e : LogEntry) (s : State) : (handLog e s).rescue = s.rescue := rfl
@[simp] theorem handLog_callers (e : LogEntry) (s : State) : (handLog e s).callers = s.callers := rfl
@[simp] theorem handLog_mixer (e : LogEntry) (s : State) : (handLog e s).mixer = s.mixer := rfl
@[simp] theorem handLog_air (e : LogEntry) (s : State) : (handLog e s).air = s.air := rfl
@[simp] theorem handLog_monitor (e : LogEntry) (s : State) : (handLog e s).monitor = s.monitor := rfl
@[simp] theorem handLog_delay (e : LogEntry) (s : State) : (handLog e s).delay = s.delay := rfl
@[simp] theorem handLog_decoder (e : LogEntry) (s : State) : (handLog e s).decoder = s.decoder := rfl
@[simp] theorem handLog_alerts (e : LogEntry) (s : State) : (handLog e s).alerts = s.alerts := rfl
@[simp] theorem handLog_airing (e : LogEntry) (s : State) : (handLog e s).airing = s.airing := rfl
@[simp] theorem handLog_link (e : LogEntry) (s : State) : (handLog e s).link = s.link := rfl
@[simp] theorem handLog_faults (e : LogEntry) (s : State) : (handLog e s).faults = s.faults := rfl

@[simp] theorem handLogs_pending (es : List LogEntry) (s : State) : (handLogs es s).pending = s.pending := by rw [handLogs_only]
@[simp] theorem handLogs_time (es : List LogEntry) (s : State) : (handLogs es s).time = s.time := by rw [handLogs_only]
@[simp] theorem handLogs_pendingTime (es : List LogEntry) (s : State) : (handLogs es s).pendingTime = s.pendingTime := by rw [handLogs_only]
@[simp] theorem handLogs_bus (es : List LogEntry) (s : State) : (handLogs es s).bus = s.bus := by rw [handLogs_only]
@[simp] theorem handLogs_survey (es : List LogEntry) (s : State) : (handLogs es s).survey = s.survey := by rw [handLogs_only]
@[simp] theorem handLogs_sections (es : List LogEntry) (s : State) : (handLogs es s).sections = s.sections := by rw [handLogs_only]
@[simp] theorem handLogs_mirror (es : List LogEntry) (s : State) : (handLogs es s).mirror = s.mirror := by rw [handLogs_only]
@[simp] theorem handLogs_clock (es : List LogEntry) (s : State) : (handLogs es s).clock = s.clock := by rw [handLogs_only]
@[simp] theorem handLogs_gpi (es : List LogEntry) (s : State) : (handLogs es s).gpi = s.gpi := by rw [handLogs_only]
@[simp] theorem handLogs_walker (es : List LogEntry) (s : State) : (handLogs es s).walker = s.walker := by rw [handLogs_only]
@[simp] theorem handLogs_decks (es : List LogEntry) (s : State) : (handLogs es s).decks = s.decks := by rw [handLogs_only]
@[simp] theorem handLogs_fetch (es : List LogEntry) (s : State) : (handLogs es s).fetch = s.fetch := by rw [handLogs_only]
@[simp] theorem handLogs_rescue (es : List LogEntry) (s : State) : (handLogs es s).rescue = s.rescue := by rw [handLogs_only]
@[simp] theorem handLogs_callers (es : List LogEntry) (s : State) : (handLogs es s).callers = s.callers := by rw [handLogs_only]
@[simp] theorem handLogs_mixer (es : List LogEntry) (s : State) : (handLogs es s).mixer = s.mixer := by rw [handLogs_only]
@[simp] theorem handLogs_air (es : List LogEntry) (s : State) : (handLogs es s).air = s.air := by rw [handLogs_only]
@[simp] theorem handLogs_monitor (es : List LogEntry) (s : State) : (handLogs es s).monitor = s.monitor := by rw [handLogs_only]
@[simp] theorem handLogs_delay (es : List LogEntry) (s : State) : (handLogs es s).delay = s.delay := by rw [handLogs_only]
@[simp] theorem handLogs_decoder (es : List LogEntry) (s : State) : (handLogs es s).decoder = s.decoder := by rw [handLogs_only]
@[simp] theorem handLogs_alerts (es : List LogEntry) (s : State) : (handLogs es s).alerts = s.alerts := by rw [handLogs_only]
@[simp] theorem handLogs_airing (es : List LogEntry) (s : State) : (handLogs es s).airing = s.airing := by rw [handLogs_only]
@[simp] theorem handLogs_link (es : List LogEntry) (s : State) : (handLogs es s).link = s.link := by rw [handLogs_only]
@[simp] theorem handLogs_faults (es : List LogEntry) (s : State) : (handLogs es s).faults = s.faults := by rw [handLogs_only]

@[simp] theorem raise_pending (r : Raising) (s : State) : (raise r s).pending = s.pending := by rw [raise_only]
@[simp] theorem raise_time (r : Raising) (s : State) : (raise r s).time = s.time := by rw [raise_only]
@[simp] theorem raise_pendingTime (r : Raising) (s : State) : (raise r s).pendingTime = s.pendingTime := by rw [raise_only]
@[simp] theorem raise_bus (r : Raising) (s : State) : (raise r s).bus = s.bus := by rw [raise_only]
@[simp] theorem raise_survey (r : Raising) (s : State) : (raise r s).survey = s.survey := by rw [raise_only]
@[simp] theorem raise_sections (r : Raising) (s : State) : (raise r s).sections = s.sections := by rw [raise_only]
@[simp] theorem raise_mirror (r : Raising) (s : State) : (raise r s).mirror = s.mirror := by rw [raise_only]
@[simp] theorem raise_clock (r : Raising) (s : State) : (raise r s).clock = s.clock := by rw [raise_only]
@[simp] theorem raise_gpi (r : Raising) (s : State) : (raise r s).gpi = s.gpi := by rw [raise_only]
@[simp] theorem raise_walker (r : Raising) (s : State) : (raise r s).walker = s.walker := by rw [raise_only]
@[simp] theorem raise_decks (r : Raising) (s : State) : (raise r s).decks = s.decks := by rw [raise_only]
@[simp] theorem raise_fetch (r : Raising) (s : State) : (raise r s).fetch = s.fetch := by rw [raise_only]
@[simp] theorem raise_rescue (r : Raising) (s : State) : (raise r s).rescue = s.rescue := by rw [raise_only]
@[simp] theorem raise_callers (r : Raising) (s : State) : (raise r s).callers = s.callers := by rw [raise_only]
@[simp] theorem raise_mixer (r : Raising) (s : State) : (raise r s).mixer = s.mixer := by rw [raise_only]
@[simp] theorem raise_air (r : Raising) (s : State) : (raise r s).air = s.air := by rw [raise_only]
@[simp] theorem raise_monitor (r : Raising) (s : State) : (raise r s).monitor = s.monitor := by rw [raise_only]
@[simp] theorem raise_delay (r : Raising) (s : State) : (raise r s).delay = s.delay := by rw [raise_only]
@[simp] theorem raise_decoder (r : Raising) (s : State) : (raise r s).decoder = s.decoder := by rw [raise_only]
@[simp] theorem raise_alerts (r : Raising) (s : State) : (raise r s).alerts = s.alerts := by rw [raise_only]
@[simp] theorem raise_airing (r : Raising) (s : State) : (raise r s).airing = s.airing := by rw [raise_only]
@[simp] theorem raise_link (r : Raising) (s : State) : (raise r s).link = s.link := by rw [raise_only]

@[simp] theorem writeError_pending (u : UnitId) (s : State) : (writeError u s).pending = s.pending := by rw [writeError_only]
@[simp] theorem writeError_time (u : UnitId) (s : State) : (writeError u s).time = s.time := by rw [writeError_only]
@[simp] theorem writeError_pendingTime (u : UnitId) (s : State) : (writeError u s).pendingTime = s.pendingTime := by rw [writeError_only]
@[simp] theorem writeError_bus (u : UnitId) (s : State) : (writeError u s).bus = s.bus := by rw [writeError_only]
@[simp] theorem writeError_survey (u : UnitId) (s : State) : (writeError u s).survey = s.survey := by rw [writeError_only]
@[simp] theorem writeError_sections (u : UnitId) (s : State) : (writeError u s).sections = s.sections := by rw [writeError_only]
@[simp] theorem writeError_mirror (u : UnitId) (s : State) : (writeError u s).mirror = s.mirror := by rw [writeError_only]
@[simp] theorem writeError_clock (u : UnitId) (s : State) : (writeError u s).clock = s.clock := by rw [writeError_only]
@[simp] theorem writeError_gpi (u : UnitId) (s : State) : (writeError u s).gpi = s.gpi := by rw [writeError_only]
@[simp] theorem writeError_walker (u : UnitId) (s : State) : (writeError u s).walker = s.walker := by rw [writeError_only]
@[simp] theorem writeError_decks (u : UnitId) (s : State) : (writeError u s).decks = s.decks := by rw [writeError_only]
@[simp] theorem writeError_fetch (u : UnitId) (s : State) : (writeError u s).fetch = s.fetch := by rw [writeError_only]
@[simp] theorem writeError_rescue (u : UnitId) (s : State) : (writeError u s).rescue = s.rescue := by rw [writeError_only]
@[simp] theorem writeError_callers (u : UnitId) (s : State) : (writeError u s).callers = s.callers := by rw [writeError_only]
@[simp] theorem writeError_mixer (u : UnitId) (s : State) : (writeError u s).mixer = s.mixer := by rw [writeError_only]
@[simp] theorem writeError_air (u : UnitId) (s : State) : (writeError u s).air = s.air := by rw [writeError_only]
@[simp] theorem writeError_monitor (u : UnitId) (s : State) : (writeError u s).monitor = s.monitor := by rw [writeError_only]
@[simp] theorem writeError_delay (u : UnitId) (s : State) : (writeError u s).delay = s.delay := by rw [writeError_only]
@[simp] theorem writeError_decoder (u : UnitId) (s : State) : (writeError u s).decoder = s.decoder := by rw [writeError_only]
@[simp] theorem writeError_alerts (u : UnitId) (s : State) : (writeError u s).alerts = s.alerts := by rw [writeError_only]
@[simp] theorem writeError_airing (u : UnitId) (s : State) : (writeError u s).airing = s.airing := by rw [writeError_only]
@[simp] theorem writeError_link (u : UnitId) (s : State) : (writeError u s).link = s.link := by rw [writeError_only]

@[simp] theorem noteDemand_pending  (s : State) : (noteDemand  s).pending = s.pending := by rw [noteDemand_only]
@[simp] theorem noteDemand_time  (s : State) : (noteDemand  s).time = s.time := by rw [noteDemand_only]
@[simp] theorem noteDemand_pendingTime  (s : State) : (noteDemand  s).pendingTime = s.pendingTime := by rw [noteDemand_only]
@[simp] theorem noteDemand_bus  (s : State) : (noteDemand  s).bus = s.bus := by rw [noteDemand_only]
@[simp] theorem noteDemand_survey  (s : State) : (noteDemand  s).survey = s.survey := by rw [noteDemand_only]
@[simp] theorem noteDemand_sections  (s : State) : (noteDemand  s).sections = s.sections := by rw [noteDemand_only]
@[simp] theorem noteDemand_mirror  (s : State) : (noteDemand  s).mirror = s.mirror := by rw [noteDemand_only]
@[simp] theorem noteDemand_clock  (s : State) : (noteDemand  s).clock = s.clock := by rw [noteDemand_only]
@[simp] theorem noteDemand_gpi  (s : State) : (noteDemand  s).gpi = s.gpi := by rw [noteDemand_only]
@[simp] theorem noteDemand_decks  (s : State) : (noteDemand  s).decks = s.decks := by rw [noteDemand_only]
@[simp] theorem noteDemand_fetch  (s : State) : (noteDemand  s).fetch = s.fetch := by rw [noteDemand_only]
@[simp] theorem noteDemand_rescue  (s : State) : (noteDemand  s).rescue = s.rescue := by rw [noteDemand_only]
@[simp] theorem noteDemand_callers  (s : State) : (noteDemand  s).callers = s.callers := by rw [noteDemand_only]
@[simp] theorem noteDemand_mixer  (s : State) : (noteDemand  s).mixer = s.mixer := by rw [noteDemand_only]
@[simp] theorem noteDemand_air  (s : State) : (noteDemand  s).air = s.air := by rw [noteDemand_only]
@[simp] theorem noteDemand_monitor  (s : State) : (noteDemand  s).monitor = s.monitor := by rw [noteDemand_only]
@[simp] theorem noteDemand_delay  (s : State) : (noteDemand  s).delay = s.delay := by rw [noteDemand_only]
@[simp] theorem noteDemand_decoder  (s : State) : (noteDemand  s).decoder = s.decoder := by rw [noteDemand_only]
@[simp] theorem noteDemand_alerts  (s : State) : (noteDemand  s).alerts = s.alerts := by rw [noteDemand_only]
@[simp] theorem noteDemand_airing  (s : State) : (noteDemand  s).airing = s.airing := by rw [noteDemand_only]
@[simp] theorem noteDemand_link  (s : State) : (noteDemand  s).link = s.link := by rw [noteDemand_only]
@[simp] theorem noteDemand_faults  (s : State) : (noteDemand  s).faults = s.faults := by rw [noteDemand_only]
@[simp] theorem noteDemand_log  (s : State) : (noteDemand  s).log = s.log := by rw [noteDemand_only]

@[simp] theorem refreshStudio_pending (b : Bool) (s : State) : (refreshStudio b s).pending = s.pending := by rw [refreshStudio_only]
@[simp] theorem refreshStudio_time (b : Bool) (s : State) : (refreshStudio b s).time = s.time := by rw [refreshStudio_only]
@[simp] theorem refreshStudio_pendingTime (b : Bool) (s : State) : (refreshStudio b s).pendingTime = s.pendingTime := by rw [refreshStudio_only]
@[simp] theorem refreshStudio_bus (b : Bool) (s : State) : (refreshStudio b s).bus = s.bus := by rw [refreshStudio_only]
@[simp] theorem refreshStudio_survey (b : Bool) (s : State) : (refreshStudio b s).survey = s.survey := by rw [refreshStudio_only]
@[simp] theorem refreshStudio_sections (b : Bool) (s : State) : (refreshStudio b s).sections = s.sections := by rw [refreshStudio_only]
@[simp] theorem refreshStudio_mirror (b : Bool) (s : State) : (refreshStudio b s).mirror = s.mirror := by rw [refreshStudio_only]
@[simp] theorem refreshStudio_clock (b : Bool) (s : State) : (refreshStudio b s).clock = s.clock := by rw [refreshStudio_only]
@[simp] theorem refreshStudio_gpi (b : Bool) (s : State) : (refreshStudio b s).gpi = s.gpi := by rw [refreshStudio_only]
@[simp] theorem refreshStudio_walker (b : Bool) (s : State) : (refreshStudio b s).walker = s.walker := by rw [refreshStudio_only]
@[simp] theorem refreshStudio_decks (b : Bool) (s : State) : (refreshStudio b s).decks = s.decks := by rw [refreshStudio_only]
@[simp] theorem refreshStudio_fetch (b : Bool) (s : State) : (refreshStudio b s).fetch = s.fetch := by rw [refreshStudio_only]
@[simp] theorem refreshStudio_rescue (b : Bool) (s : State) : (refreshStudio b s).rescue = s.rescue := by rw [refreshStudio_only]
@[simp] theorem refreshStudio_callers (b : Bool) (s : State) : (refreshStudio b s).callers = s.callers := by rw [refreshStudio_only]
@[simp] theorem refreshStudio_air (b : Bool) (s : State) : (refreshStudio b s).air = s.air := by rw [refreshStudio_only]
@[simp] theorem refreshStudio_monitor (b : Bool) (s : State) : (refreshStudio b s).monitor = s.monitor := by rw [refreshStudio_only]
@[simp] theorem refreshStudio_delay (b : Bool) (s : State) : (refreshStudio b s).delay = s.delay := by rw [refreshStudio_only]
@[simp] theorem refreshStudio_decoder (b : Bool) (s : State) : (refreshStudio b s).decoder = s.decoder := by rw [refreshStudio_only]
@[simp] theorem refreshStudio_alerts (b : Bool) (s : State) : (refreshStudio b s).alerts = s.alerts := by rw [refreshStudio_only]
@[simp] theorem refreshStudio_airing (b : Bool) (s : State) : (refreshStudio b s).airing = s.airing := by rw [refreshStudio_only]
@[simp] theorem refreshStudio_link (b : Bool) (s : State) : (refreshStudio b s).link = s.link := by rw [refreshStudio_only]
@[simp] theorem refreshStudio_faults (b : Bool) (s : State) : (refreshStudio b s).faults = s.faults := by rw [refreshStudio_only]
@[simp] theorem refreshStudio_log (b : Bool) (s : State) : (refreshStudio b s).log = s.log := by rw [refreshStudio_only]

@[simp] theorem giveUp_pending (u : BusUser) (b : Bool) (s : State) : (giveUp u b s).pending = s.pending := by rw [giveUp_only]
@[simp] theorem giveUp_time (u : BusUser) (b : Bool) (s : State) : (giveUp u b s).time = s.time := by rw [giveUp_only]
@[simp] theorem giveUp_pendingTime (u : BusUser) (b : Bool) (s : State) : (giveUp u b s).pendingTime = s.pendingTime := by rw [giveUp_only]
@[simp] theorem giveUp_survey (u : BusUser) (b : Bool) (s : State) : (giveUp u b s).survey = s.survey := by rw [giveUp_only]
@[simp] theorem giveUp_sections (u : BusUser) (b : Bool) (s : State) : (giveUp u b s).sections = s.sections := by rw [giveUp_only]
@[simp] theorem giveUp_mirror (u : BusUser) (b : Bool) (s : State) : (giveUp u b s).mirror = s.mirror := by rw [giveUp_only]
@[simp] theorem giveUp_clock (u : BusUser) (b : Bool) (s : State) : (giveUp u b s).clock = s.clock := by rw [giveUp_only]
@[simp] theorem giveUp_gpi (u : BusUser) (b : Bool) (s : State) : (giveUp u b s).gpi = s.gpi := by rw [giveUp_only]
@[simp] theorem giveUp_walker (u : BusUser) (b : Bool) (s : State) : (giveUp u b s).walker = s.walker := by rw [giveUp_only]
@[simp] theorem giveUp_decks (u : BusUser) (b : Bool) (s : State) : (giveUp u b s).decks = s.decks := by rw [giveUp_only]
@[simp] theorem giveUp_fetch (u : BusUser) (b : Bool) (s : State) : (giveUp u b s).fetch = s.fetch := by rw [giveUp_only]
@[simp] theorem giveUp_rescue (u : BusUser) (b : Bool) (s : State) : (giveUp u b s).rescue = s.rescue := by rw [giveUp_only]
@[simp] theorem giveUp_callers (u : BusUser) (b : Bool) (s : State) : (giveUp u b s).callers = s.callers := by rw [giveUp_only]
@[simp] theorem giveUp_mixer (u : BusUser) (b : Bool) (s : State) : (giveUp u b s).mixer = s.mixer := by rw [giveUp_only]
@[simp] theorem giveUp_air (u : BusUser) (b : Bool) (s : State) : (giveUp u b s).air = s.air := by rw [giveUp_only]
@[simp] theorem giveUp_monitor (u : BusUser) (b : Bool) (s : State) : (giveUp u b s).monitor = s.monitor := by rw [giveUp_only]
@[simp] theorem giveUp_delay (u : BusUser) (b : Bool) (s : State) : (giveUp u b s).delay = s.delay := by rw [giveUp_only]
@[simp] theorem giveUp_decoder (u : BusUser) (b : Bool) (s : State) : (giveUp u b s).decoder = s.decoder := by rw [giveUp_only]
@[simp] theorem giveUp_alerts (u : BusUser) (b : Bool) (s : State) : (giveUp u b s).alerts = s.alerts := by rw [giveUp_only]
@[simp] theorem giveUp_airing (u : BusUser) (b : Bool) (s : State) : (giveUp u b s).airing = s.airing := by rw [giveUp_only]
@[simp] theorem giveUp_link (u : BusUser) (b : Bool) (s : State) : (giveUp u b s).link = s.link := by rw [giveUp_only]
@[simp] theorem giveUp_faults (u : BusUser) (b : Bool) (s : State) : (giveUp u b s).faults = s.faults := by rw [giveUp_only]
@[simp] theorem giveUp_log (u : BusUser) (b : Bool) (s : State) : (giveUp u b s).log = s.log := by rw [giveUp_only]

/-! ## What the fault unit holds after a raising (R178) -/

theorem FaultKind.code_lt (k : FaultKind) : k.code < 18 := by cases k <;> decide

theorem getLsbD_setKind_self (w : BitVec 18) (k : FaultKind) : (setKind w k).getLsbD k.code = true := by
  cases k <;> simp [setKind, FaultKind.code]

/-- The fault unit after a raising is what R178 makes of it, whatever the log writer does. -/
theorem raise_faults (r : Raising) (s : State) :
    (raise r s).faults = s.faults.take (s.sections.station.mask.getLsbD r.kind.code) s.time r := by
  unfold raise; dsimp only; split
  · split <;> rfl
  · rfl

/-- A raised kind has its status set (R178). -/
@[simp] theorem raise_status (r : Raising) (s : State) : (raise r s).faults.status.getLsbD r.kind.code = true := by
  rw [raise_faults]; unfold Faults.take; split
  · exact getLsbD_setKind_self _ _
  · split
    · assumption
    · split <;> exact getLsbD_setKind_self _ _

@[simp] theorem writeError_status (u : UnitId) (s : State) :
    (writeError u s).faults.status.getLsbD FaultKind.writeError.code = true := raise_status (Raising.plain .writeError u) s

/-! ## What an entry handed and a raising depend on

The rest of the state may change before or after them. -/

/-- Handing an entry reads the log writer, the part state, the section copies and the time alone (R183, R184). -/
theorem handLog_log_eq (e : LogEntry) {s t : State} (hl : t.log = s.log) (hr : t.survey.state = s.survey.state)
    (hs : t.sections = s.sections) (ht : t.time = s.time) : (handLog e t).log = (handLog e s).log := by
  simp only [handLog, State.running, hl, hr, hs, ht]
/-- A raising reads the fault unit, the log writer, the part state, the section copies and the time alone (R178). -/
theorem raise_eq (r : Raising) {s t : State} (hf : t.faults = s.faults) (hl : t.log = s.log)
    (hr : t.survey.state = s.survey.state) (hs : t.sections = s.sections) (ht : t.time = s.time) :
    raise r t = { t with faults := (raise r s).faults, log := (raise r s).log } := by
  have hn : t.newFault r.kind = s.newFault r.kind := by simp only [State.newFault, hf, hs]
  have hc : t.classOf r.kind = s.classOf r.kind := by simp only [State.classOf, hs]
  have he : ∀ b, faultEntry t r b = faultEntry s r b := by intro b; simp only [faultEntry, hc, ht]
  have hw : t.notices = s.notices := by simp only [State.notices, State.running, hr, hs]
  unfold raise
  simp only [hn, hc, he, hw, hf, hs, ht]
  split
  · split <;> simp only [handLog, State.running, hl, hr]
  · rw [← hl]

/-! ## Bus completions (log entry 8) -/

@[simp] theorem onRead_fresh {u : BusUser} {s : State} (f : State → State) (h : s.bus.staleOf u = none) :
    onRead u s f = f s := by unfold onRead; rw [h]
@[simp] theorem onWrite_fresh {u : BusUser} {s : State} (r : UnitId) (ok : Bool) (f : State → State)
    (h : s.bus.staleOf u = none) : onWrite u r ok s f = f s := by unfold onWrite; rw [h]

/-! ## Conditions that a log entry or a raising leaves -/

@[simp] theorem handLog_deck (e : LogEntry) (s : State) (d : DeckId) : (handLog e s).deck d = s.deck d := rfl
@[simp] theorem handLog_line (e : LogEntry) (s : State) (n : LineNo) : (handLog e s).line n = s.line n := rfl
@[simp] theorem handLog_entry (e : LogEntry) (s : State) (n : EntryNo) : (handLog e s).entry n = s.entry n := rfl
@[simp] theorem raise_deck (r : Raising) (s : State) (d : DeckId) : (raise r s).deck d = s.deck d := by
  rw [raise_only]; rfl
@[simp] theorem raise_line (r : Raising) (s : State) (n : LineNo) : (raise r s).line n = s.line n := by
  rw [raise_only]; rfl
@[simp] theorem raise_entry (r : Raising) (s : State) (n : EntryNo) : (raise r s).entry n = s.entry n := by
  rw [raise_only]; rfl
@[simp] theorem noteDemand_deck (s : State) (d : DeckId) : (noteDemand s).deck d = s.deck d := by
  rw [noteDemand_only]; rfl
@[simp] theorem refreshStudio_deck (b : Bool) (s : State) (d : DeckId) : (refreshStudio b s).deck d = s.deck d := by
  rw [refreshStudio_only]; rfl

end Sys2Proof.Machine
end

