-- ==== Sys2Proof/Laws/Units.lean ====
section
/-! SUPPORT. What the units' larger operations leave of the state, and the log head that no entry handed moves. -/

namespace Sys2Proof.Machine

open Sys2Proof

/-! ## The log head (R183): handing entries never moves it -/

theorem takeNext_head (set : LogSettings) (now : Time) (q : List LogEntry) (l : LogWriter) :
    (LogWriter.takeNext set now q l).head = l.head := by
  induction q generalizing l with
  | nil => rfl
  | cons e q ih =>
    unfold LogWriter.takeNext; split
    · split
      · rfl
      · split <;> rfl
    · rw [ih]; rfl
theorem pump_head (b : Bool) (set : LogSettings) (a : Addr) (now : Time) (l : LogWriter) :
    (l.pump b set a now).head = l.head := by
  unfold LogWriter.pump; split
  · exact takeNext_head ..
  · rfl
theorem hand_head (b : Bool) (set : LogSettings) (a : Addr) (now : Time) (e : LogEntry) (l : LogWriter) :
    (l.hand b set a now e).head = l.head := by
  unfold LogWriter.hand; split
  · rw [pump_head]
  · rfl
@[simp] theorem urge_head (b : Bool) (e : LogEntry) (l : LogWriter) : (l.urge b e).head = l.head := rfl
@[simp] theorem urge_urgent (b : Bool) (e : LogEntry) (l : LogWriter) : (l.urge b e).urgent = true := rfl
@[simp] theorem urge_queue (b : Bool) (e : LogEntry) (l : LogWriter) : (l.urge b e).queue = l.queue := rfl
@[simp] theorem urge_dropped (b : Bool) (e : LogEntry) (l : LogWriter) : (l.urge b e).dropped = l.dropped := rfl
@[simp] theorem handLog_head (e : LogEntry) (s : State) : (handLog e s).log.head = s.log.head := hand_head ..
@[simp] theorem handLogs_head (es : List LogEntry) (s : State) : (handLogs es s).log.head = s.log.head := by
  induction es generalizing s with
  | nil => rfl
  | cons e es ih => simp only [handLogs, List.foldl_cons] at *; rw [ih, handLog_head]
@[simp] theorem raise_head (r : Raising) (s : State) : (raise r s).log.head = s.log.head := by
  unfold raise; dsimp only; split
  · split <;> simp
  · rfl
@[simp] theorem writeError_head (u : UnitId) (s : State) : (writeError u s).log.head = s.log.head := raise_head _ s
@[simp] theorem logDelay_head (c : DelayCause) (o s : State) : (logDelay c o s).log.head = s.log.head := by
  unfold logDelay; split <;> simp
@[simp] theorem dump_head (src : DumpSource) (s : State) : (dump src s).2.log.head = s.log.head := by
  unfold dump; split
  · simp
  · rfl
@[simp] theorem refireAll_head (s : State) : (refireAll s).log.head = s.log.head := by
  unfold refireAll; generalize places8 = l
  induction l generalizing s with
  | nil => rfl
  | cons n l ih => simp only [List.foldl_cons]; rw [ih]; unfold refire; split <;> simp
@[simp] theorem noteDelay_head (c : DelayCause) (o s : State) : (noteDelay c o s).log.head = s.log.head := by
  unfold noteDelay; dsimp only; split <;> simp

/-! ## Settings -/

theorem regainFill_only (g : Nat) (s : State) : regainFill g s = { s with mixer := (regainFill g s).mixer } := by
  unfold regainFill; split <;> rfl
theorem delaySettings_only (o s : State) :
    delaySettings o s = { s with delay := (delaySettings o s).delay, log := (delaySettings o s).log } := by
  unfold delaySettings; rw [noteDelay_only]
theorem putStation_only (x : Station) (s : State) :
    putStation x s = { s with
      sections := { s.sections with station := x }, mixer := (putStation x s).mixer
      delay := (putStation x s).delay, log := (putStation x s).log } := by
  unfold putStation; extract_lets s1
  rw [delaySettings_only, regainFill_only, refreshStudio_only]
@[simp] theorem putStation_head (x : Station) (s : State) : (putStation x s).log.head = s.log.head := by
  unfold putStation delaySettings; extract_lets s1
  rw [noteDelay_head]; dsimp only; rw [regainFill_only, refreshStudio_only]
theorem rearm_only (old : Eight GpiSetting) (s : State) : rearm old s = { s with gpi := (rearm old s).gpi } := rfl
theorem useStation_only (x : Station) (s : State) :
    useStation x s = { s with
      sections := { s.sections with station := x }, gpi := (useStation x s).gpi, mixer := (useStation x s).mixer
      delay := (useStation x s).delay, log := (useStation x s).log } := by
  unfold useStation; rw [rearm_only, putStation_only]
@[simp] theorem useStation_head (x : Station) (s : State) : (useStation x s).log.head = s.log.head :=
  putStation_head x s
/-- A line's armed flag is worked out again exactly when its setting has changed; the rest of its record stays (R29). -/
theorem rearm_line (old : Eight GpiSetting) (s : State) (n : GpiNo) :
    (rearm old s).gpi.get n = if s.sections.station.gpi.get n = old.get n then s.gpi.get n
      else { s.gpi.get n with armed := (s.sections.station.gpi.get n).armedAt (s.gpi.get n).accepted } := by
  simp [rearm]
/-- START's default copies leave the line records (R29). -/
theorem defaultCopies_gpi (s : State) : (defaultCopies s).gpi = s.gpi := by
  unfold defaultCopies; rw [putStation_only]; dsimp only; split <;> rfl
theorem applyCallers_only (x : CallerSettings) (s : State) :
    applyCallers x s = { s with
      callers := (applyCallers x s).callers, mixer := (applyCallers x s).mixer, log := (applyCallers x s).log } := by
  unfold applyCallers; dsimp only; rw [holdGroup_only]
theorem readIndex_only (c : Word) (s : State) :
    readIndex c s = { s with faults := (readIndex c s).faults, log := (readIndex c s).log } := by
  unfold readIndex; split
  · rfl
  · split
    · rw [raise_only]
    · rfl
theorem refuseSection_only (sec : Sec) (e : Word) (r : RefuseReason) (s : State) :
    refuseSection sec e r s = { s with
      survey := (refuseSection sec e r s).survey, faults := (refuseSection sec e r s).faults
      log := (refuseSection sec e r s).log } := by
  unfold refuseSection; rw [raise_only]
theorem failSection_only (sec : Sec) (s : State) :
    failSection sec s = { s with
      survey := (failSection sec s).survey, faults := (failSection sec s).faults, log := (failSection sec s).log } := by
  unfold failSection cbRead; dsimp only; rw [raise_only]

/-! ## Decks -/

theorem dropDeck_only (d : DeckId) (s : State) :
    dropDeck d s = { s with
      bus := (dropDeck d s).bus, decks := (dropDeck d s).decks, fetch := (dropDeck d s).fetch
      mixer := (dropDeck d s).mixer } := by
  unfold dropDeck; rw [clearDeck_only, giveUp_only]
theorem attemptWrite_only (d : DeckId) (o : PairWrite) (w : RecordWrite) (s : State) :
    attemptWrite d o w s = { s with
      bus := (attemptWrite d o w s).bus, faults := (attemptWrite d o w s).faults, log := (attemptWrite d o w s).log } := by
  unfold attemptWrite; dsimp only; split
  · rfl
  · rw [writeError_only]
theorem attemptWrites_only (d : DeckId) (os : DeckWrites) (ws : List RecordWrite) (s : State) :
    attemptWrites d os ws s = { s with
      bus := (attemptWrites d os ws s).bus, faults := (attemptWrites d os ws s).faults
      log := (attemptWrites d os ws s).log } := by
  induction ws generalizing os s with
  | nil => cases os <;> rfl
  | cons w ws ih => unfold attemptWrites; rw [ih, attemptWrite_only]
/-- What one attempt leaves on the list of a reset's writes (R39). -/
theorem attemptWrite_writes (d : DeckId) (o : PairWrite) (w : RecordWrite) (s : State) :
    (attemptWrite d o w s).bus.resetWrites = s.bus.resetWrites ++ w.made o := by
  unfold attemptWrite; dsimp only; split <;> simp
/-- Each write of a deck is attempted once with its own outcome, oldest first; past the outcomes given all are good (R5,
R39). -/
theorem attemptWrites_writes (d : DeckId) (os : DeckWrites) (ws : List RecordWrite) (s : State) :
    (attemptWrites d os ws s).bus.resetWrites =
      s.bus.resetWrites ++ (ws.zipIdx.flatMap (fun p => p.1.made (os.getD p.2 .good))) := by
  suffices h : ∀ k, (attemptWrites d (os.drop k) ws s).bus.resetWrites =
      s.bus.resetWrites ++ ((ws.zipIdx k).flatMap (fun p => p.1.made (os.getD p.2 .good))) by simpa using h 0
  induction ws generalizing s with
  | nil => intro k; cases os.drop k <;> simp [attemptWrites]
  | cons w ws ih =>
    intro k
    have hd : (os.drop k).headD .good = os.getD k .good := by
      simp [List.headD_eq_head?_getD, List.getD_eq_getElem?_getD]
    unfold attemptWrites
    rw [List.tail_drop, ih, attemptWrite_writes, hd]
    simp
theorem abandonDeck_only (d : DeckId) (r : EndReason) (o : DeckWrites) (s : State) :
    abandonDeck d r o s = { s with
      bus := (abandonDeck d r o s).bus, decks := (abandonDeck d r o s).decks, fetch := (abandonDeck d r o s).fetch
      mixer := (abandonDeck d r o s).mixer, faults := (abandonDeck d r o s).faults, log := (abandonDeck d r o s).log } := by
  unfold abandonDeck; dsimp only; split
  · rw [attemptWrites_only, clearDeck_only]
  · rw [attemptWrites_only, handLog_only, clearDeck_only]
theorem stopRunOut_only (s : State) :
    stopRunOut s = { s with decks := (stopRunOut s).decks, mixer := (stopRunOut s).mixer } := by
  unfold stopRunOut; split <;> rfl
theorem noteOwed_only (d : DeckId) (s : State) : noteOwed d s = { s with decks := (noteOwed d s).decks } := by
  unfold noteOwed; split <;> rfl
theorem pauseDecks_only (s : State) :
    pauseDecks s = { s with decks := (pauseDecks s).decks, mixer := (pauseDecks s).mixer } := by
  unfold pauseDecks; split
  · rfl
  · rw [refreshStudio_only]
theorem releaseDecks_only (s : State) :
    releaseDecks s = { s with decks := (releaseDecks s).decks, mixer := (releaseDecks s).mixer } := by
  unfold releaseDecks; split
  · rw [noteOwed_only, noteOwed_only, refreshStudio_only]
  · rfl

/-! ## Walker -/

theorem endWalk_only (st : WalkState) (s : State) : endWalk st s = { s with walker := (endWalk st s).walker } := by
  unfold endWalk; rw [noteDemand_only]
theorem stopWalk_only (s : State) : stopWalk s = { s with walker := (stopWalk s).walker, bus := (stopWalk s).bus } := by
  unfold stopWalk; split
  · rw [endWalk_only, giveUp_only]
  · rfl
theorem setHead_only (h : Addr) (s : State) :
    setHead h s = { s with walker := (setHead h s).walker, bus := (setHead h s).bus } := by
  unfold setHead; dsimp only; rw [stopWalk_only]
theorem stopWalker_only (s : State) :
    stopWalker s = { s with walker := (stopWalker s).walker, bus := (stopWalker s).bus } := by
  unfold stopWalker; dsimp only; rw [giveUp_only, stopWalk_only]

/-! ## Rescue store -/

theorem abandonLoad_only (s : State) :
    abandonLoad s = { s with
      bus := (abandonLoad s).bus, fetch := s.fetch.discard .loader, rescue := (abandonLoad s).rescue } := by
  unfold abandonLoad; dsimp only; split <;> rw [giveUp_only]
theorem silenceReaders_only (s : State) :
    silenceReaders s = { s with
      decks := { s.decks with fillLive := false }, monitor := { s.monitor with live := false } } := rfl
theorem emptyStore_only (s : State) :
    emptyStore s = { s with
      bus := (emptyStore s).bus, fetch := s.fetch.discard .loader, rescue := (emptyStore s).rescue
      decks := { s.decks with fillLive := false }, monitor := { s.monitor with live := false } } := by
  unfold emptyStore; dsimp only; rw [abandonLoad_only]; rfl
theorem beginLoad_only (fill : Addr) (s : State) :
    beginLoad fill s = { s with
      bus := (beginLoad fill s).bus, fetch := s.fetch.discard .loader, rescue := (beginLoad fill s).rescue
      decks := (beginLoad fill s).decks, monitor := (beginLoad fill s).monitor } := by
  unfold beginLoad; split
  · rw [emptyStore_only]
  · dsimp only; rw [abandonLoad_only]
theorem storeHalt_only (s : State) :
    storeHalt s = { s with
      bus := (storeHalt s).bus, fetch := (storeHalt s).fetch, rescue := (storeHalt s).rescue
      decks := (storeHalt s).decks, monitor := (storeHalt s).monitor } := by
  unfold storeHalt; split
  · dsimp only; rw [abandonLoad_only]; rfl
  · rfl
theorem loadFailed_only (r : FillReason) (snap : List Byte) (s : State) :
    loadFailed r snap s = { s with
      rescue := (loadFailed r snap s).rescue, faults := (loadFailed r snap s).faults, log := (loadFailed r snap s).log } := by
  unfold loadFailed; rw [raise_only]

/-! ## Alerts and airing -/

theorem finishEntry_only (n : EntryNo) (st : EntryState) (s : State) :
    finishEntry n st s = { s with alerts := (finishEntry n st s).alerts } := rfl
theorem expireEntry_only (n : EntryNo) (s : State) :
    expireEntry n s = { s with alerts := (expireEntry n s).alerts, log := (expireEntry n s).log } := rfl
theorem airingCheck_only (l : List Queued) (s : State) :
    (airingCheck l s).2 = { s with alerts := (airingCheck l s).2.alerts, log := (airingCheck l s).2.log } := by
  induction l generalizing s with
  | nil => rfl
  | cons q l ih =>
    unfold airingCheck; split
    · rw [ih, expireEntry_only]
    · rfl
theorem delayRunEnd_only (s : State) :
    delayRunEnd s = { s with delay := (delayRunEnd s).delay, log := (delayRunEnd s).log } := by
  unfold delayRunEnd; dsimp only; split
  · rfl
  · split <;> rw [noteDelay_only]
theorem endRun_only (s : State) :
    endRun s = { s with
      airing := (endRun s).airing, delay := (endRun s).delay, log := (endRun s).log, decks := (endRun s).decks
      mixer := (endRun s).mixer, air := (endRun s).air } := by
  unfold endRun; dsimp only; rw [arbitrate_only, releaseDecks_only, delayRunEnd_only]

/-! ## Link -/

theorem noteDown_only (p : PortId) (s : State) :
    noteDown p s = { s with link := (noteDown p s).link, faults := (noteDown p s).faults, log := (noteDown p s).log } := by
  unfold noteDown raisePort; split
  · rw [raise_only]
  · rfl
theorem portFalls_only (p : PortId) (c : LinkCause) (s : State) :
    portFalls p c s = { s with
      link := (portFalls p c s).link, faults := (portFalls p c s).faults, log := (portFalls p c s).log } := by
  unfold portFalls; dsimp only; split <;> rw [noteDown_only] <;> rfl
theorem discardOldest_only (s : State) :
    discardOldest s = { s with
      link := (discardOldest s).link, faults := (discardOldest s).faults, log := (discardOldest s).log } := by
  unfold discardOldest; dsimp only; split
  · rw [raise_only]
  · rfl
theorem portGood_only (p : PortId) (bs : List Byte) (s : State) :
    portGood p bs s = { s with link := (portGood p bs s).link, log := (portGood p bs s).log } := by
  unfold portGood; extract_lets x y s1 l s2
  have h : s2 = { s with link := s2.link } := by simp only [s2]; split <;> rfl
  clear_value s2
  split
  · rw [h]
  · rw [handLog_only, h]
theorem changePort_only (p : PortId) (c : LinkCause) (s : State) :
    changePort p c s = { s with link := (changePort p c s).link, log := (changePort p c s).log } := rfl

end Sys2Proof.Machine
end

