-- ==== Sys2Proof/Laws/Effects.lean ====
section
/-! SUPPORT. What the decks', the clock's and HALT's larger operations do: one lemma each, cited instead of unfolding. -/

namespace Sys2Proof.Machine

open Sys2Proof

/-! ## Marks while the clock is on an external source (R20, R22, R23) -/

theorem raise_setClock (r : Raising) (c : Clock) (s : State) :
    raise r { s with clock := c } = { raise r s with clock := c } := by
  rw [raise_eq r (s := s) (t := { s with clock := c }) rfl rfl rfl rfl rfl]
  conv_rhs => rw [raise_only]
theorem loseClock_eq (x : ClockSource) (s : State) :
    loseClock x s = { raise ⟨.clockLoss, .stationClock, BitVec.ofNat 64 x.code, 0, 0, zeros16⟩ s with
      clock := { s.clock with pending := some (.lost x), lost := true } } := raise_setClock _ _ s
/-- A bad mark counts below the limit; at the limit it raises CLOCK_LOSS; after the loss it does nothing. -/
theorem badMark_onExternal (x : ClockSource) (s : State) (h : s.clock.state = .onExternal x) :
    (s.clock.lost = false → s.clock.badRun < 3 →
      badMark s = { s with clock := { s.clock with badRun := s.clock.badRun + 1 } }) ∧
    (s.clock.lost = false → 3 ≤ s.clock.badRun →
      badMark s = { raise ⟨.clockLoss, .stationClock, BitVec.ofNat 64 x.code, 0, 0, zeros16⟩ s with
        clock := { s.clock with badRun := 4, pending := some (.lost x), lost := true } }) ∧
    (s.clock.lost = true → badMark s = s) := by
  refine ⟨?_, ?_, ?_⟩
  · intro h1 h2; simp [badMark, h, h1, Config.lossMarks, show ¬ 3 ≤ s.clock.badRun by omega]; omega
  · intro h1 h2
    have hm : min (s.clock.badRun + 1) 4 = 4 := by omega
    simp only [badMark, h, h1, Config.lossMarks, hm]
    rw [if_neg (by simp), if_pos (by omega), loseClock_eq, raise_setClock]
  · intro h1; simp [badMark, h, h1]

/-! ## Starts (R59, R60, R61) -/

theorem endRunOut_leaves (s : State) : (endRunOut s).decks.runOut = false ∧
    (∀ d, (endRunOut s).deck d = s.deck d) ∧ (endRunOut s).mixer.deckRamp = s.mixer.deckRamp ∧
      (endRunOut s).log = s.log ∧ (endRunOut s).survey = s.survey ∧ (endRunOut s).sections = s.sections ∧
        (endRunOut s).time = s.time ∧
          endRunOut s = { s with decks := (endRunOut s).decks, mixer := (endRunOut s).mixer } := by
  unfold endRunOut; split <;> simp_all [State.deck]
theorem refreshStudio_deckRamp (b : Bool) (s : State) :
    (refreshStudio b s).mixer.deckRamp = s.mixer.deckRamp := by unfold refreshStudio; split <;> rfl

/-- A start of a record that does not end at once: the deck PLAYING with its start outcome to write, run-out ended, the
deck's gain ramp begun, SEGMENT_START handed; the other deck stays. -/
theorem startDeck_playing (d : DeckId) (ow : Bool) (s : State) (h : (s.deck d).instant = false) :
    let k := s.deck d
    let p := k.startHalf s.time ow s.decks.noFill
    let playing := { k with
      state := .playing, part := p, owed := false, fired := false, fading := false, lastEnd := s.time }
    let t := startDeck d ow s
    t.deck d = { playing with
        fading := playing.fadesNow, writes := pushWrite s.running k.addr p .playing k.writes } ∧
      t.deck d.other = s.deck d.other ∧ t.decks.runOut = false ∧ t.decks.noFill = false ∧
      t.decks.lastStarted = some d ∧ t.mixer.deckRamp.get d = startRamp playing (s.mixer.deckRamp.get d) ∧
      t.log = (handLog (segmentEntry .segmentStart (deckUnit d) s.time k.addr k.copy.tag p .playing) s).log ∧
      t = { s with decks := t.decks, mixer := t.mixer, walker := t.walker, log := t.log } := by
  intro k p playing t
  have h : k.instant = false := h
  have ht : t = startDeck d ow s := rfl
  unfold startDeck at ht; extract_lets k1 s1 dk s2 s3 s4 at ht
  rw [if_neg (by simp [h])] at ht
  have e1 : (endRunOut (s.setDeck d k1)) = s1 := rfl
  obtain ⟨f1, f2, f3, f4, f5, f6, f7, f8⟩ := endRunOut_leaves (s.setDeck d k1)
  rw [e1] at f1 f2 f3 f4 f5 f6 f7 f8
  have e4 : s4 = { s3 with
      walker := s4.walker
      log := (handLog (segmentEntry .segmentStart (deckUnit d) p.airedStart k.addr k.copy.tag p .playing) s3).log } := by
    simp only [s4]; rw [noteDemand_only]; rfl
  have e3 : s3 = { s2.mapDeckRamp d (startRamp playing) with mixer := s3.mixer } := by
    simp only [s3]; rw [refreshStudio_only]
  have em : s3.mixer.deckRamp.get d = startRamp playing (s.mixer.deckRamp.get d) := by
    simp only [s3, refreshStudio_deckRamp, s2, State.mapDeckRamp, f3]; simp
  have ed : s3.decks = s2.decks := by rw [e3]; rfl
  rw [ht]
  refine ⟨?_, ?_, ?_, ?_, ?_, ?_, ?_, ?_⟩
  · rw [e4]; show s3.decks.deck.get d = _; rw [ed]; show s1.deck d = _; rw [f2]; simp; rfl
  · rw [e4]; show s3.decks.deck.get d.other = _; rw [ed]; show s1.deck d.other = _; rw [f2]; simp
  · rw [e4]; show s3.decks.runOut = _; rw [ed]; exact f1
  · rw [e4]; show s3.decks.noFill = _; rw [ed]
  · rw [e4]; show s3.decks.lastStarted = _; rw [ed]
  · rw [e4]; refine Eq.trans ?_ em; rfl
  · rw [e4]; dsimp only; apply handLog_log_eq
    · rw [e3]; exact f4
    · rw [e3]; exact congrArg Survey.state f5
    · rw [e3]; exact f6
    · rw [e3]; exact f7
  · rw [e4, e3]; simp only [s2]; rw [f8]; rfl

/-! ## Ends (R62, R66, R67) -/

/-- An end leaves the deck EMPTY with its final outcome to write and hands SEGMENT_END; the other deck stays. -/
theorem endDeck_empties (b : Bool) (d : DeckId) (st : RecState) (r : EndReason) (tr : Bool) (s : State) :
    let k := s.deck d
    let p := k.finalHalf r tr
    let t := endDeck b d st r tr s
    t.deck d = k.emptied (pushWrite s.running k.addr p st k.writes) ∧ t.deck d.other = s.deck d.other ∧
      t.decks.pause = s.decks.pause ∧
      t.log = (handLog (segmentEntry .segmentEnd (deckUnit d) (k.endTime s.time) k.addr k.copy.tag p st) s).log ∧
      t = { s with decks := t.decks, mixer := t.mixer, walker := t.walker, fetch := t.fetch, log := t.log } := by
  intro k p t
  have e : t = endDeck b d st r tr s := rfl
  unfold endDeck at e; extract_lets s1 at e
  have h1 : s1 = { s with decks := s1.decks, mixer := s1.mixer, fetch := s1.fetch } := by
    simp only [s1]; rw [clearDeck_only]
  have h2 : s1.deck d = k.emptied (pushWrite s.running k.addr p st k.writes) := by
    simp only [s1, clearDeck]; rw [refreshStudio_deck]; simp [State.deck, State.setDeck, State.mapDeckRamp]; rfl
  have h3 : s1.deck d.other = s.deck d.other := by
    simp only [s1, clearDeck]; rw [refreshStudio_deck]; simp [State.deck, State.setDeck, State.mapDeckRamp]
  have h4 : s1.decks.pause = s.decks.pause := by
    simp only [s1, clearDeck]; rw [refreshStudio_only]; rfl
  rw [noteDemand_only] at e
  rw [e]
  refine ⟨h2, h3, h4, ?_, ?_⟩
  · dsimp only; apply handLog_log_eq <;> rw [h1]
  · dsimp only; rw [handLog_only]; rw [h1]

/-- A sounding deck that ends at a boundary: as `endDeck`, and a record LOADING in the other deck whose start that end
was becomes owed (R59). -/
theorem endAtBoundary_empties (s : State) (d : DeckId) (st : RecState) (why : EndReason) (tr : Bool)
    (hk : (s.deck d).state.sounding = true) :
    let k := s.deck d
    let o := s.deck d.other
    let p := k.finalHalf why tr
    let after := if o.state = .loading ∧ s.decks.pause = false ∧ (o.copy.hardPresent = false ∨
        (o.copy.soft = true ∧ reached s.time o.copy.hardTime = true)) then { o with owed := true } else o
    let t := endAtBoundary d st why tr s
    t.deck d = k.emptied (pushWrite s.running k.addr p st k.writes) ∧ t.deck d.other = after ∧
      t.log = (handLog (segmentEntry .segmentEnd (deckUnit d) k.lastEnd k.addr k.copy.tag p st) s).log ∧
      t = { s with decks := t.decks, mixer := t.mixer, walker := t.walker, fetch := t.fetch, log := t.log } := by
  intro k o p after u
  have hk : k.state.sounding = true := hk
  obtain ⟨e1, e2, e3, e4, e5⟩ := endDeck_empties true d st why tr s
  have hu : u = endAtBoundary d st why tr s := rfl
  unfold endAtBoundary at hu; extract_lets t at hu
  rw [hu]
  have e1 : t.deck d = k.emptied (pushWrite s.running k.addr p st k.writes) := e1
  have e2 : t.deck d.other = o := e2
  have e3 : t.decks.pause = s.decks.pause := e3
  have e4 : t.log =
    (handLog (segmentEntry .segmentEnd (deckUnit d) (k.endTime s.time) k.addr k.copy.tag p st) s).log := e4
  have e5 : t =
    { s with decks := t.decks, mixer := t.mixer, walker := t.walker, fetch := t.fetch, log := t.log } := e5
  have hl : k.endTime s.time = k.lastEnd := by simp [Deck.endTime, hk]
  rw [hl] at e4
  have ht : t.time = s.time := by rw [e5]
  have ow : t.owesAtEnd d.other = true ↔ (o.state = .loading ∧ s.decks.pause = false ∧
      (o.copy.hardPresent = false ∨ (o.copy.soft = true ∧ reached s.time o.copy.hardTime = true))) := by
    simp only [State.owesAtEnd, State.softReady, e2, e3, Deck.waits, ht]
    cases o.state <;> cases s.decks.pause <;> cases o.copy.hardPresent <;> cases o.copy.soft <;> simp
  by_cases h : t.owesAtEnd d.other = true
  · rw [if_pos h]; simp only [after]; rw [if_pos (ow.1 h)]
    refine ⟨?_, ?_, e4, ?_⟩
    · have := State.deck_setDeck_other t d.other {t.deck d.other with owed := true}
      rw [show d.other.other = d by cases d <;> rfl] at this; rw [this]; exact e1
    · rw [State.deck_setDeck_self]; exact congrArg (fun x : Deck => {x with owed := true}) e2
    · simp only [State.setDeck]; rw [e5]
  · rw [if_neg h]; simp only [after]; rw [if_neg (fun hc => h (ow.2 hc))]
    exact ⟨e1, e2, e4, e5⟩

/-! ## HALT and PROGRAMME_RESET (R5, R9) -/

theorem mem_joinWrite (ws : List RecordWrite) (w : RecordWrite) : w ∈ joinWrite w ws := by simp [joinWrite]

theorem abandonDeck_deck_self (d : DeckId) (r : EndReason) (o : DeckWrites) (s : State) :
    ((abandonDeck d r o s).deck d).state = .empty ∧
    ((abandonDeck d r o s).deck d).writes = [] := by
  unfold abandonDeck; dsimp only; split
  · rw [attemptWrites_only]; simp only [State.deck, clearDeck]; rw [refreshStudio_only]
    simp [State.setDeck, State.mapDeckRamp, Deck.emptied, Deck.blank]
  · rw [attemptWrites_only, handLog_only]; simp only [State.deck, clearDeck]; rw [refreshStudio_only]
    simp [State.setDeck, State.mapDeckRamp, Deck.emptied, Deck.blank]
theorem abandonDeck_deck_other (d : DeckId) (r : EndReason) (o : DeckWrites) (s : State) :
    (abandonDeck d r o s).deck d.other = s.deck d.other := by
  unfold abandonDeck; dsimp only; split
  · rw [attemptWrites_only]; simp only [State.deck, clearDeck]; rw [refreshStudio_only]
    simp [State.setDeck, State.mapDeckRamp, Deck.emptied, Deck.blank]
  · rw [attemptWrites_only, handLog_only]; simp only [State.deck, clearDeck]; rw [refreshStudio_only]
    simp [State.setDeck, State.mapDeckRamp, Deck.emptied, Deck.blank]
theorem clearDeck_bus (b d ws s) : (clearDeck b d ws s).bus = s.bus := by rw [clearDeck_only]

theorem stateWrite_mem_made (ws : List RecordWrite) (w : RecordWrite) (h : w ∈ ws) (hw : w.phase ≠ .last) (os : DeckWrites)
    (ho : ∀ o ∈ os, o = PairWrite.good) (k : Nat) :
    w.stateWrite ∈ (ws.zipIdx k).flatMap (fun p => p.1.made (os.getD p.2 .good)) := by
  have hg : ∀ k, os.getD k .good = .good := by
    intro k; rw [List.getD_eq_getElem?_getD]; cases h : os[k]? with
    | none => rfl
    | some o => exact ho o (List.mem_of_getElem? h)
  simp only [hg]
  induction ws generalizing k with
  | nil => simp at h
  | cons x xs ih =>
    simp only [List.zipIdx_cons, List.flatMap_cons, List.mem_append]
    rcases List.mem_cons.1 h with rfl|h
    · left; simp only [RecordWrite.made, RecordWrite.stateLeft]; cases hp : w.phase <;> simp_all
    · right; exact ih h _

/-- What an abandoned deck hands on to its attempts: an EMPTY deck its writes alone; any other the ABANDONED write in the
place of the held one of its record, with SEGMENT_END handed before the first attempt (R40). -/
theorem abandonDeck_eq (d : DeckId) (r : EndReason) (o : DeckWrites) (s : State) :
    let k := s.deck d
    let p := k.finalHalf r true
    let s1 := clearDeck false d [] s
    (k.state = .empty → abandonDeck d r o s = attemptWrites d o k.writes s1) ∧
    (k.state ≠ .empty → abandonDeck d r o s =
      attemptWrites d o (joinWrite ⟨k.addr, p, .abandoned, .waiting, false⟩ k.writes)
        (handLog (segmentEntry .segmentEnd (deckUnit d) (k.endTime s.time) k.addr k.copy.tag p .abandoned) s1)) := by
  refine ⟨fun h => ?_, fun h => ?_⟩ <;> simp [abandonDeck, h]

/-- The writes of an abandoned deck: with good outcomes the ABANDONED state word among them; none for an EMPTY deck that
owes none; nothing again for the state word in flight of an EMPTY deck's final write; and a failed write of an older
record raises WRITE_ERROR and leaves the ABANDONED one to be made. -/
theorem abandonDeck_writes (d : DeckId) (r : EndReason) (o : DeckWrites) (s : State) :
    ∃ l, (abandonDeck d r o s).bus.resetWrites = s.bus.resetWrites ++ l ∧
      ((s.deck d).state ≠ .empty → (∀ x ∈ o, x = .good) →
        ⟨(s.deck d).addr + 8, leBytes 4 RecState.abandoned.code⟩ ∈ l) ∧
      ((s.deck d).state = .empty → (s.deck d).writes = [] → l = [] ∧ (abandonDeck d r o s).faults = s.faults) ∧
      (∀ w, (s.deck d).state = .empty → (s.deck d).writes = [w] → w.phase = .last → l = []) ∧
      (∀ w, (s.deck d).state ≠ .empty → (s.deck d).writes = [w] → w.addr ≠ (s.deck d).addr →
        w.phase = .waiting ∨ w.phase = .held → o = [.halfFailed, .good] →
        (∃ p : PartHalf, p.flags.truncated = true ∧ p.reason = r ∧ l =
          [⟨(s.deck d).addr + 0x40, p.bytes⟩, ⟨(s.deck d).addr + 8, leBytes 4 RecState.abandoned.code⟩]) ∧
        (abandonDeck d r o s).faults = (raise ⟨.writeError, deckUnit d, 0, 0, 0, zeros16⟩ s).faults) := by
  obtain ⟨e1, e2⟩ := abandonDeck_eq d r o s
  by_cases h : (s.deck d).state = .empty
  · rw [e1 h]
    refine ⟨_, by rw [attemptWrites_writes, clearDeck_bus], ?_, ?_, ?_, ?_⟩
    · intro h1; contradiction
    · intro _ h1; simp [h1, attemptWrites]; rw [clearDeck_only]
    · intro w _ h1 h2; rw [h1]; cases hx : (o.getD 0 .good) <;>
        simp_all [RecordWrite.made, RecordWrite.halfLeft, RecordWrite.stateLeft]
    · intro w h1; contradiction
  · rw [e2 h]
    refine ⟨_, by rw [attemptWrites_writes, handLog_bus, clearDeck_bus], ?_, ?_, ?_, ?_⟩
    · intro _ ho
      exact stateWrite_mem_made _ _ (mem_joinWrite _ _) (by simp) _ ho 0
    · intro h1; contradiction
    · intro w h1; contradiction
    · intro w _ h2 h3 _ h4
      subst h4
      simp only [h2, joinWrite]
      simp [h3, RecordWrite.made, RecordWrite.halfLeft, RecordWrite.stateLeft, attemptWrites, attemptWrite,
        RecordWrite.halfWrite, RecordWrite.stateWrite]
      refine ⟨⟨_, ?_, ?_, rfl⟩, ?_⟩
      · simp [Deck.finalHalf]
      · simp [Deck.finalHalf]
      · rw [writeError, raise_faults, raise_faults]; simp; rw [clearDeck_only]; rfl

theorem giveUpSurvey_eq (s : State) : giveUpSurvey s =
    { s with bus := (giveUpSurvey s).bus, survey := { s.survey with phase := (giveUpSurvey s).survey.phase}} ∧
      (giveUpSurvey s).bus.resetWrites = s.bus.resetWrites := by
  unfold giveUpSurvey; split
  · exact ⟨rfl, rfl⟩
  · constructor
    · unfold State.setPhase; rw [giveUp_only]
    · simp [State.setPhase, giveUp]
theorem stopWalker_stops (s : State) : (stopWalker s).walker.walking = false ∧
    (stopWalker s).walker.ptr = s.walker.ptr ∧ (stopWalker s).bus.resetWrites = s.bus.resetWrites := by
  unfold stopWalker stopWalk endWalk noteDemand giveUp; dsimp only; split_ifs <;> simp_all
theorem storeHalt_resetWrites (s : State) : (storeHalt s).bus.resetWrites = s.bus.resetWrites := by
  unfold storeHalt; split
  · simp only [silenceReaders, abandonLoad, giveUp]; split_ifs <;> rfl
  · rfl
theorem storeHalt_deck (s : State) (d) : (storeHalt s).deck d = s.deck d := by
  unfold storeHalt; split
  · dsimp only [silenceReaders, State.deck]; rw [abandonLoad_only]
  · rfl
theorem storeHalt_monitor (s : State) : (storeHalt s).monitor.state = s.monitor.state ∧
    (storeHalt s).monitor.rescue = s.monitor.rescue := by
  unfold storeHalt; split
  · dsimp only [silenceReaders, State.deck]; rw [abandonLoad_only]; exact ⟨rfl, rfl⟩
  · exact ⟨rfl, rfl⟩
theorem holdAll_callers (c) (s : State) : (holdAll c s).callers = s.callers.held s.time false s.callers.onAir := by
  unfold holdAll holdGroup; dsimp only; rw [handLogs_only]

end Sys2Proof.Machine
end

