-- ==== Sys2Proof/Laws/Boundary.lean ====
section
/-! SUPPORT. What BLOCK_BOUNDARY leaves and what it settles (the aired end, the pause in force, the notice that is
considered), the record writes that are held, and the turn of the recordings that end at one boundary. -/

namespace Sys2Proof.Machine

open Sys2Proof

/-! ## The block in progress is completed -/

theorem recordBlock_only (n : EntryNo) (s : State) :
    recordBlock n s = { s with alerts := (recordBlock n s).alerts } := by
  unfold recordBlock; dsimp only; split
  · rfl
  · split <;> rfl

theorem completeRecordings_only (s : State) :
    completeRecordings s = { s with alerts := (completeRecordings s).alerts } := by
  unfold completeRecordings; generalize places8 = l
  induction l generalizing s with
  | nil => rfl
  | cons n l ih => simp only [List.foldl_cons]; rw [ih, recordBlock_only]

theorem noteLinkDown_only (s : State) : noteLinkDown s = { s with alerts := (noteLinkDown s).alerts } := by
  unfold noteLinkDown; split
  · rfl
  · split <;> rfl

/-- A silent run-out block marks NO_FILL and changes nothing else (R69). -/
theorem noteNoFill_only (s : State) :
    noteNoFill s = { s with decks := { s.decks with noFill := (noteNoFill s).decks.noFill } } := by
  unfold noteNoFill; split <;> rfl

/-- Completing a block gives its audio and its counts and changes nothing else (R69, R88, R98, R100, R138, R146). -/
theorem completeBlock_only (s : State) :
    completeBlock s = { s with
      mixer := { s.mixer with output := (completeBlock s).mixer.output, returns := (completeBlock s).mixer.returns }
      air := (completeBlock s).air, alerts := (completeBlock s).alerts
      decks := { s.decks with noFill := (completeBlock s).decks.noFill }
      airing := (completeBlock s).airing, monitor := (completeBlock s).monitor } := by
  unfold completeBlock completeCounts; dsimp only
  rw [noteNoFill_only, noteLinkDown_only, completeRecordings_only]; rfl

/-! ## The next block begins -/

theorem runOutBegins_only (s : State) : runOutBegins s = { s with
    decks := { (runOutBegins s).decks with deck := s.decks.deck }, mixer := (runOutBegins s).mixer } := by
  unfold runOutBegins; split
  · rfl
  · split
    · split <;> rfl
    · rfl

theorem readerBegins_only (s : State) : readerBegins s = { s with monitor := (readerBegins s).monitor } := by
  unfold readerBegins; split
  · split <;> rfl
  · rfl

theorem logBegins_only (s : State) : logBegins s = { s with log := (logBegins s).log } := by
  unfold logBegins queueBegins; dsimp only; split <;> rfl

@[simp] theorem noteOwed_lastEnd (x d : DeckId) (s : State) : ((noteOwed x s).deck d).lastEnd = (s.deck d).lastEnd := by
  unfold noteOwed; split
  · cases x <;> cases d <;> rfl
  · rfl

/-- The log queue as a block begins, in the terms of the log writer alone (R184). -/
theorem queueBegins_log (s : State) : (queueBegins s).log =
    (let l := { s.log with gapFailed := s.log.gapFailed && !s.running }
     if l.room s.sections.logs.size && decide (0 < l.dropped) then l
     else l.pump s.running s.sections.logs s.sections.station.noticeAddr s.time) := by
  unfold queueBegins; dsimp only; rw [apply_ite State.log]; rfl

/-- The log writer as a block begins reads itself, the part state, the section copies and the time alone. -/
theorem logBegins_log_eq {s t : State} (hl : t.log = s.log) (hr : t.survey.state = s.survey.state)
    (hs : t.sections = s.sections) (ht : t.time = s.time) : (logBegins t).log = (logBegins s).log := by
  have hn : (noticeBegins t).log = (noticeBegins s).log := by
    simp only [noticeBegins, State.considersNotice, State.notices, State.running, hl, hr, hs]
  have hq : (noticeBegins t).running = (noticeBegins s).running := by simp only [noticeBegins, State.running, hr]
  have hz : (noticeBegins t).sections = (noticeBegins s).sections := hs
  have hw : (noticeBegins t).time = (noticeBegins s).time := ht
  simp only [logBegins, queueBegins_log, hn, hq, hz, hw]

/-- The last steps of a boundary change the decks' owed starts, the link and the air switch alone (R59, R95, R175). -/
theorem switchBegins_only (s : State) : switchBegins (workOutHold (noteStarts s)) = { s with
    decks := (noteStarts s).decks, link := (workOutHold (noteStarts s)).link
    air := (switchBegins (workOutHold (noteStarts s))).air } := by
  have h : noteStarts s = { s with decks := (noteStarts s).decks } := by
    unfold noteStarts; rw [noteOwed_only, noteOwed_only]
  rw [show switchBegins (workOutHold (noteStarts s)) = { noteStarts s with
    link := (workOutHold (noteStarts s)).link, air := (switchBegins (workOutHold (noteStarts s))).air } from rfl]
  generalize switchBegins (workOutHold (noteStarts s)) = t
  generalize workOutHold (noteStarts s) = u
  rw [h]

/-- The steps of a boundary before the log writer's, in what the log writer and the delay line read of them. -/
theorem beforeLog_keeps (s : State) :
    let u := surveyBegins (walkerBlockBegins (readerBegins (runOutBegins (stepRamps s))))
    u.log = s.log ∧ u.survey.state = s.survey.state ∧ u.sections = s.sections ∧ u.time = s.time ∧ u.delay = s.delay ∧
      u.decks.deck = (stepRamps s).decks.deck := by
  intro u
  have h (f : State → LogWriter × PartState × Sections × Time × Delay × Two Deck)
      (hr : ∀ v, f (readerBegins v) = f v) (ho : ∀ v, f (runOutBegins v) = f v)
      (hb : ∀ v, f (surveyBegins (walkerBlockBegins v)) = f v) : f u = f (stepRamps s) := by
    simp only [u, hb, hr, ho]
  have k := h (fun v => (v.log, v.survey.state, v.sections, v.time, v.delay, v.decks.deck))
    (fun v => by rw [readerBegins_only]) (fun v => by rw [runOutBegins_only]) (fun _ => rfl)
  simp only [Prod.mk.injEq] at k
  exact k

/-- The log writer after a boundary. -/
theorem beginBlock_log (i : BlockInput) (f : AirFlags) (s : State) : (beginBlock i f s).log = (logBegins s).log := by
  obtain ⟨hl, hr, hs, ht, -⟩ := beforeLog_keeps s
  unfold beginBlock; dsimp only; rw [switchBegins_only]
  exact logBegins_log_eq hl hr hs ht

/-- The delay line as a block begins: the block is not yet made, and a pause told of is in force (R109, R120). -/
theorem beginBlock_delay (i : BlockInput) (f : AirFlags) (s : State) :
    (beginBlock i f s).delay = { s.delay with made := false, out := none, pauseNow := s.delay.pauseFlag } := by
  obtain ⟨-, -, -, -, hd, -⟩ := beforeLog_keeps s
  unfold beginBlock; dsimp only; rw [switchBegins_only]
  show (logBegins _).delay.blockBegins = _
  rw [logBegins_only]; dsimp only; rw [hd]; rfl

/-- A deck's last end as a block begins is what `Deck.blockBegins` makes of it (R37, R65). -/
theorem beginBlock_lastEnd (i : BlockInput) (f : AirFlags) (s : State) (d : DeckId) :
    ((beginBlock i f s).deck d).lastEnd = ((s.deck d).blockBegins s.beginsAt (s.filledBy d)).lastEnd := by
  obtain ⟨-, -, -, -, -, hk⟩ := beforeLog_keeps s
  have h : ∀ v : State, ((switchBegins (workOutHold (noteStarts v))).deck d).lastEnd = (v.deck d).lastEnd := fun v => by
    rw [switchBegins_only]; show ((noteStarts v).deck d).lastEnd = _
    unfold noteStarts
    show ((noteOwed .b (noteOwed .a _)).deck d).lastEnd = _
    rw [noteOwed_lastEnd, noteOwed_lastEnd]; rfl
  unfold beginBlock; dsimp only; rw [h]
  show ((logBegins _).decks.deck.get d).lastEnd = _
  rw [logBegins_only]; dsimp only; rw [hk]; cases d <;> rfl

/-! ## Notices (R186) -/

theorem takeNext_urgent (set : LogSettings) (now : Time) (q : List LogEntry) (l : LogWriter) :
    (LogWriter.takeNext set now q l).urgent = l.urgent := by
  induction q generalizing l with
  | nil => rfl
  | cons e q ih =>
    unfold LogWriter.takeNext; split
    · split
      · rfl
      · split <;> rfl
    · rw [ih]; rfl

/-- Taking entries leaves an urgent notice considered; a log write that is issued puts an ordinary one off (R186). -/
theorem takeNext_considers (set : LogSettings) (now : Time) (q : List LogEntry) (l : LogWriter) :
    (LogWriter.takeNext set now q l).considers = l.considers ∨
      (LogWriter.takeNext set now q l).considers = (l.considers && l.urgent) := by
  induction q generalizing l with
  | nil => exact .inl rfl
  | cons e q ih =>
    unfold LogWriter.takeNext; split
    · split
      · exact .inr rfl
      · split
        · exact .inl rfl
        · exact .inr rfl
    · exact ih _

/-- An entry handed makes no notice considered. -/
theorem hand_considers (b : Bool) (set : LogSettings) (a : Addr) (now : Time) (e : LogEntry) (l : LogWriter)
    (h : l.considers = false) : (l.hand b set a now e).considers = false := by
  unfold LogWriter.hand; split
  · unfold LogWriter.pump; split
    · rcases takeNext_considers set now ({ l with queue := l.queue ++ [e] } : LogWriter).queue
        { l with queue := l.queue ++ [e] } with x | x <;> rw [x] <;> simp [h]
    · exact h
  · exact h

/-! ## Held record writes (R39) -/

/-- What a failed write leaves: the newest write of its record heads the list, held, and the writes of other records
follow in their order. -/
theorem failHead_newest (w x : RecordWrite) (ys zs : List RecordWrite) (hx : x.addr = w.addr)
    (hz : ∀ z ∈ zs, z.addr ≠ w.addr) :
    failHead (w :: (ys ++ x :: zs)) = x.hold :: (ys ++ zs).filter (fun y => y.addr != w.addr) := by
  have h : zs.filter (fun y => y.addr == w.addr) = [] := List.filter_eq_nil_iff.mpr (fun z m => by simp [hz z m])
  simp [failHead, hx, h]

/-- A failed write with no other write of its record behind it heads the list, held. -/
theorem failHead_alone (w : RecordWrite) (ws : List RecordWrite) (h : ∀ z ∈ ws, z.addr ≠ w.addr) :
    failHead (w :: ws) = w.hold :: ws := by
  have h1 : ws.filter (fun y => y.addr == w.addr) = [] := List.filter_eq_nil_iff.mpr (fun z m => by simp [h z m])
  have h2 : ws.filter (fun y => y.addr != w.addr) = ws := List.filter_eq_self.mpr (fun z m => by simp [h z m])
  simp only [failHead, h1, h2, List.getLastD_nil]

/-- Of the writes of one record the newest is held. -/
theorem failHead_same (w x : RecordWrite) (ws : List RecordWrite) (h : ∀ y ∈ ws ++ [x], y.addr = w.addr) :
    failHead (w :: (ws ++ [x])) = [x.hold] := by
  rw [failHead_newest w x ws [] (h x (by simp)) (by simp)]
  simpa [List.filter_eq_nil_iff] using fun y hy => h y (by simp [hy])

theorem newestWrites_same (a : Addr) (ws : List RecordWrite) (x : RecordWrite) (h : ∀ y ∈ ws ++ [x], y.addr = a) :
    newestWrites (ws ++ [x]) = [x] := by
  induction ws with
  | nil => simp [newestWrites]
  | cons y ys ih =>
    simp only [List.cons_append, newestWrites]
    rw [if_pos (by simp [h x (by simp), h y (by simp)])]
    exact ih (fun z hz => h z (by simp only [List.cons_append, List.mem_cons]; exact .inr hz))

/-! ## Turns by entry index (R145) -/

/-- An entry is first when none of lower index waits. -/
theorem isFirst_iff (s : State) (waits : AlertEntry → Bool) (n : EntryNo) :
    s.isFirst waits n = true ↔ ∀ m, m < n → waits (s.entry m) = false := by
  have hp : ∀ m : EntryNo, m ∈ places8 := by decide
  unfold State.isFirst; rw [List.all_eq_true]
  exact ⟨fun h m hm => by simpa [hm] using h m (hp m), fun h m _ => by
    by_cases hm : m < n <;> simp [hm]; exact h m hm⟩

/-- The recordings that end at this boundary (R140). -/
theorem recordingEnds_iff (e : AlertEntry) : e.recordingEnds = true ↔
    e.state = .recording ∧ ((e.mark ≠ none ∧ e.fresh = false) ∨ Config.slotFrames ≤ e.recLen) := by
  simp [AlertEntry.recordingEnds, Option.isSome_iff_ne_none]

end Sys2Proof.Machine
end

