-- ==== Sys2Proof/Laws/Bytes.lean ====
section
/-! SUPPORT. Little-endian fields in longer byte runs, and the lengths of the status mirror's parts (spec/12, Status
mirror). -/

namespace Sys2Proof.Machine

open Sys2Proof

/-! ## Runs of bytes -/

@[simp] theorem leBytes_length (n v : Nat) : (leBytes n v).length = n := by
  induction n generalizing v with
  | zero => rfl
  | succ n ih => simp [leBytes, ih]
@[simp] theorem fitTo_length (n : Nat) (bs : List Byte) : (fitTo n bs).length = n := by simp [fitTo]
/-- A field past the first of two runs lies in the second. -/
theorem slice_append_right (a b : List Byte) (off n : Nat) (h : a.length ≤ off) :
    slice (a ++ b) off n = slice b (off - a.length) n := by
  simp [slice, List.drop_append, List.drop_of_length_le h]
/-- A field within the first of two runs. -/
theorem slice_append_left (a b : List Byte) (off n : Nat) (h : off + n ≤ a.length) :
    slice (a ++ b) off n = slice a off n := by
  simp only [slice, List.drop_append]
  rw [List.take_append_of_le_length]; simp; omega
theorem slice_whole (a : List Byte) (n : Nat) (h : a.length = n) : slice a 0 n = a := by subst h; simp [slice]

/-! ## The status mirror -/

@[simp] theorem flagByte_length (fs : List Bool) : (flagByte fs).length = 1 := leBytes_length ..
@[simp] theorem placeBytes_length (n : Nat) (xs : List Nat) : (placeBytes n xs).length = n := by simp [placeBytes]
@[simp] theorem refusedBytes_length (r : Option RefusedSec) : (refusedBytes r).length = 12 := by
  unfold refusedBytes; split <;> simp
@[simp] theorem deckBytes_length (k : Deck) : (deckBytes k).length = 24 := by simp [deckBytes]
@[simp] theorem lineBytes_length (l : Line) : (lineBytes l).length = 20 := by simp [lineBytes]
@[simp] theorem entryBytes_length (n : EntryNo) (e : AlertEntry) : (entryBytes n e).length = 48 := by
  unfold entryBytes; split <;> simp
@[simp] theorem portBytes_length (x : Port) : (portBytes x).length = 64 := by simp [portBytes]
@[simp] theorem telemetryBytes_length (t : Option Telemetry) : (telemetryBytes t).length = 12 := by
  unfold telemetryBytes; split <;> simp
@[simp] theorem firstBytes_length (r : Option FirstFault) : (firstBytes r).length = 42 := by
  unfold firstBytes; split <;> simp
theorem mirrorPart_length (s : State) : (mirrorPart s).length = 28 := by simp [mirrorPart]
theorem mirrorPlayout_length (s : State) : (mirrorPlayout s).length = 120 := by simp [mirrorPlayout]
theorem mirrorDelay_length (s : State) : (mirrorDelay s).length = 64 := by simp [mirrorDelay, Four.toList]
theorem mirrorCallers_length (s : State) : (mirrorCallers s).length = 96 := by simp [mirrorCallers, Four.toList]
theorem mirrorAlerts_length (s : State) : (mirrorAlerts s).length = 480 := by simp [mirrorAlerts, places8]
theorem mirrorLink_length (s : State) : (mirrorLink s).length = 192 := by simp [mirrorLink]
theorem mirrorFaults_length (s : State) : (mirrorFaults s).length = 1056 := by
  have h : (faultKinds.map (fun k => BitVec.ofNat 8 (s.classOf k).code)).length = 18 := by rw [List.length_map]; rfl
  simp only [mirrorFaults, List.length_append, h, leBytes_length, firstBytes_length, flagByte_length]

end Sys2Proof.Machine
end

