-- ==== Sys2Proof/Laws/Choices.lean ====
section
/-! SUPPORT. What the operations that choose among alert entries choose, what following a link does, and the values of the
audio helpers: one lemma each, cited instead of unfolding. -/

namespace Sys2Proof.Machine

open Sys2Proof

/-! ## Alert entries (R34, R137) -/

/-- An entry read after one is replaced. -/
theorem setEntry_entry (s : State) (n m : EntryNo) (e : AlertEntry) :
    (s.setEntry n e).entry m = if m = n then e else s.entry m := by
  simp only [State.entry, State.setEntry]
  split
  · rename_i h; subst h; fin_cases m <;> rfl
  · rename_i h; fin_cases m <;> fin_cases n <;> first | rfl | exact absurd rfl h

/-- A search for the least value, kept from the first place on, finds the place whose value is least, the lower place first
on equal values. -/
theorem leastOf_eq (d : EntryNo → Int) (n : EntryNo) (l : List EntryNo) (hl : l.Pairwise (· < ·)) (hn : n ∈ l)
    (h : ∀ m ∈ l, m ≠ n → d n < d m ∨ (d n = d m ∧ n < m)) :
    l.foldl (fun (best : Option EntryNo) x =>
      match best with
      | none => some x
      | some m => if d x < d m then some x else some m) none = some n := by
  have kept : ∀ (l : List EntryNo) (b : EntryNo), l.Pairwise (· < ·) → (∀ x ∈ l, b < x) → (n = b ∨ n ∈ l) →
      (∀ m, (m = b ∨ m ∈ l) → m ≠ n → d n < d m ∨ (d n = d m ∧ n < m)) →
      l.foldl (fun (best : Option EntryNo) x =>
        match best with
        | none => some x
        | some m => if d x < d m then some x else some m) (some b) = some n := by
    intro l
    induction l with
    | nil => intro b _ _ h _; simp at h; simp [h]
    | cons a l ih =>
      intro b hp hb hm hd
      rw [List.pairwise_cons] at hp
      have hba := hb a (by simp)
      simp only [List.foldl_cons]
      split
      · refine ih a hp.2 hp.1 ?_ (fun m hm' hne => hd m (by simp; tauto) hne)
        rcases hm with rfl | hm
        · have := hd a (by simp) (ne_of_gt hba); omega
        · simpa using hm
      · refine ih b hp.2 (fun x hx => hb x (by simp [hx])) ?_ (fun m hm' hne => hd m (by simp; tauto) hne)
        rcases hm with rfl | hm
        · exact .inl rfl
        · rw [List.mem_cons] at hm
          rcases hm with rfl | hm
          · rcases hd b (by simp) (ne_of_lt hba) with h | ⟨-, h⟩
            · omega
            · exact absurd h (lt_asymm hba)
          · exact .inr hm
  cases l with
  | nil => simp at hn
  | cons a l =>
    rw [List.pairwise_cons] at hl
    exact kept l a hl.2 hl.1 (by simpa using hn) (fun m hm hne => h m (by simpa using hm) hne)

/-- The entries that qualify stand in increasing index. -/
theorem places8_filter_pairwise (q : EntryNo → Bool) : (places8.filter q).Pairwise (· < ·) := by
  apply List.Pairwise.filter; decide

theorem mem_places8_filter (q : EntryNo → Bool) (n : EntryNo) (h : q n = true) : n ∈ places8.filter q := by
  rw [List.mem_filter]; exact ⟨by fin_cases n <;> decide, h⟩

/-- The entry of R137 that an admission evicts. -/
theorem evictable_eq (s : State) (n : EntryNo) (hf : (s.entry n).state.final = true)
    (h : ∀ m, m ≠ n → (s.entry m).state.final = true →
      signedDistance s.time (s.entry n).expiry < signedDistance s.time (s.entry m).expiry ∨
        (signedDistance s.time (s.entry n).expiry = signedDistance s.time (s.entry m).expiry ∧ n < m)) :
    s.evictable = some n :=
  leastOf_eq (fun m => signedDistance s.time (s.entry m).expiry) n _ (places8_filter_pairwise _)
    (mem_places8_filter _ n hf) (fun m hm hne => h m hne (by simpa using (List.mem_filter.1 hm).2))

/-- The entry of R34 that a button acts on. -/
theorem earliest_eq (s : State) (q : AlertEntry → Bool) (n : EntryNo) (hf : q (s.entry n) = true)
    (h : ∀ m, m ≠ n → q (s.entry m) = true → (s.entry n).received.toNat < (s.entry m).received.toNat ∨
      ((s.entry n).received = (s.entry m).received ∧ n < m)) : s.earliest q = some n := by
  have e := leastOf_eq (fun m => ((s.entry m).received.toNat : Int)) n _
    (places8_filter_pairwise (fun m => q (s.entry m))) (mem_places8_filter _ n hf) (by
      intro m hm hne
      rcases h m hne (by simpa using (List.mem_filter.1 hm).2) with h | ⟨h, h2⟩
      · exact .inl (by exact_mod_cast h)
      · exact .inr ⟨by rw [h], h2⟩)
  rw [← e]; unfold State.earliest; congr 1; funext b x; cases b <;> simp

/-! ## Following a link (R46 to R48) -/

/-- Telling the walker of demand changes one of its flags alone. -/
theorem noteDemand_lapsed (s : State) :
    noteDemand s = { s with walker := { s.walker with lapsed := (noteDemand s).walker.lapsed } } := by
  unfold noteDemand; split <;> rfl

/-- Following a record's next field: the end of the chain, the next record, or a stop at the walk limit; the walker's writes
stay. -/
theorem follow_says (bs : List Byte) (n : Addr) (u t : State) (ht : t = follow bs n u) :
    t.walker.writes = u.walker.writes ∧
    (n = 0 → t.walker.ptr = u.walker.ptr ∧ t.walker.state = .atEnd ∧ t.walker.walking = false ∧
      t = { u with walker := t.walker }) ∧
    (n ≠ 0 → u.walker.links < 64 → t.walker.ptr = n ∧ t.walker.state = .toExamine ∧
      t.walker.walking = u.walker.walking ∧ t.walker.links = u.walker.links + 1 ∧ t = { u with walker := t.walker }) ∧
    (n ≠ 0 → 64 ≤ u.walker.links → t.walker.ptr = u.walker.ptr ∧ t.walker.state = .chainWait ∧
      t.walker.walking = false ∧ t.walker.links = 0 ∧
      t = { raise ⟨.recordBad, .orderWalker, u.walker.ptr, 0, RecordReason.chainLimit.code, snapshot16 bs⟩ u with
        walker := t.walker }) := by
  unfold follow at ht
  split at ht
  · rename_i h1
    unfold endWalk at ht; rw [noteDemand_lapsed] at ht; subst ht
    exact ⟨rfl, fun _ => ⟨rfl, rfl, rfl, rfl⟩, fun h => absurd h1 h, fun h => absurd h1 h⟩
  · rename_i h1
    split at ht <;> rename_i h2 <;> simp only [Config.walkLinks] at h2
    · have hx : t.walker = { u.walker with
          state := .chainWait, walking := false, lapsed := t.walker.lapsed, links := 0 } ∧
          t = { raise ⟨.recordBad, .orderWalker, u.walker.ptr, 0, RecordReason.chainLimit.code, snapshot16 bs⟩ u with
            walker := t.walker } := by
        subst ht; simp only [chainLimit, endWalk]; rw [noteDemand_lapsed]; simp [recordBad, Raising.plain]
      exact ⟨by rw [hx.1], fun h => absurd h h1, fun _ h => by omega,
        fun _ _ => ⟨by rw [hx.1], by rw [hx.1], by rw [hx.1], by rw [hx.1], hx.2⟩⟩
    · subst ht
      exact ⟨rfl, fun h => absurd h h1, fun _ _ => ⟨rfl, rfl, rfl, rfl, rfl⟩, fun _ h => by omega⟩

/-! ## Blocks of audio -/

/-- Element i of a block made frame by frame. -/
theorem makeBlock_getD {α : Type} (f : Nat → α) (d : α) (i : Nat) (h : i < 240) : (makeBlock f).getD i d = f i := by
  simp [makeBlock, Config.blockFrames, h]

/-- An integer of the 24-bit range is the value of its sample. -/
theorem sample_toInt (v : Int) (h1 : -8388608 ≤ v) (h2 : v ≤ 8388607) : (BitVec.ofInt 24 v).toInt = v := by
  rw [BitVec.toInt_ofInt, Int.bmod]; norm_num; split <;> omega

end Sys2Proof.Machine
end

