-- ==== Sys2Proof/Tests/Slice0.lean ====
section
/-! SUPPORT. Tests: ill-formed commands, worked examples of the spec, and for each statement with hypotheses a state and
operands that meet them. -/

namespace Sys2Proof.Tests

open Sys2Proof Sys2Proof.Machine

/-! ## States to test on -/

/-- A RUNNING part with an order to walk, after reset. -/
def run : State := { State.reset with
  survey := { State.reset.survey with state := .running }
  monitor := { State.reset.monitor with state := .watching }
  walker := { State.reset.walker with ptr := 0x1000, state := .toExamine } }

/-- A part in another part state. -/
def inState (p : PartState) : State := { State.reset with survey := { State.reset.survey with state := p } }

/-- A state whose survey unit is reading something. -/
def reading (p : PartState) (x : SurveyPhase) : State :=
  { inState p with survey := { (inState p).survey with phase := x } }

/-- `run` with one deck made. -/
def withDeck (d : DeckId) (k : Deck) : State := run.setDeck d k

/-- `run` with one line in a state, queued or on air as it should be. -/
def withLine (n : LineNo) (x : LineState) : State := { run with callers := { run.callers with
  line := run.callers.line.set n { run.line n with state := x, presence := x != .idle, since := 5 }
  queue := if x = .hold then [n] else [], onAir := if x = .onAir then [n] else [] } }

/-- `run` with one alert entry in a state, with a hold time, a deadline and an expiry to come. -/
def withEntry (n : EntryNo) (x : EntryState) : State := { run with
  time := 1000
  alerts := { run.alerts with
    entry := run.alerts.entry.set n { AlertEntry.blank with
      state := x, ident := ⟨7, 9⟩, expiry := 5000, holdUntil := some 1000, deadline := some 999, recLen := 480 }
    queue := if x = .queued then [⟨n, 3⟩] else [] } }

/-- A record image: next 0x2000, the given state word and kind, S16LE_MONO, buffer 0x10000, length 96,000, cue-in 10. -/
def recordBytes (state kind : Nat) : List Byte :=
  leBytes 8 0x2000 ++ leBytes 4 state ++ leBytes 4 kind ++ leBytes 8 0x10000 ++ leBytes 4 96000 ++ leBytes 4 10 ++
    leBytes 96 0

/-- A header image with a signature and a version. -/
def headerBytes (sig ver : Nat) : List Byte := leBytes 4 sig ++ leBytes 4 ver ++ leBytes 248 5

/-- A header frame of an alert, less its check: class W, event TOR, sender 1, message 2, 30 minutes, area 48113. -/
def alertFrame : List Byte :=
  [0x7E, 0x48, 0x57, 0x54, 0x4F, 0x52, 1, 0, 0, 0, 0, 0, 0, 0, 0, 2, 0, 0, 0, 0, 0, 30, 1, 0x00, 0xBB, 0xF1]

/-- A link return for site 0, with its check (R189). -/
def returnBytes : List Byte := let b : List Byte := 0x52 :: leBytes 23 0; b ++ leBytes 4 (crc32 b).toNat

/-! ## Ill-formed commands are refused -/

theorem test_wf_ignored_write : (Instr.registerWriteIgnored 0x04 1).wellFormed = false := by decide
theorem test_wf_attach_header : (Instr.attachHeaderReadDone (some [0])).wellFormed = false := by decide
theorem test_wf_attach_section : (Instr.attachSectionReadDone (some [0]) none).wellFormed = false := by decide
theorem test_wf_attach_slots : (Instr.attachSectionReadDone none (some [0])).wellFormed = false := by decide
theorem test_wf_block : (Instr.blockBoundary silentInput).wellFormed = false := by decide
theorem test_wf_header : (Instr.headerReadDone (some [0])).wellFormed = false := by decide
theorem test_wf_section : (Instr.sectionReadDone (some [0])).wellFormed = false := by decide
theorem test_wf_slots : (Instr.requestSlotsReadDone (some [0])).wellFormed = false := by decide
theorem test_wf_kind : (Instr.unknownKind 0 0 15).wellFormed = false := by decide
theorem test_wf_record : (Instr.recordReadDone (some [0])).wellFormed = false := by decide
theorem test_wf_fill : (Instr.fillRecordReadDone (some [0])).wellFormed = false := by decide
theorem test_wf_fetch : (Instr.fetchReadDone []).wellFormed = false := by decide
theorem test_wf_good : (Instr.recordReadDone (some (recordBytes 1 0))).wellFormed = true := by decide +kernel

/-! ## The host's questions: the table gives no row any bits -/

theorem test_no_word_decodes (n w : Nat) : decodeTableWord n w = none := rfl
theorem test_no_word_is_fetched (s : State) (n w : Nat) : s.withFetchWord n w = s := rfl

/-! ## Worked examples of the spec -/

/-- R90: 32,768 to 10,000 over 3 blocks. -/
theorem test_ramp_example :
    (List.range 4).map (fun k => (Ramp.tick^[k] ((Ramp.settled 32768).start 10000 3)).g) =
      [32768, 25179, 17590, 10000] := by decide

/-- R90: 32,768 to 0 over 4 blocks. -/
theorem test_ramp_to_zero :
    (List.range 4).map (fun k => (Ramp.tick^[k + 1] ((Ramp.settled 32768).start 0 4)).g) = [24576, 16384, 8192, 0] := by
  decide

/-- spec/05, 5.2: on-air order 3, 1 and queue 4, 2, all held: queue 3, 1, 4, 2. -/
theorem test_hold_group_order :
    let s : State := { run with callers := { run.callers with queue := [3, 1], onAir := [2, 0] } }
    (holdGroup true false .limit [2, 0] s).callers.queue = [2, 0, 3, 1] ∧ (holdGroup true false .limit [2, 0] s).callers.onAir = [] := by decide

/-- R84: on-air order 2, 1, 3 and queue 4, a new limit of 1: line 2 stays on air, the queue is 1, 3, 4. -/
theorem test_lowered_limit :
    let s : State := { run with callers := { run.callers with queue := [3], onAir := [1, 0, 2] } }
    let t := useCallers { CallerSettings.default with limit := 1 } s
    t.callers.onAir = [1] ∧ t.callers.queue = [0, 2, 3] := by decide

/-- spec/03, a walk after PROGRAMME_RESET, step 5: a state value of 9 is marked FAULTED, the walk goes on at next with
count 5; step 6 would cue the READY record into deck A. -/
theorem test_walk_example :
    let s (n : Nat) : State := { run with walker := { run.walker with walking := true, links := n } }
    (match exec (.recordReadDone (some (recordBytes 9 0))) (s 4) with
      | .next t => t.walker.links == 5 && t.walker.ptr == 0x2000 && (t.walker.writes.map RecordWrite.state == [.faulted])
      | _ => false) = true ∧
    (match exec (.recordReadDone (some (recordBytes 1 0))) (s 5) with
      | .next t => t.walker.links == 5 && (t.deck .a).state == .loading && (t.deck .b).state == .empty
      | _ => false) = true := by decide +kernel

/-- R1: the STATE register of a RUNNING part with cause NONE. -/
theorem test_state_register : readRegister run .state = 2 := by decide

/-- R17: the mirror is 2,048 bytes. -/
theorem test_mirror_length : (mirrorBytes State.reset).length = 2048 := by decide +kernel

/-- R58: 16-bit 0x8000 is -8,388,608, and S32BE 0x01020304 is 0x010203. -/
theorem test_sample_formats :
    framesOf .s16leMono [0x00, 0x80] = [⟨0x800000, 0x800000⟩] ∧
      framesOf .s32beStereo [1, 2, 3, 4, 0xFF, 0, 0, 0] = [⟨0x010203, 0xFF0000⟩] := by decide

/-- R15: with the counter at 0xFFFFFFFF, sequence 0 is nearer than sequence 5. -/
theorem test_request_order :
    let bs := leBytes 4 1 ++ leBytes 4 5 ++ leBytes 24 0 ++ leBytes 4 1 ++ leBytes 4 0 ++ leBytes 24 0
    let s : State := { run with survey := { run.survey with counter := 0xFFFFFFFF } }
    (posted s bs).map Request.slot = [1, 0] := by decide

/-- R189: the published check values of the two polynomials' forms over the digits 1 to 9. -/
theorem test_crc16 : crc16 [0x31, 0x32, 0x33, 0x34, 0x35, 0x36, 0x37, 0x38, 0x39] = 0x29B1 := by decide +kernel
theorem test_crc32 : crc32 [0x31, 0x32, 0x33, 0x34, 0x35, 0x36, 0x37, 0x38, 0x39] = 0xFC891918 := by decide +kernel

/-! ## The statements' hypotheses are met

Each theorem names the statement of its name and shows, clause by clause, states and operands that meet its
hypotheses. -/

theorem test_StepRunsTheFrontCommand_met :
    ({ run with pending := [.surveyPass, .walkStart] } : State).pending = .surveyPass :: [.walkStart] ∧
      State.reset.pending = [] := ⟨rfl, rfl⟩

theorem test_WindowWritesAreTakenOrIgnored_met :
    (inState .standby).survey.state = .standby ∧ (inState .halted).survey.state = .halted ∧
      ignoredWrite 0x00 0 = true ∧ ignoredWrite 0x08 7 = true ∧ ignoredWrite 0x04 0 = true ∧ ignoredWrite 0x04 4 = true ∧
      ignoredWrite 0x04 3 = false ∧ (inState .attaching).survey.state = .attaching ∧ run.survey.state = .running ∧
      (inState .detached).survey.state = .detached := by decide

theorem test_StartAnswersByItsBase_met :
    (inState .standby).survey.state = .standby ∧ (inState .standby).survey.cbBase = 0 ∧
      (inState .halted).survey.state = .halted ∧ writeBase false 0x1FFF (inState .halted).survey.cbBase ≠ 0 := by decide

theorem test_HaltEntersHalted_met :
    let w : RecordWrite := ⟨0x3000, PartHalf.zero, .aired, .waiting, false⟩
    let s := withDeck .b { Deck.blank with state := .playing, addr := 0x2000, writes := [w] }
    s.survey.state = .running ∧ (s.deck .b).state ≠ .empty ∧
      (∀ o ∈ if (Side.b : DeckId) = .a then [.halfFailed] else ([.good, .good] : DeckWrites), o = PairWrite.good) ∧
      (s.deck .b).writes = [w] ∧ w.addr ≠ (s.deck .b).addr ∧ (s.deck (Side.other .b)).state = .empty ∧
      (s.deck (Side.other .b)).writes = [] ∧
      (if (Side.b : DeckId) = .a then [] else ([.halfFailed, .good] : DeckWrites)) = [.halfFailed, .good] ∧
      (inState .detached).survey.state = .detached ∧ (inState .attaching).survey.state = .attaching ∧
      (∀ p : WritePhase, let x := withDeck .a { Deck.blank with
          state := .playing, addr := 0x3000, writes := [{ w with phase := p }] }
        (x.deck .a).writes = [{ w with phase := p }] ∧ w.addr = (x.deck .a).addr ∧
          (x.deck (Side.other .a)).state = .empty ∧ (x.deck (Side.other .a)).writes = []) ∧
      ((withDeck .a { Deck.blank with writes := [w] }).deck .a).state = .empty := by
  refine ⟨rfl, by decide, by decide, rfl, by decide, rfl, rfl, rfl, rfl, rfl, ?_, rfl⟩
  intro p; cases p <;> decide

theorem test_ProgrammeResetClearsTheProgramme_met :
    run.survey.state = .running ∧ (inState .detached).survey.state = .detached ∧ (inState .halted).survey.state = .halted ∧
      (inState .halted).survey.state ≠ .running := by decide

theorem test_AttachReadsHeaderAndSections_met :
    let s := reading .attaching (.attachHeader false)
    let l (re : Bool) := reading .attaching (.attachSect re .logs [])
    let m := reading .attaching (.attachSect true .anchor [.policy, .callers, .logs])
    s.fresh .attachHeader ∧ s.survey.phase = .attachHeader false ∧ signatureRight (headerBytes 0 1) = false ∧
      signatureRight (headerBytes 0x42435347 2) = true ∧ versionRight (headerBytes 0x42435347 2) = false ∧
      versionRight (headerBytes 0x42435347 1) = true ∧
      (∀ re, (l re).fresh .attachSect ∧ (l re).survey.phase = .attachSect re .logs []) ∧
      m.fresh .attachSect ∧ m.survey.phase = .attachSect true .anchor (.policy :: [.callers, .logs]) := by
  simp only [State.fresh]; decide

theorem test_SurveyReadsTheHeaderFirst_met :
    let e := reading .running .editionWord
    let m : State := { e with survey := { e.survey with marked := e.survey.marked.set .slots true } }
    let f (n : Nat) (x : SurveyPhase) : State :=
      { reading .running x with survey := { (reading .running x).survey with failedReads := n } }
    let r : State := { inState .detached with survey := { (inState .detached).survey with retryCount := 20 } }
    (run.survey.passMade = false ∧ run.survey.phase = .idle) ∧
      (e.survey.state = .running ∧ e.fresh .header ∧ e.survey.phase = .editionWord ∧
        word [0, 0, 0, 0] 0 = e.survey.lastSeen ∧ word [1, 0, 0, 0] 0 ≠ e.survey.lastSeen) ∧
      (∀ sec, e.survey.marked.get sec = false) ∧
      (m.survey.state = .running ∧ m.fresh .header ∧ m.survey.phase = .editionWord ∧
        word [0, 0, 0, 0] 0 = m.survey.lastSeen ∧ m.survey.marked.get .slots = true) ∧
      (r.survey.state = .detached ∧ r.survey.phase = .idle ∧ 20 ≤ r.survey.retryCount) ∧
      (f 0 .editionWord).survey.failedReads = 0 ∧ (f 1 .table).survey.failedReads < 2 ∧
      2 ≤ (f 2 .table).survey.failedReads ∧ (f 2 .table).fresh .header ∧ (f 2 .table).survey.phase = .table ∧
      (f 2 .table).survey.pass.failed = false ∧
      ((reading .detached .retryHeader).fresh .header ∧ (reading .detached .retryHeader).survey.phase = .retryHeader ∧
        (reading .attaching (.attachHeader true)).fresh .attachHeader ∧
        (reading .attaching (.attachHeader true)).survey.phase = .attachHeader true ∧
        signatureRight (headerBytes 0x42435347 1) = true ∧ versionRight (headerBytes 0x42435347 1) = true ∧
        signatureRight (headerBytes 0 1) = false) := by
  refine ⟨by decide, ⟨rfl, rfl, rfl, by decide, by decide⟩, fun sec => by cases sec <;> rfl,
    ⟨rfl, rfl, rfl, by decide, rfl⟩, ?_⟩
  exact ⟨⟨rfl, rfl, by decide⟩, rfl, by decide, by decide, rfl, rfl, rfl, rfl, rfl, rfl, rfl, by decide, by decide, by decide⟩

/-- R7, R10: a good table read goes on to the sections that are due, in order, and with none due to the slots. -/
theorem test_SurveyReadsTheHeaderFirst_due :
    let due (t seen : PerSec Word) (sec : Sec) : Bool := t.get sec != seen.get sec
    [Sec.station, .anchor, .policy, .callers, .logs].filter (due ⟨1, 0, 1, 0, 0, 0⟩ (PerSec.all 0)) ≠ [] ∧
      [Sec.station, .anchor, .policy, .callers, .logs].filter (due (PerSec.all 0) (PerSec.all 0)) = [] := by decide

theorem test_SectionsAreAppliedRefusedOrKept_met :
    let s (x : SurveyPhase) := reading .running x
    let logs := leBytes 8 0 ++ leBytes 4 65 ++ leBytes 52 0
    let callers := leBytes 4 2 ++ leBytes 4 1 ++ leBytes 56 0
    (s (.sect .station [.anchor])).fresh .sect ∧ (s .slots).fresh .slots ∧
      (s (.sect .logs [])).survey.phase = .sect .logs [] ∧ (∀ k, 6 ≤ k → k ≤ 12 → field logs 0x08 4 ≠ 2 ^ k) ∧
      (s (.sect .callers [.logs])).survey.phase = .sect .callers [.logs] ∧
      parseCallers callers = .ok (callerSettingsOf callers) [] := by
  refine ⟨rfl, rfl, rfl, ?_, rfl, by decide⟩
  intro k h1 h2; interval_cases k <;> decide

theorem test_RequestsAreTakenByDistance_met :
    let s := reading .running .slots
    let o : State := { run with survey := { run.survey with results := [⟨3, .done, 0, .held⟩] } }
    s.fresh .slots ∧ s.survey.phase = .slots ∧ s.survey.pass.failed = false ∧
      (∀ i, slotPosted (List.replicate 512 0) i = false) ∧ run.survey.state = .running ∧ run.outstanding 3 = false ∧
      o.survey.state = .running ∧ o.outstanding 3 = true := by
  refine ⟨rfl, rfl, rfl, by decide +kernel, rfl, by decide, rfl, by decide⟩

theorem test_SettingsAreClampedAndPutInForce_met :
    let s (sec : Sec) : State := { reading .running (.sect sec []) with
      sections := { run.sections with anchor := { run.sections.anchor with fill := 5 } } }
    let locked : State := { s .policy with sections := { run.sections with locked := true } }
    let moved : State := { locked with survey := { locked.survey with
      pass := { locked.survey.pass with table := { locked.survey.pass.table with policy := 9 } } } }
    let callers := leBytes 4 4 ++ leBytes 60 0
    let anchor := leBytes 8 0x2000 ++ leBytes 56 0
    (∀ sec, (s sec).fresh .sect ∧ (s sec).survey.phase = .sect sec []) ∧
      (locked.sections.locked = true ∧ locked.survey.pass.table.policy = locked.survey.applied.policy ∧
        moved.survey.pass.table.policy ≠ moved.survey.applied.policy ∧ (s .policy).sections.locked = false) ∧
      parseCallers callers = .ok (callerSettingsOf callers) [⟨0, 4, 3⟩] ∧
      ([0, 1, 2] : List LineNo).Nodup ∧ ([0, 1, 2] : List LineNo).drop 1 = [1, 2] ∧
      parseAnchor anchor = .ok ⟨0x2000, 0⟩ [] ∧ (0x2000 : Addr) ≠ run.sections.anchor.head ∧
      (reading .attaching (.attachSect true .anchor [.policy])).fresh .attachSect ∧
      (reading .attaching (.attachSect true .anchor [.policy])).survey.phase = .attachSect true .anchor (.policy :: []) := by
  refine ⟨fun sec => ⟨rfl, rfl⟩, by decide, by decide, by decide, rfl, by decide, by decide, rfl, rfl⟩

/-- R13, R12: sections of zeros but for the words a check reads are good, so each of the readings is met. -/
theorem test_SettingsAreClampedAndPutInForce_good :
    (match parseStation (leBytes 128 0) with | .ok x _ => x.gpi.get 0 == ⟨.none, .rising⟩ | _ => false) = true ∧
      (match parsePolicy false (leBytes 1024 0) with | .ok _ _ => true | _ => false) = true ∧
      (match parseLogs (leBytes 8 0 ++ leBytes 4 64 ++ leBytes 52 0) with | .ok x _ => x.size == 64 | _ => false) = true := by
  decide +kernel

theorem test_ResultsAreWrittenAndHeld_met :
    let s (l : List ResultWrite) (r : Option SlotNo) (tried : Bool) : State := { run with survey := { run.survey with
      results := l, retrying := r, resultsTried := tried } }
    let w (p : WritePhase) : ResultWrite := ⟨3, .done, 0, p⟩
    let x : ResultWrite := ⟨0, .badArgument, 0, .waiting⟩
    let h : List ResultWrite := [⟨15, .done, 0, .held⟩, w .held]
    ((s [w .first] none false).survey.state = .running ∧ (s [w .first] none false).fresh (.result 3) ∧
        (w .first).slot = 3 ∧ (s [w .first] (some 3) false).survey.results = [w .first] ∧
        (s [w .last] none false).survey.results = [w .last] ∧ (w .last).phase = .last) ∧
      ((s [w .last, x] (some 3) true).survey.results = [w .last, x] ∧ x.slot ≠ 3 ∧ x.phase = .waiting ∧
        (s [w .last, x] (some 3) true).survey.retrying = some 3) ∧
      ((s h none true).survey.resultsTried = true ∧ (s h none false).survey.resultsTried = false ∧
        (s h none false).survey.retrying = none ∧ w .held ∈ (s h none false).survey.results ∧
        (∀ y ∈ (s h none false).survey.results, y.phase = .held ∨ y.phase = .waiting → (w .held).slot ≤ y.slot) ∧
        (⟨15, .done, 0, .held⟩ : ResultWrite) ∈ (s h none false).survey.results) := by
  refine ⟨⟨rfl, rfl, rfl, rfl, rfl, rfl⟩, by decide, by decide⟩

theorem test_MirrorStampCountsCompleteRewrites_met :
    let s (due : Bool) : State := { run with mirror := { run.mirror with due := due } }
    let w (p : WritePhase) : State := { run with mirror := { run.mirror with writing := some ([1, 2], p) } }
    let same : State := { s false with mirror := { (s false).mirror with written := mirrorBytes (s false) } }
    (s true).survey.state = .running ∧ (s true).mirror.writing = none ∧ (s true).mirror.tried = false ∧
      (s true).mirror.due = true ∧ same.mirror.due = false ∧ mirrorCompared same.mirror.written = mirrorContents same ∧
      (inState .halted).survey.state ≠ .running ∧
      (w .first).fresh .mirror ∧ (w .first).survey.state = .running ∧ (w .first).mirror.writing = some ([1, 2], .first) ∧
      (w .last).fresh .mirror ∧ (w .last).mirror.writing = some ([1, 2], .last) :=
  ⟨rfl, rfl, rfl, rfl, rfl, rfl, by decide, rfl, rfl, rfl, rfl, rfl⟩

theorem test_MirrorShowsTheState_met :
    let s : State := { withEntry 6 .pending with
      link := { run.link with hold := some 9, latency := some 480 }
      survey := { run.survey with refused := some ⟨.policy, 4, .locked⟩ } }
    s.survey.refused = some ⟨.policy, 4, .locked⟩ ∧ run.survey.refused = none ∧ (run.deck .a).state = .empty ∧
      ((withDeck .b { Deck.blank with state := .paused }).deck .b).state = .paused ∧ (s.entry 6).state ≠ .free ∧
      (s.entry 5).state = .free ∧ (s.entry 6).holdUntil = some 1000 ∧ s.link.hold = some 9 ∧ s.link.latency = some 480 ∧
      (run.link.port.get .a).latest = none ∧ returnBytes.length = 28 := by decide +kernel

/-- `run` with the clock in a state, the mark point at 0. -/
def withClock (x : ClockState) (p : Option PendingClock) (badRun : Nat) : State :=
  { run with clock := { run.clock with state := x, pending := p, badRun := badRun, mark := some ⟨0, 0⟩ } }

theorem test_ClockSwitchesByRequest_met :
    let up (c : ClockState) (p : Option PendingClock) : State := (withClock c p 0).setPort .a { Port.init with state := .up }
    let lost : State := { withClock (.onExternal .house) (some (.lost .house)) 4 with clock :=
      { (withClock (.onExternal .house) (some (.lost .house)) 4).clock with lost := true } }
    (2 < (3 : Word).toNat ∧ run.clock.state = .onInternal ∧ run.clock.pending = none ∧
        run.link.activePort.state ≠ .up ∧ (up .onInternal none).link.activePort.state = .up) ∧
      ((withClock (.qualifying .house) none 0).clock.state = .qualifying .house ∧
        (up (.onExternal .link) none).clock.state = .onExternal .link ∧ (up (.onExternal .link) none).clock.pending = none) ∧
      ((withClock (.qualifying .link) (some (.qualified .link)) 0).clock.pending = some (.qualified .link) ∧
        (withClock (.onExternal .house) (some (.requested .onInternal)) 0).clock.state = .onExternal .house ∧
        (withClock (.onExternal .house) (some (.requested .onInternal)) 0).clock.lost = false ∧
        (withClock (.onExternal .house) (some (.requested (.qualifying .link))) 0).clock.pending =
          some (.requested (.qualifying .link)) ∧
        lost.clock.pending = some (.lost .house) ∧ lost.clock.lost = true) := by
  decide

theorem test_RequestsReachTheirOwners_met : run.survey.state = .running ∧ run.outstanding 15 = false := by decide

theorem test_SetTimeIsAppliedAtTheBoundary_met :
    (65535 : Word).toNat < 65536 ∧ 65536 ≤ (65536 : Word).toNat ∧
      ({ run with pendingTime := some 7 } : State).pendingTime = some 7 ∧ ((withEntry 2 .pending).entry 2).state ≠ .free := by
  decide

theorem test_ReferenceMarksAreJudged_met :
    let q (x : ClockSource) := withClock (.qualifying x) none 0
    let e (x : ClockSource) (n : Nat) := withClock (.onExternal x) none n
    let f : State := { e .link 0 with clock := { (e .link 0).clock with mark := none } }
    let gone : State := { e .house 4 with clock := { (e .house 4).clock with lost := true } }
    (f.clock.mark = none ∧ f.clock.state = .onExternal .link ∧ run.clock.state ≠ .qualifying .house ∧
        run.clock.state ≠ .onExternal .house) ∧
      (∀ x, (q x).clock.state = .qualifying x ∧ (q x).clock.pending = none ∧ (q x).clock.mark = some ⟨0, 0⟩ ∧
        (e x 3).clock.state = .onExternal x ∧ (e x 2).clock.badRun < 3 ∧ 3 ≤ (e x 3).clock.badRun ∧
        (e x 3).clock.lost = false) ∧
      (gone.clock.lost = true ∧ gone.clock.state = .onExternal .house) ∧
      ((245515 ≤ 246005 ∧ 245514 < 245515) ∧ ((16 : Word) - 0).toNat ≤ 16 ∧ 16 < ((17 : Word) - 0).toNat ∧
        ((0 : Word) - 0).toNat = 0 ∧ 16 * (245760 - 245) ≤ 16 * 245760 ∧ 16 * (245760 + 245) < 16 * 246005 + 1) ∧
      ((0 : Nat) + 246005 ≤ 246005 ∧ (0 : Nat) + (2 + 0) * 245760 + 245 < 491766) ∧
      returnFrameRight returnBytes = true ∧ returnSite returnBytes = run.sections.station.siteAddress := by
  refine ⟨by decide, fun x => by cases x <;> decide, by decide, by decide, by decide, by decide +kernel, by decide +kernel⟩

theorem test_StudioLinesAreDebouncedAndFired_met :
    let l : GpiLine := GpiLine.init
    let s (f : GpiFunction) (g : GpiSense) (accepted armed : Bool) : State := { run with
      gpi := run.gpi.set 7 { l with due := true, armed := armed, accepted := accepted }
      sections := { run.sections with station := { run.sections.station with
        gpi := run.sections.station.gpi.set 7 ⟨f, g⟩ } } }
    let setting (x : State) := x.sections.station.gpi.get 7
    (false = l.accepted ∧ true ≠ l.accepted ∧ ({ l with count := 3 } : GpiLine).count = 3 ∧
        ({ l with count := 2 } : GpiLine).count < 3 ∧ l.count = 0 ∧ (run.gpi.get 7).due = false) ∧
      ((setting (s .dump .falling false true)).sense = .falling ∧ (!((s .dump .falling false true).gpi.get 7).accepted) = true ∧
        (setting (s .dump .levelLow true true)).sense = .levelLow ∧
        (!((s .dump .levelLow true true).gpi.get 7).accepted) = false) ∧
      ((s .none .rising false true).gpi.get 7).due = true ∧ (setting (s .none .rising false true)).function = .none ∧
      ((s .skip .rising false false).gpi.get 7).armed = false ∧
      (setting (s .logOnly .both false true)) = ⟨.logOnly, .both⟩ ∧ ((s .logOnly .both false true).gpi.get 7).armed = true ∧
      (setting (s .takeCaller .both true true)) = ⟨.takeCaller, .both⟩ ∧
      (!((s .takeCaller .both true true).gpi.get 7).accepted) = false := by decide

/-- R32: a DELAY_ENGAGE in EXITING with the dump size held, and line 8 a level DUMP line held active, the only one. -/
theorem test_StudioLinesAreDebouncedAndFired_refire :
    let s (accepted : Bool) : State := { run with
      gpi := run.gpi.set 7 { GpiLine.init with accepted := accepted }
      delay := { run.delay with state := .exiting, mem := [Frame.silence, Frame.silence] }
      sections := { run.sections with station := { run.sections.station with
        dumpSize := 1, target := 4, gpi := run.sections.station.gpi.set 7 ⟨.dump, .levelHigh⟩ } } }
    (s true).delay.state = .exiting ∧ (s true).onProgramme = true ∧
      min (s true).sections.station.dumpSize (s true).sections.station.target ≤ (s true).delay.mem.length ∧
      (s true).heldDump 7 = true ∧ (∀ m, m ≠ 7 → (s true).heldDump m = false) ∧ (∀ m, (s false).heldDump m = false) ∧
      (delayEngage (s true)).1 = .done ∧ (delayEngage (s true)).2.delay.mem.length = 1 ∧
      (delayEngage (s false)).2.delay.mem.length = 2 := by decide +kernel

theorem test_MixSumsStayExact_met :
    let s : State := { run with mixer := { run.mixer with
      deckRamp := ⟨Ramp.settled 32768, Ramp.settled 32768⟩, line := Four.ofFn (fun _ => Ramp.settled 32768) } }
    ((s.mixer.deckRamp.get .a).blk ≤ 32768 ∧ (s.mixer.deckRamp.get .b).blk ≤ 32768) ∧ s.mixer.studio.blk ≤ 32768 ∧
      s.mixer.fill.blk ≤ 32768 ∧ (∀ n, (s.mixer.line.get n).blk ≤ 32768) ∧ 239 < 240 := by decide

/-- R88: the hold feed of the example, an air frame of 4,000,000 and 2,000,000 under a hold gain of 8,192, and the
return of a line by its state at the start of the block. -/
theorem test_MixSumsStayExact_returns :
    sampleAt (holdFeed 8192 [⟨4000000, 2000000⟩]) 0 = 750000 ∧ run.callers.holdGain ≤ 32768 ∧
      (run.line 0).atStart = .idle ∧ (∀ x : LineState, ({ Line.init with atStart := x } : Line).atStart = x) := by
  refine ⟨by decide, by decide, rfl, fun _ => rfl⟩

theorem test_RampLandsOnItsTarget_met : 0 < 1 ∧ 0 < 2000 := by decide

theorem test_WalksCueGoodRecordsAndFaultBadOnes_met :
    let w (x : WalkState) : State := { run with walker := { run.walker with state := x, wait := 20 } }
    let g : State := { run with walker := { run.walker with walking := true, links := 63 } }
    (run.survey.state = .running ∧ run.demand = true ∧ run.walker.walking = false ∧ run.walker.state = .toExamine) ∧
      ((w .waitingDraft).walker.state = .waitingDraft ∧ (w .chainWait).demand = true ∧ 20 ≤ (w .atEnd).walker.wait ∧
        (w .atEnd).walker.state = .atEnd) ∧
      (g.survey.state = .running ∧ g.walker.walking = true ∧ g.walker.state ≠ .atEnd ∧ g.walker.links < 64 ∧
        g.walker.writes = [] ∧ (g.deck .a).state = .empty ∧ (g.deck .a).writes = [] ∧ (g.deck .b).state = .empty ∧
        (g.deck .b).writes = []) ∧
      g.fresh .record ∧
      (let b : State := g.setDeck .a { Deck.blank with state := .playing, addr := 0x1000 }
       let k : State := g.setDeck .a { Deck.blank with writes := [⟨0x9000, PartHalf.zero, .aired, .held, true⟩] }
       (b.deck .b).state = .empty ∧ (b.deck .a).state ≠ .empty ∧ (b.deck .a).state ≠ .loading ∧
         (b.deck .a).state ≠ .ready ∧ (b.deck .a).addr = b.walker.ptr ∧
         (k.deck .a).writes.any (fun w => w.kept) = true ∧ (k.deck .b).writes = []) ∧
      (∀ n : Fin 8, (hostHalfOf (recordBytes n.val 0)).state = BitVec.ofNat 32 n.val) ∧
      8 ≤ (hostHalfOf (recordBytes 8 0)).state.toNat ∧ (hostHalfOf (leBytes 128 0)).next = 0 ∧
      64 ≤ ({ g.walker with links := 64 } : Walker).links ∧
      ((hostHalfOf (recordBytes 1 0)).state = 1 ∧ (hostHalfOf (recordBytes 1 0)).next ≠ 0 ∧
        (match validate (hostHalfOf (recordBytes 1 0)) with | .ok (.audio, .s16leMono) => true | _ => false) = true ∧
        (match validate (hostHalfOf (recordBytes 1 4)) with | .error .kind => true | _ => false) = true) ∧
      (let c (lapsed changed : Bool) : State := { run with walker := { run.walker with
         state := .atEnd, lapsed := lapsed, surveyChanged := changed } }
       (∀ l x, (c l x).demand = true ∧ (c l x).walker.walking = false ∧ (c l x).walker.state ≠ .toExamine ∧
         (c l x).walker.state ≠ .noOrder) ∧ (c true false).walker.lapsed = true ∧
         (c false true).walker.surveyChanged = true ∧ (c false true).survey.phase = .idle ∧
         (c false false).walker.lapsed = false ∧ (c false false).walker.surveyChanged = false) := by
  refine ⟨by decide, by decide, by decide, rfl, by decide, by decide, by decide, by decide, by decide, by decide, by decide⟩

/-- R44: a changed header edition of a pass that HALT cut, in the block in which START attaches the part again, is forgotten at
the next boundary; one of a pass still in progress is not. -/
theorem test_walk_change_of_this_block :
    let s (x : SurveyPhase) : State := { run with
      survey := { run.survey with phase := x }, walker := { run.walker with surveyChanged := true } }
    (walkerBlockBegins (s (.attachHeader false))).walker.surveyChanged = false ∧
      (walkerBlockBegins (s .idle)).walker.surveyChanged = false ∧
      (walkerBlockBegins (s .slots)).walker.surveyChanged = true := by decide

theorem test_FailedRecordReadWaitsAtTheAddress_met :
    let g : State := { run with walker := { run.walker with walking := true } }
    let w : Walker := { g.walker with walking := false, state := .chainWait, wait := 0 }
    let u : State := { run with walker := { w with wait := 20 } }
    g.fresh .record ∧ g.walker.walking = true ∧ u.survey.state = .running ∧ u.demand = true ∧
      u.walker = { w with wait := 20 } := ⟨rfl, rfl, rfl, rfl, rfl⟩

/-- R39: CUED in flight fails with PLAYING and AIRED behind it: AIRED alone is held; so is it at entry to DETACHED. -/
theorem test_RecordWritesGoHalfThenState_newest :
    let w (x : RecState) (p : WritePhase) : RecordWrite := ⟨0x2000, PartHalf.zero, x, p, false⟩
    let ws (p : WritePhase) := [w .cued p, w .playing .waiting, w .aired .waiting]
    let s (p : WritePhase) (st : PartState) : State := { withDeck .b { Deck.blank with writes := ws p } with
      survey := { run.survey with state := st, phase := .editionWord, failedReads := 2 } }
    (∀ y ∈ [w .playing .waiting] ++ [w .aired .waiting], y.addr = (w .cued .first).addr) ∧
      (s .first .detached).fresh (.recordWrite .b) ∧ (s .first .running).fresh .header ∧
      (s .first .detached).survey.state ≠ .running ∧ ((s .last .running).deck .b).writes = ws .last ∧
      ((s .held .running).deck .b).writes = ws .held ∧ (s .held .running).survey.failedReads = 2 ∧
      failHead (ws .first) = [(w .aired .waiting).hold] ∧ goodHead false (ws .first) = [(w .aired .waiting).hold] ∧
      holdWrites (ws .first) = [w .cued .first, (w .aired .waiting).hold] := by
  refine ⟨by decide, rfl, rfl, by decide, rfl, rfl, rfl, by decide, by decide, by decide⟩

/-- R39: X in flight fails with Y's write and a newer one of X waiting: X's newest is held at the head, and is attempted. -/
theorem test_RecordWritesGoHalfThenState_head :
    let w (a : Addr) (x : RecState) (p : WritePhase) : RecordWrite := ⟨a, PartHalf.zero, x, p, false⟩
    let ws := [w 0x2000 .abandoned .first, w 0x3000 .cued .waiting, w 0x2000 .cued .waiting]
    let s (ws : List RecordWrite) : State := withDeck .b { Deck.blank with writes := ws }
    let kept := [(w 0x2000 .cued .waiting).hold, w 0x3000 .cued .waiting]
    (s ws).fresh (.recordWrite .b) ∧ ((s ws).deck .b).writes = ws ∧ failHead ws = kept ∧
      ((s kept).deck .b).writes = kept ∧ (s kept).survey.state = .running ∧ ((s kept).deck .b).heldHead = true ∧
      ((s kept).deck .b).writeTried = false ∧
      ([w 0x3000 .cued .waiting] ++ []).filter (fun y => y.addr != (0x2000 : Addr)) = [w 0x3000 .cued .waiting] := by
  refine ⟨rfl, rfl, by decide, rfl, rfl, rfl, rfl, by decide⟩

theorem test_RecordWritesGoHalfThenState_met :
    let w (p : WritePhase) : RecordWrite := ⟨0x2000, PartHalf.zero, .playing, p, false⟩
    let h : RecordWrite := { w .first with phase := .held, kept := true }
    let s (x : RecordWrite) (tried : Bool) : State :=
      withDeck .b { Deck.blank with state := .empty, writes := [x], writeTried := tried }
    let v : State := { run with walker := { run.walker with writes := [w .last] } }
    (s (w .first) false).survey.state = .running ∧ (s (w .first) false).fresh (.recordWrite .b) ∧
      ((s (w .first) false).deck .b).writes = [w .first] ∧ ((s (w .last) false).deck .b).writes = [w .last] ∧
      ((s h true).deck .b).writes = [h] ∧ ((s h true).deck .b).writeTried = true ∧
      ((s h false).deck .b).writeTried = false ∧ v.fresh .walkerWrite ∧ v.walker.writes = [w .last] ∧ h.phase = .held ∧
      (let x : RecordWrite := { w .first with addr := 0x3000 }
       (w .waiting).phase = .waiting ∧ x.addr ≠ (w .waiting).addr ∧ x.phase = .first ∧ (w .waiting).kept = false) :=
  ⟨rfl, rfl, rfl, rfl, rfl, rfl, rfl, rfl, rfl, rfl, by decide⟩

/-- `run` with a loading deck A, and deck B when asked, and a fetch read in flight. -/
def fetching (b : Bool) (x : Option FetchRead) : State :=
  let k : Deck := { Deck.blank with state := .loading, toFetch := 100 }
  { ((run.setDeck .a { k with fifo := [Frame.silence] }).setDeck .b (if b then k else Deck.blank)) with fetch := ⟨x⟩ }

theorem test_FetchEngineServesJoinsAndFails_met :
    let p : State := { withDeck .a { Deck.blank with state := .playing } with fetch := ⟨some ⟨.deck .a, 0, 4, true⟩⟩ }
    ((fetching false none).fetch.inFlight = none ∧ ((fetching false none).deck .a).wants 8192 = true ∧
        ((fetching false none).deck .b).wants 8192 = false ∧ (fetching false none).rescue.wants = false) ∧
      (((fetching true none).deck .b).wants 8192 = true ∧
        ((fetching true none).deck .b).fifo.length < ((fetching true none).deck .a).fifo.length) ∧
      ([0, 0, 0, 0] : List Byte).length = 4 ∧
      (fetching true (some ⟨.deck .b, 0, 4, true⟩)).fetch.inFlight = some ⟨.deck .b, 0, 4, true⟩ ∧
      (fetching true (some ⟨.deck .b, 0, 4, false⟩)).fetch.inFlight = some ⟨.deck .b, 0, 4, false⟩ ∧
      p.fetch.inFlight = some ⟨.deck .a, 0, 4, true⟩ ∧ (p.deck .a).state = .playing ∧
      (fetching false (some ⟨.loader, 0, 4, true⟩)).fetch.inFlight = some ⟨.loader, 0, 4, true⟩ := by decide

theorem test_SamplesConvertByFormat_met :
    1 < [0, 1, 2, 3, 4].length / SampleFormat.frameBytes .s16leMono ∧
      framesOf .s16leMono [0, 1, 2, 3, 4] = [⟨256 * 256, 256 * 256⟩, ⟨770 * 256, 770 * 256⟩] := by decide

theorem test_RecordsStartAtTheirTime_met :
    let a (fadeIn fadeOut : Nat) : Deck := { Deck.blank with
      state := .ready, copy := { HostHalf.zero with length := 500, cueIn := 20, fadeIn := fadeIn, fadeOut := fadeOut } }
    let r (k : Deck) : State := withDeck .b k
    let p : State := (withDeck .b (a 0 1)).setDeck .a { Deck.blank with
      state := .playing, copy := { HostHalf.zero with length := 500, cueIn := 20, segue := 80 }, played := 400 }
    let h : State := (withDeck .a { Deck.blank with state := .playing }).setDeck .b { Deck.blank with
      state := .ready, kind := .live, copy := { HostHalf.zero with hardPresent := true, hardTime := 7 } }
    let s : State := { h with time := 248 }
    ((r (a 0 0)).survey.state = .running ∧ ((r (a 0 0)).deck .b).state = .ready ∧ ((r (a 0 0)).deck .b).kind = .audio ∧
        ((r (a 0 0)).deck .b).copy.hardPresent = false ∧ ((r (a 0 0)).deck .b).copy.fadeIn = 0 ∧
        ((r (a 0 0)).deck .b).copy.fadeOut = 0 ∧ ((r (a 0 0)).deck .b).writes = [] ∧ ((r (a 0 0)).deck .a).state = .empty ∧
        (r (a 0 0)).decks.pause = false) ∧
      ((p.deck .a).state = .playing ∧ (p.deck .a).kind = .audio ∧
        (p.deck .a).copy.length ≤ (p.deck .a).copy.cueIn + (p.deck .a).played + (p.deck .a).copy.segue) ∧
      (0 < (a 3 0).copy.fadeIn ∧ (a 0 1).copy.fadeOut * 240 < 500 - 20 - 0 ∧ 0 < (a 0 2).copy.fadeOut ∧
        500 - 20 - 0 ≤ (a 0 2).copy.fadeOut * 240) ∧
      ((s.deck .b).state = .ready ∧ (s.deck .b).copy.hardPresent = true ∧ (s.deck .b).copy.soft = false ∧
        (s.deck .b).kind = .live ∧ reached s.time (s.deck .b).copy.hardTime = true ∧ s.decks.pause = false ∧
        (s.deck .b).owed = false ∧ (s.deck .b).fired = false ∧ (s.deck .a).state = .playing ∧
        240 < (s.time - (s.deck .b).copy.hardTime).toNat) := by decide

theorem test_DeckTakesItsFrames_met :
    let s : State := withDeck .a { Deck.blank with
      state := .ending, copy := { HostHalf.zero with length := 500, cueIn := 10 }, fifo := [Frame.silence] }
    (s.deck .a).state = .ending ∧ (s.deck .a).kind = .audio ∧ (s.deck .a).blockTaken = false ∧
      (s.deck .a).noMore = false ∧ (s.deck .a).lateRaised = false := by decide

theorem test_SegmentsEndAsDecided_met :
    let s : State := withDeck .a { Deck.blank with
      state := .playing, copy := { HostHalf.zero with length := 500, cueIn := 10 }, played := 490 }
    let l : State := { withDeck .b { Deck.blank with
      state := .playing, kind := .gap, copy := { HostHalf.zero with duration := 480 }, sounded := 2 } with
        decks := { (withDeck .b { Deck.blank with
          state := .playing, kind := .gap, copy := { HostHalf.zero with duration := 480 }, sounded := 2 }).decks with
            lastStarted := some .b } }
    (s.survey.state = .running ∧ (s.deck .a).state = .playing ∧ (s.deck .a).decided = none ∧ (s.deck .a).writes = [] ∧
        (s.deck .a).kind = .audio ∧ (s.deck .a).blockTaken = false ∧
        (s.deck .a).copy.length ≤ (s.deck .a).copy.cueIn + (s.deck .a).played) ∧
      ((l.deck .b).kind = .gap ∧ 0 < (l.deck .b).copy.duration ∧
        (l.deck .b).copy.duration ≤ (l.deck .b).sounded * 240 ∧ (l.deck .b).state = .playing ∧
        (l.deck .b).decided = none ∧ (l.deck .b).writes = [] ∧ l.decks.lastStarted = some .b) ∧
      1 < (2 : Word).toNat ∧ (run.deck .a).state = .empty ∧ (run.deck .b).state = .empty ∧
      (let p (x : DeckState) := withDeck .b { Deck.blank with state := x }
       ((p .paused).deck .b).state = .paused ∧ ((p .paused).deck .b).writes = [] ∧ ((p .paused).deck .a).state ≠ .paused ∧
         ((p .paused).deck .a).state ≠ .playing ∧ ((p .ready).deck .b).state = .ready ∧
         ((p .ready).deck .a).state ≠ .loading ∧ ((p .ready).deck .a).state ≠ .ready) ∧
      (let o (soft : Bool) : Deck := { Deck.blank with
        state := .loading, copy := { HostHalf.zero with hardPresent := soft, soft := soft, hardTime := 0 } }
      let two (soft : Bool) := s.setDeck .b (o soft)
      (two false).deck .a = s.deck .a ∧ ((two false).deck .b).state = .loading ∧ (two false).decks.pause = false ∧
        ((two false).deck .b).copy.hardPresent = false ∧ ((two true).deck .b).copy.hardPresent = true ∧
        ((two true).deck .b).copy.soft = true ∧ reached (two true).time ((two true).deck .b).copy.hardTime = true) := by
  decide

/-- R64, R65: an ENDING deck with a decided end, its fade complete and frames left; one whose last buffered frame has been
played after a fetch error; a LIVE whose fade is complete; a deck that does not end yet. -/
theorem test_SegmentsEndAsDecided_decided :
    let s (x : SegKind) (d : RecState × EndReason) (no : Bool) : State := withDeck .a { Deck.blank with
      state := .ending, kind := x, copy := { HostHalf.zero with length := 500, cueIn := 10, duration := 480 }, played := 240
      sounded := 1, decided := some d, noMore := no }
    let cut := s .audio (.skipped, .skip) false
    let bad := s .audio (.faulted, .fetchError) true
    let live := s .live (.skipped, .hardStart) false
    let playing : State := withDeck .a { cut.deck .a with state := .playing, decided := none }
    let left (u : State) := (u.deck .a).copy.length - (u.deck .a).copy.cueIn - (u.deck .a).played
    (∀ u ∈ [cut, bad, live], u.survey.state = .running ∧ (u.deck .a).writes = [] ∧ (u.deck .a).state = .ending ∧
        (u.deck .a).blockTaken = false ∧ 0 < left u ∧ (u.mixer.deckRamp.get .a).complete = true) ∧
      (cut.deck .a).decided = some (.skipped, .skip) ∧ (bad.deck .a).noMore = true ∧ (bad.deck .a).fifo = [] ∧
      (live.deck .a).kind = .live ∧ (live.deck .a).sounded * 240 < (live.deck .a).copy.duration ∧
      0 < left playing ∧ (playing.deck .a).noMore = false ∧ (playing.deck .a).state = .playing := by decide

/-- R26, R27, R37: a deck that fills a block and a SET_TIME applied at its end; one that fills less keeps its end. -/
theorem test_SegmentsEndAsDecided_filled :
    let s (n : Nat) : State := { withDeck .a { Deck.blank with state := .playing, lastEnd := 77 } with
      pendingTime := some 9000
      mixer := { run.mixer with deckFrames := ⟨List.replicate n Frame.silence, []⟩ } }
    ((s 240).mixer.deckFrames.get .a).length = 240 ∧ ((s 3).mixer.deckFrames.get .a).length ≠ 240 ∧
      ((s 3).deck .a).kind = .audio ∧ ((stepRamps (s 240)).deck .a).lastEnd = 9000 ∧
      ((stepRamps (s 3)).deck .a).lastEnd = 77 := by decide +kernel

theorem test_RunOutPlaysTheLoadedStore_met :
    let r : State := { run with rescue := { run.rescue with state := .ready, frames := [⟨1, 2⟩, ⟨3, 4⟩, ⟨5, 6⟩] } }
    let f : State := { run with rescue := { run.rescue with reading := true, fill := 0x3000 } }
    (run.survey.state = .running ∧ run.decks.runOut = false ∧ run.quiet = true ∧ run.rescue.state ≠ .ready) ∧
      (r.quiet = true ∧ r.rescue.state = .ready ∧ 0 < r.rescue.frames.length) ∧ f.fresh .fillRecord ∧ f.rescue.reading = true ∧
      (none : ReadResult).all (fun bs => (fillFormat (hostHalfOf bs)).isNone) = true ∧
      (some (recordBytes 1 1) : ReadResult).all (fun bs => (fillFormat (hostHalfOf bs)).isNone) = true ∧
      fillFormat (hostHalfOf (recordBytes 1 0)) = some .s16leMono := by
  refine ⟨by decide, by decide, rfl, rfl, rfl, by decide, by decide⟩

theorem test_LinesFollowPresenceAndFraming_met :
    let c : State := run.setLine 3 { Line.init with state := .clearing, oos := true }
    let o : State := run.setLine 3 { Line.init with state := .outOfService, framingGood := false, oos := true }
    ((run.line 3).presence = false ∧ (run.line 3).state = .idle ∧ (run.line 3).framingGood = true) ∧
      ((c.line 3).presence = false ∧ (c.line 3).state = .clearing ∧ (c.line 3).clearing = 0) ∧
      ((withLine 3 .onAir).line 3).presence = true ∧ ((withLine 3 .onAir).line 3).state = .onAir ∧
      (o.line 3).framingGood = false ∧ (o.line 3).state = .outOfService := by decide

theorem test_CallerRequestsAnswer_met :
    let h := withLine 3 .hold
    let g (guarded : Bool) : State := { h with sections := { h.sections with
      callers := { h.sections.callers with guardSet := guarded } } }
    let full : State := { g false with callers := { h.callers with onAir := [0, 1] } }
    (lineOf 4 = some 3 ∧ 4 < (5 : Word).toNat ∧ ((withLine 3 .screening).line 3).state = .screening ∧
        ((withLine 3 .onAir).line 3).state = .onAir ∧ (h.line 3).state = .hold ∧ (run.line 3).state = .idle) ∧
      ((run.line 3).state.call = false ∧ (4 : Word) ≠ 0 ∧ (4 : Word).toNat ≤ 4 ∧ (run.line 3).state ≠ .hold) ∧
      (({ h with survey := State.reset.survey } : State).onProgramme = false ∧ h.onProgramme = true ∧
        h.sections.callers.guardSet = true ∧ h.safe = false ∧ (g false).sections.callers.guardSet = false ∧
        full.sections.callers.limit ≤ full.callers.onAir.length ∧
        (g false).callers.onAir.length < (g false).sections.callers.limit ∧ (g false).callers.queue = 3 :: [] ∧
        (3 : LineNo) ∉ (g false).callers.onAir) ∧
      (run.callers.onAir = [] ∧ (withLine 3 .onAir).callers.onAir = [3] ∧ (withLine 3 .onAir).callers.onAir.Nodup ∧
        ∀ n ∈ (withLine 3 .onAir).callers.onAir, ((withLine 3 .onAir).line n).state = .onAir) ∧
      (let e : State := { withLine 3 .screening with sections := (g false).sections }
       e.onProgramme = true ∧ e.sections.callers.guardSet = false ∧ e.callers.queue = [] ∧
         e.callers.onAir.length < e.sections.callers.limit ∧ (e.line 3).state = .screening ∧ (3 : LineNo) ∉ e.callers.onAir ∧
         (run.line 3).state ≠ .screening) := by decide

theorem test_DeadAirBringsAndEndsRescue_met :
    let s : State := { run with
      monitor := { run.monitor with judged := some true, silence := 3000 }, rescue := { run.rescue with state := .ready } }
    let d : State := { run with
      monitor := { run.monitor with state := .dead, recovery := 40 }, rescue := { run.rescue with state := .ready } }
    let r : State := { d with
      monitor := { d.monitor with rescue := true }, air := { d.air with before := .rescue } }
    let off : State := { r with sections := { r.sections with station := { r.sections.station with
      rescueEnabled := false } } }
    (s.monitor.state = .watching ∧ s.monitor.judged = some true ∧
        s.sections.station.silenceTime ≤ s.monitor.silence ∧ s.sections.station.rescueEnabled = true ∧
        s.rescue.state = .ready ∧ run.rescue.state ≠ .ready) ∧
      (d.monitor.state = .dead ∧ d.monitor.rescue = false ∧ d.airing.state = .idle ∧ 40 ≤ d.monitor.recovery) ∧
      (r.monitor.rescue = true ∧ r.air.before = .rescue ∧ r.onProgramme = true) ∧
      ({ run.air with fading := true } : Air).fading = true ∧ ({ run.air with fading := true } : Air).fade.complete = true ∧
      off.monitor.rescue = true ∧ off.sections.station.rescueEnabled = false := by decide

theorem test_AirBlockFollowsTheSwitch_met :
    let s (p : Bool) : State := { run with air := { run.air with crossfade := some ⟨.programme, p, false⟩ } }
    239 < 240 ∧ run.air.crossfade = none ∧ run.air.fading = false ∧ ({ run.air with fading := true } : Air).fading = true ∧
      ({ run.air with fading := true } : Air).crossfade = none ∧
      (s true).air.crossfade = some ⟨.programme, true, false⟩ ∧
      (s false).air.crossfade = some ⟨.programme, false, false⟩ ∧
      (let a (x : AiringState) (given : Nat) : State := { run.setEntry 6 { AlertEntry.blank with slot := some .b } with
          airing := { run.airing with state := x, entry := some 6, tone := 1, given := given } }
       (a .tone 0).airing.given < (a .tone 0).airing.tone ∧ (a .fade 1).airing.tone ≤ (a .fade 1).airing.given ∧
         (a .fade 1).airing.entry = some 6 ∧ ((a .fade 1).entry 6).slot = some .b ∧ run.airing.gain.blk ≤ 32768 ∧
         run.mixer.fillGain.blk ≤ 32768) := by decide

/-- `run` with the delay line in a state with n frames, the target in force and a pause. -/
def withDelay (x : DelayState) (n target : Nat) (paused : Bool) : State := { run with
  delay := { run.delay with state := x, mem := List.replicate n Frame.silence, pauseNow := paused, acc := 999 }
  sections := { run.sections with station := { run.sections.station with target := target } } }

theorem test_DelayEngageExitAndDumpAnswer_met :
    let g : State := { withLine 0 .onAir with delay := { run.delay with state := .building } }
    (run.delay.state = .bypass ∧ (withDelay .bypass 0 47999 false).sections.station.target < 48000 ∧
        48000 ≤ (withDelay .bypass 0 48000 false).sections.station.target ∧ run.delay.mem = [] ∧
        48000 ≤ run.sections.station.dumpSize) ∧
      ((withDelay .exiting 3 48000 false).delay.state = .exiting ∧
        places8.all (fun n => !(withDelay .exiting 3 48000 false).heldDump n) = true) ∧
      (g.sections.callers.guardSet = true ∧ g.callers.onAir ≠ []) ∧
      (run.callers.onAir = [] ∧ (withDelay .holding 1 1 false).delay.state.engaged = true ∧
        0 < (withDelay .holding 1 1 false).delay.depth ∧ (withDelay .building 0 1 false).delay.depth = 0 ∧
        (withDelay .building 0 1 false).delay.pauseNow = false) := by decide

theorem test_DelayEngageExitAndDumpAnswer_dump :
    let frozen : State := { withDelay .building 3 48000 false with survey := (inState .halted).survey }
    run.delay.state = .bypass ∧ frozen.delay.state ≠ .bypass ∧ frozen.onProgramme = false ∧
      (withDelay .exiting 3 48000 false).delay.state ≠ .bypass ∧ (withDelay .exiting 3 48000 false).onProgramme = true := by
  decide

theorem test_StretchAndSqueezeFillTheBlock_met :
    (12 ≤ 12 ∧ (List.replicate 228 Frame.silence).length = 240 - 12 ∧
        (List.replicate 252 Frame.silence).length = 240 + 12) ∧
      (0 < 12 ∧ 11 < 12 ∧ 227 < 240 - 12) ∧
      (251 < 240 + 12 ∧ ∀ j, j < 12 → 251 ≠ (j + 1) * 252 / 13 - 1 ∧ 251 ≠ (j + 1) * 252 / 13 - 1 + 1) := by
  simp only [List.length_replicate]; decide

/-- R111, R112: the insertion points for 2 of 238 and 12 of 228, and the pairs for 2 of 242 and 12 of 252. -/
theorem test_spread_examples :
    spread 238 2 = [78, 157] ∧ (spread 228 12).head? = some 16 ∧ (spread 228 12).getLast? = some 209 ∧
      spread 242 2 = [79, 160] ∧ (spread 252 12).head? = some 18 ∧ (spread 252 12).getLast? = some 231 := by decide

theorem test_DelayBlockMovesTowardItsTarget_met :
    let s := withDelay .squeezing 300 100 false
    let p := withDelay .holding 300 100 true
    (s.onProgramme = true ∧ s.delay.made = false ∧ s.delay.pauseNow = false ∧ s.delay.acc < 1000 ∧
        1 ≤ s.sections.station.rate ∧ s.sections.station.rate ≤ 50 ∧ (∀ n, s.heldDump n = false)) ∧
      ((withDelay .bypass 0 100 false).delay.state = .bypass ∧ (withDelay .bypass 0 100 false).delay.mem = [] ∧
        (withDelay .holding 100 100 false).delay.state = .holding ∧ (withDelay .building 9 100 false).delay.state = .building ∧
        (withDelay .exiting 9 100 false).delay.state = .exiting) ∧
      (p.delay.made = false ∧ p.delay.pauseNow = true ∧ p.delay.state.engaged = true ∧ (∀ n, p.heldDump n = false) ∧
        p.delay.mem.length ≤ 2097152 ∧ p.delay.mem.length + 240 ≤ 2097152) := by
  refine ⟨by decide, by decide, rfl, rfl, rfl, by decide, ?_, ?_⟩ <;>
    simp only [withDelay, List.length_replicate] <;> decide

/-- The block that passes the capacity. -/
theorem test_delay_overflow_met :
    let p := withDelay .squeezing 2097152 100 true
    p.delay.mem.length ≤ 2097152 ∧ 2097152 < p.delay.mem.length + 240 ∧ p.delay.overflowRaised = false := by
  refine ⟨?_, ?_, rfl⟩ <;> simp only [withDelay, List.length_replicate] <;> decide

/-- `run` with decoder A in a frame of the bytes given, the last at 5. -/
def inFrame (bs : List Byte) : State :=
  { run with decoder := run.decoder.set .a { Decoder.init with inFrame := true, bytes := bs, lastAt := 5 } }

theorem test_AlertCharactersBuildFrames_met :
    let r : State := { withEntry 4 .recording with decoder := (inFrame [0x7E]).decoder }
    let end13 : List Byte := [0x7E, 0x45, 1, 0, 0, 0, 0, 0, 0, 0, 0, 2, 0x13]
    let checked (bs : List Byte) : List Byte := bs ++ (leBytes 2 (crc16 (bs.drop 1)).toNat).reverse
    let noArea : List Byte := alertFrame.take 22 ++ [0]
    ((run.decoder.get .b).inFrame = false ∧ ((inFrame [0x7E]).decoder.get .a).inFrame = true ∧
        ((inFrame [0x7E]).decoder.get .a).bytes ≠ [] ∧ ((inFrame [0x7E]).decoder.get .a).lineBreak = false) ∧
      (([0x7E, 0x49] : List Byte).length = 2 ∧ (0x49 : Byte) ≠ 0x48 ∧ (0x49 : Byte) ≠ 0x45) ∧
      (([0x7E, 0x45] : List Byte).getD 1 0 = 0x45 ∧ ([0x7E, 0x45] : List Byte).length ≠ 14 ∧
        ([0x7E, 0x48] : List Byte).getD 1 0 ≠ 0x45 ∧ ¬23 ≤ ([0x7E, 0x48] : List Byte).length) ∧
      ((end13 ++ [0]).length = 14 ∧ alertCheckRight (end13 ++ [0]) = false ∧
        alertCheckRight (checked (end13.take 12)) = true ∧ isAlertHeader (checked (end13.take 12)) = false) ∧
      ((checked alertFrame).length = 25 + 3 * headerAreaCount (checked alertFrame) ∧
        alertCheckRight (checked alertFrame) = true ∧ headerFault (checked alertFrame) = none ∧
        (checked noArea).length = 25 + 3 * headerAreaCount (checked noArea) ∧ alertCheckRight (checked noArea) = true ∧
        isAlertHeader (checked noArea) = true ∧ (headerFault (checked noArea)).isSome = true) ∧
      (r.decoder.get .a).lineBreak = false ∧ (r.entry 4).state = .recording ∧ (r.entry 4).recPort = .a ∧
      (r.entry 4).mark = none := by decide +kernel

theorem test_IdleFrameIsAbandoned_met :
    ((inFrame [0x7E]).decoder.get .a).inFrame = true ∧ ((inFrame [0x7E]).decoder.get .a).lastAt + 1000 ≤ 1005 ∧
      1004 < ((inFrame [0x7E]).decoder.get .a).lastAt + 1000 ∧ (run.decoder.get .a).inFrame = false ∧
      (∃ t, Completes (.goodCharacter .a 0x48 1005) (inFrame [0x7E]) t ∧ (t.decoder.get .a).inFrame = true) ∧
      ∃ t, Completes (.framingError .a) (inFrame [0x7E]) t :=
  ⟨rfl, by decide, by decide, rfl, ⟨_, rfl, rfl⟩, _, rfl⟩

theorem test_AreasMatchByDistrict_met : (999999 : Nat) ≤ 999999 ∧ (999 : Nat) ≤ 999 := by decide

theorem test_PolicyIsResolvedInOrder_met :
    let p := AlertSettings.default
    let q : AlertSettings := { p with
      authority := [5], locale := [48000], events := [⟨1, .auto⟩] }
    p.airTests = false ∧ (0x57 : Byte) ≠ 0x54 ∧ q.authority ≠ [] ∧ (4 : BitVec 64) ∉ q.authority ∧
      (5 : BitVec 64) ∈ q.authority ∧ p.authority = [] ∧ localeMatches q.locale [7001] = false ∧
      localeMatches q.locale [48113] = true ∧ q.events.find? (fun e => e.code == 1) = some ⟨1, .auto⟩ ∧
      ∀ e ∈ q.events, e.code ≠ 2 := by decide

/-- `run` with the alert frame handed by decoder A. -/
def handedTo (s : State) (bs : List Byte) : State :=
  { s with decoder := s.decoder.set .a { Decoder.init with handed := [⟨bs, 77⟩] } }

/-- `run` with a given alert policy and every entry from an index on NOTED. -/
def fullFrom (n : Nat) (x : EntryState) (policy : Policy) : State := { handedTo run alertFrame with
  alerts := { run.alerts with entry := Eight.ofFn (fun m =>
    if n ≤ m.val then { AlertEntry.blank with state := x, expiry := BitVec.ofNat 48 (100 + m.val) } else AlertEntry.blank) }
  sections := { run.sections with policy := { AlertSettings.default with locale := [48000], defaultPolicy := policy } } }

theorem test_NewAlertIsAdmitted_met :
    let p := fullFrom 1 .noted .manual
    let resolved (x : Policy) : Policy := (resolve (fullFrom 1 .noted x).sections.policy (headerClass alertFrame)
      (headerEvent alertFrame) (headerIdentity alertFrame).sender (headerAreas alertFrame)).1
    let e : AlertEntry := { AlertEntry.blank with
      state := .pending, ident := headerIdentity alertFrame, originClass := 0x57, event := headerEvent alertFrame
      areas := [48113], duration := 30 }
    let d (x : AlertEntry) : State := (handedTo run alertFrame).setEntry 0 x
    ((p.decoder.get .a).handed = ⟨alertFrame, 77⟩ :: [] ∧ isAlertHeader alertFrame = true ∧
        p.holder (headerIdentity alertFrame) = none ∧ (p.entry 0).state = .free ∧ (p.entry 0).slot = none ∧
        (∀ m : EntryNo, m < 0 → (p.entry m).state ≠ .free) ∧
        (∀ x : Policy, resolved x = x) ∧ (∀ k, ∀ m, m ≠ 0 → (p.entry m).slot ≠ some k)) ∧
      (let f := fullFrom 0 .noted .auto
       (∀ m, (f.entry m).state ≠ .free) ∧ (f.entry 0).state.final = true ∧ f.holder (headerIdentity alertFrame) = none ∧
         ∀ m, m ≠ 0 → ((f.entry 0).expiry - f.time).toInt < ((f.entry m).expiry - f.time).toInt) ∧
      (let f := fullFrom 0 .queued .auto
       (∀ m, (f.entry m).state ≠ .free ∧ (f.entry m).state.final ≠ true) ∧ f.alerts.full = false ∧
         f.holder (headerIdentity alertFrame) = none) ∧
      ((d e).holder (headerIdentity alertFrame) = some 0 ∧ (differences ((d e).entry 0) alertFrame).any id = false ∧
        (d { e with duration := 31 }).holder (headerIdentity alertFrame) = some 0 ∧
        (differences ((d { e with duration := 31 }).entry 0) alertFrame).any id = true) := by
  refine ⟨⟨rfl, by decide, by decide, rfl, rfl, by decide, fun x => by cases x <;> decide, ?_⟩, by decide, by decide,
    by decide⟩
  intro k m; revert m; cases k <;> decide

/-- R137: with both slots held an AUTO alert enters PENDING with NO_AUDIO and its hold begins. -/
theorem test_NewAlertIsAdmitted_slots :
    let f := fullFrom 1 .noted .auto
    let e (n : EntryNo) (k : SlotId) (s : State) := s.setEntry n { s.entry n with state := .pending, slot := some k }
    let s := e 5 .a (e 2 .b f)
    (s.entry 5).slot = some .a ∧ (s.entry 2).slot = some .b ∧ (s.entry 0).slot = none ∧
      (match exec (.alertHeader .a) s with
        | .next t => decide ((t.entry 0).state = .pending) && (t.entry 0).flags.noAudio && (t.entry 0).holdUntil.isSome
        | _ => false) = true := by decide +kernel

theorem test_RecordingsEndAndAlertsExpire_met :
    let f : List Byte := [0x7E, 0x45, 1, 0, 0, 0, 0, 0, 0, 0, 0, 2]
    let z : State := { run with sections := { run.sections with
      policy := { AlertSettings.default with manualDeadline := 0 } } }
    let s (e : AlertEntry) : State := (handedTo z f).setEntry 6 { e with
      state := .recording, policy := .manual, ident := endIdentity f, expiry := 9 }
    let b := AlertEntry.blank
    let broken : AlertEntry := { b with mark := some .lineBreak }
    let two : State := (s broken).setEntry 2 { broken with state := .recording }
    let long : AlertEntry := { b with recLen := 5760000 }
    let full : State := (s long).setEntry 2 { long with state := .recording }
    ((s b).sections.policy.manualDeadline = 0 ∧ ((s b).entry 6).state = .recording ∧
        ((s b).entry 6).flags.forwardOnCompletion = false ∧ ((s b).entry 6).started = false ∧
        ((s b).entry 6).fresh = false ∧ ((s b).decoder.get .a).handed = ⟨f, 77⟩ :: [] ∧ isAlertHeader f = false ∧
        (s b).holder (endIdentity f) = some 6 ∧ ((s b).entry 6).recPort = .a ∧ ((s b).entry 6).mark = none ∧
        ((s { b with recPort := .b }).entry 6).recPort ≠ .a) ∧
      (((s { b with mark := some .endFrame }).entry 6).mark = some .endFrame ∧
        (∀ m : EntryNo, m < 6 → ((s { b with mark := some .endFrame }).entry m).state ≠ .recording) ∧
        5760000 ≤ ((s { b with recLen := 5760000 }).entry 6).recLen ∧
        5760000 ≤ ((s { b with recLen := 5760000, mark := some .endFrame }).entry 6).recLen) ∧
      ((two.entry 6).mark = some .lineBreak ∧ (two.entry 6).fresh = false ∧ (2 : EntryNo) < 6 ∧
        (two.entry 2).state = .recording ∧ (two.entry 2).fresh = false ∧ (two.entry 2).mark ≠ none ∧
        (full.entry 2).state = .recording ∧ 5760000 ≤ (full.entry 2).recLen ∧ 5760000 ≤ (full.entry 6).recLen ∧
        ∀ m : EntryNo, m < 2 → (two.entry m).state ≠ .recording) ∧
      (reached ({ s b with time := 9 } : State).time 9 = true ∧ reached ({ s b with time := 8 } : State).time 9 = false ∧
        (∀ m : EntryNo, m ≠ 6 → ((s b).entry m).slot ≠ some .a) ∧
        (let g : State := s { b with slot := some .a, started := true, recLen := 2 }
         (g.entry 6).slot = some .a ∧ (g.entry 6).started = true ∧ (g.entry 6).recLen < 5760000 ∧
           (g.entry 6).recLen ≤ (List.replicate 2 (0 : Sample)).length) ∧
        (∀ m : EntryNo, m < 6 → ((s b).entry m).state = .free) ∧ reached ({ two with time := 9 } : State).time
          (two.entry 2).expiry = true ∧ ((withEntry 6 .airing).entry 6).state = .airing) := by decide

theorem test_AlertsAreQueuedOrCancelled_met :
    let p := withEntry 6 .pending
    let r : State := withEntry 6 .recording
    ((p.entry 6).state = .pending ∧ (p.entry 6).fresh = false ∧ reached p.time 1000 = true ∧ reached p.time 999 = true ∧
        (p.entry 6).holdUntil = some 1000 ∧ (p.entry 6).deadline = some 999) ∧
      (65536 ≤ (65536 : Word).toNat ∧ (9 : Word).toNat < 65536 ∧ run.holder (namedIdentity 7 0 9) = none ∧
        p.holder (namedIdentity 7 0 9) = some 6 ∧ (p.entry 6).policy = .manual ∧ (r.entry 6).state = .recording ∧
        r.holder (namedIdentity 7 0 9) = some 6 ∧ (withEntry 6 .queued).holder (namedIdentity 7 0 9) = some 6 ∧
        (withEntry 6 .airing).holder (namedIdentity 7 0 9) = some 6 ∧
        (withEntry 6 .noted).holder (namedIdentity 7 0 9) = some 6 ∧ EntryState.noted.final = true) ∧
      ((∀ m, ¬((run.entry m).state = .pending ∧ (run.entry m).policy = .manual)) ∧
        (∀ m, m ≠ 6 → (p.entry m).state ≠ .pending ∧ (p.entry m).state ≠ .queued) ∧
        ((withEntry 6 .queued).entry 6).state = .queued ∧ ∀ m, ((withEntry 6 .queued).entry m).state ≠ .airing) := by
  decide

theorem test_AirQueueIsOrderedByKey_met :
    let s := run
    let l : List Queued := [⟨1, 3⟩, ⟨0, 5⟩]
    let c : State := s.setEntry 1 { AlertEntry.blank with originClass := 0x41 }
    l.Pairwise (fun x y => keyBefore (s.queueKey x) (s.queueKey y) = true) ∧ (⟨2, 4⟩ : Queued) ∉ l ∧
      s.placeQueued ⟨2, 4⟩ l = [⟨1, 3⟩, ⟨2, 4⟩, ⟨0, 5⟩] ∧ c.placeQueued ⟨1, 9⟩ [⟨0, 5⟩] = [⟨1, 9⟩, ⟨0, 5⟩] := by decide

/-- `run` with entry 3 AIRING. -/
def airingOf (x : AiringState) (given : Nat) : State := { withEntry 3 .airing with
  airing := { run.airing with
    state := x, entry := if x = .gap then none else some 3, tone := 1, message := 2, given := given, blockGiven := true }
  air := { run.air with now := .alert, before := .alert } }

theorem test_AlertsAirAndEndTheirRun_met :
    let q : State := { withEntry 3 .queued with callers := { run.callers with
      line := (run.callers.line.set 0 { run.line 0 with state := .onAir }).set 2 { run.line 2 with
        state := .onAir, taken := true }
      onAir := [0, 2] } }
    let d (p : AlertPolicy) : State := { q with
      delay := { q.delay with state := .holding }
      sections := { q.sections with station := { q.sections.station with policy := p } } }
    (q.airing.state = .idle ∧ q.alerts.queue = ⟨3, 3⟩ :: [] ∧ reached q.time (q.entry 3).expiry = false ∧
        (0 : LineNo) ∈ q.callers.onAir ∧ (q.line 0).taken = false ∧ (q.line 2).taken = true) ∧
      ((d .cut).delayAnswer = .cut ∧ (d .pause).delayAnswer = .pause) ∧
      ((airingOf .tone 1).airing.state = .tone ∧ (airingOf .tone 1).airing.tone ≤ (airingOf .tone 1).airing.given ∧
        0 < (airingOf .tone 1).airing.message) ∧
      ((airingOf .message 3).airing.entry = some 3 ∧ (airingOf .message 3).alerts.queue = [] ∧
        (airingOf .message 3).airing.tone + (airingOf .message 3).airing.message ≤ (airingOf .message 3).airing.given) ∧
      ((airingOf .fade 1).airing.state = .fade ∧ (airingOf .fade 1).airing.blockGiven = true ∧
        (airingOf .gap 1).airing.state = .gap ∧ (airingOf .gap 1).airing.blockGiven = true ∧
        (airingOf .gap 1).alerts.queue = []) ∧
      (let k (x : DeckState) (p : Bool) (u : State) : State :=
         { u.setDeck .a { Deck.blank with state := x, returnTo := .ending } with
           decks := { (u.setDeck .a { Deck.blank with state := x, returnTo := .ending }).decks with pause := p } }
       let more (u : State) : State := { u with alerts := { u.alerts with queue := [⟨5, 7⟩] } }
       let toneOnly : State := { airingOf .tone 1 with airing := { (airingOf .tone 1).airing with message := 0 } }
       let g : State := { d .cut with airing := (airingOf .gap 1).airing }
       (g.airing.state = .gap ∧ g.airing.blockGiven = true ∧ g.alerts.queue = ⟨3, 3⟩ :: [] ∧ g.delayAnswer = .cut ∧
           (∀ x ∈ ([] : List Queued), x.entry ≠ 3)) ∧
         ((k .playing false g).decks.pause = false ∧ ((k .playing false g).deck .a).state = .playing ∧
           (k .paused true g).decks.pause = true) ∧
         (toneOnly.airing.state = .tone ∧ toneOnly.airing.tone + toneOnly.airing.message ≤ toneOnly.airing.given ∧
           toneOnly.airing.entry = some 3 ∧ toneOnly.airing.message = 0) ∧
         (∀ u ∈ [more toneOnly, more (airingOf .message 3), more (airingOf .fade 1)], u.alerts.queue ≠ [] ∧
           u.airing.entry = some 3 ∧ ∀ q ∈ u.alerts.queue, q.entry ≠ 3) ∧
         (k .paused true (airingOf .message 3)).decks.pause = true ∧
         ((k .paused true (airingOf .message 3)).deck .a).state = .paused) := by decide

/-- R67, R155, R156: a PLAYING deck is PAUSED by an airing under CUT, and returns to PLAYING as the run ends; with another
entry waiting the run goes to GAP and the deck stays. -/
theorem test_AlertsAirAndEndTheirRun_decks :
    let q : State := (withEntry 3 .queued).setDeck .a { Deck.blank with state := .playing }
    let ending (u : State) (w : List Queued) : State := { u with
      airing := { u.airing with state := .tone, given := u.airing.tone + u.airing.message }
      alerts := { u.alerts with queue := w } }
    (match exec .airingStart q with
    | .next u => decide ((u.deck .a).state = .paused) && (u.deck .a).part.flags.pausedForAlert &&
        (match exec .airingEnd (ending u []), exec .airingEnd (ending u [⟨5, 7⟩]) with
          | .next v, .next w => decide ((v.deck .a).state = .playing ∧ v.airing.state = .idle ∧
              (w.deck .a).state = .paused ∧ w.airing.state = .gap)
          | _, _ => false)
    | _ => false) = true := by decide +kernel

/-- `run` with port B in a state. -/
def withPort (x : PortState) (training age : Nat) : State :=
  run.setPort .b { Port.init with state := x, training := training, age := age }

theorem test_PortsTrainAndFall_met :
    (returnFrameRight [] = false ∧ returnFrameRight returnBytes = true ∧
        returnSite returnBytes ≠ (7 : Nat) ∧ returnSite returnBytes = run.sections.station.siteAddress ∧
        (Side.b : PortId) ≠ run.link.active) ∧
      ((withPort .down 0 0).link.port.b.state = .down ∧ (withPort .training 6 0).link.port.b.training < 7 ∧
        7 ≤ (withPort .training 7 0).link.port.b.training ∧ (withPort .up 0 0).link.port.b.state = .up) ∧
      ((withPort .up 0 10).link.port.b.state ≠ .down ∧
        (withPort .up 0 10).sections.station.returnTimeout ≤ (withPort .up 0 10).link.port.b.age ∧
        (withPort .up 0 9).link.port.b.age < (withPort .up 0 9).sections.station.returnTimeout ∧
        run.link.downCond = false) := by decide +kernel

/-- R170, R171: a return for each port, the carrier from ON to OFF, and the echo at each edge of the latency's span. -/
theorem test_ReturnsCarryTelemetryAndLatency_met :
    let on : State := { run with link := { run.link with carrier := .on } }
    returnFrameRight returnBytes = true ∧ returnSite returnBytes = run.sections.station.siteAddress ∧
      run.link.active = .a ∧ (Side.b : PortId) ≠ run.link.active ∧ run.clock.state ≠ .onExternal .link ∧
      on.link.carrier = .on ∧ (BitVec.ofNat 8 (field returnBytes 5 1)).getLsbD 0 = false ∧ run.link.carrier ≠ .on ∧
      ((BitVec.ofNat 48 (field returnBytes 14 6) : Time) - run.link.base).toNat ≤ (run.time - run.link.base).toNat ∧
      ¬((0 : Time) - 1).toNat ≤ ((0 : Time)).toNat ∧
      (match exec (.returnFrame .a returnBytes 0) on with
        | .next t => decide (t.link.latency = some 0 ∧ t.link.carrier = .off ∧
            t.faults = (raise ⟨.txCarrier, .linkUnit, 0, 0, 0, zeros16⟩ on).faults)
        | _ => false) = true := by decide +kernel

theorem test_ActivePortChanges_met :
    let s (active : PortId) (p : Option PortId) : State := { withPort .up 0 0 with
      link := { (withPort .up 0 0).link with active := active, pendingSwitch := p, hold := some 5 }, time := 5 }
    let two (p : Option PortId) : State := (s .b p).setPort .a { Port.init with state := .up }
    let onLink (lost : Bool) : State := { s .a none with clock := { run.clock with state := .onExternal .link, lost := lost } }
    ((s .a none).clock.state = .onInternal ∧ ((s .a none).link.port.get .a).state = .down ∧
        ((s .a none).link.port.get .b).state = .up) ∧
      ((onLink false).clock.state = .onExternal .link ∧ (onLink false).clock.lost = false ∧ (onLink true).clock.lost = true ∧
        ((onLink false).link.port.get .a).state = .down ∧ ((onLink false).link.port.get .b).state = .up ∧
        (withClock (.qualifying .link) (some (.qualified .link)) 0).clock.pending = some (.qualified .link)) ∧
      (((two (some .a)).link.port.get .b).state ≠ .down ∧ (two (some .a)).link.pendingSwitch = some .a ∧
        ((two (some .a)).link.port.get .a).state = .up ∧ (Side.a : PortId) ≠ (two (some .a)).link.active ∧
        ((s .b (some .a)).link.port.get .a).state ≠ .up) ∧
      ((two none).link.pendingSwitch = none ∧ (two none).sections.station.autoRevert = true ∧
        (two none).link.active ≠ (two none).sections.station.preferred ∧ (two none).link.hold = some 5 ∧
        reached (two none).time 5 = true ∧ ((two none).link.port.get .a).state = .up) ∧
      1 < (2 : Word).toNat := by decide

theorem test_FramesLeaveInSequence_met :
    let b : AirBlock := ⟨[], 3, ⟨false, false, false, false⟩, none⟩
    let f : LinkFrame := ⟨true, 0, 0, 3, ⟨false, false, false, false⟩, none, []⟩
    let s : State := { run with air := { run.air with block := some b } }
    let up (sent : Nat) (fl : Option LinkFrame) (q : List AirBlock) (n : BitVec 16) : State :=
      { (s.setPort .a { Port.init with state := .up, latest := some returnBytes, sent := sent, sending := fl }) with
        link := { (s.setPort .a { Port.init with state := .up, latest := some returnBytes, sent := sent, sending := fl }).link with
          queue := q, nextSeq := n } }
    let full : State := { (s.setPort .a { Port.init with sending := some f }) with
      link := { (s.setPort .a { Port.init with sending := some f }).link with queue := List.replicate 16 b } }
    let other : State := run.setPort .b { Port.init with sending := some f }
    let still : State := run.setPort .b { Port.init with keepalive := 20 }
    (s.air.block = some b ∧ s.link.activePort.state ≠ .up ∧ s.link.activePort.sending = none ∧
        s.link.activePort.sent = 0 ∧ s.link.queue = []) ∧
      ((up 2 none [] 0).link.activePort.state = .up ∧ (up 2 none [] 0).link.activePort.latest = some returnBytes ∧
        (up 2 none [] 0).link.activePort.sent < 3 ∧ ¬(up 3 none [] 0).link.activePort.sent < 3 ∧
        ((up 2 none [] 0).link.nextSeq - returnAck returnBytes).toNat ≤ returnRoom returnBytes ∧
        ¬((up 2 none [] 1).link.nextSeq - returnAck returnBytes).toNat ≤ returnRoom returnBytes ∧
        (up 2 none [] 0).air.block = some b ∧ (up 2 none [] 0).link.activePort.sending = none ∧
        (up 2 none [] 0).link.queue = [] ∧ (up 2 (some f) [b] 0).link.activePort.sending.isSome = true ∧
        (up 2 (some f) [b] 0).link.queue = b :: []) ∧
      (full.air.block = some b ∧ full.link.activePort.sending.isSome = true ∧ full.link.queue.length = 16 ∧
        full.link.slip = none) ∧
      ((Side.b : PortId) ≠ other.link.active ∧ (other.link.port.get .b).sending.isSome = true) ∧
      20 ≤ (still.link.port.get .b).keepalive ∧ (still.link.port.get .b).sending = none := by decide +kernel

theorem test_RaisingIsRecordedOnce_met :
    let masked : State := { run with sections := { run.sections with station := { run.sections.station with mask := 1 } } }
    let f : FirstFault := ⟨.deadAir, 0, .programmeMixer, 0, 0, zeros16⟩
    let again : State := { run with faults := { run.faults with status := 1, first := some f } }
    masked.sections.station.mask.getLsbD FaultKind.cbRead.code = true ∧
      run.sections.station.mask.getLsbD FaultKind.txCarrier.code = false ∧
      again.faults.status.getLsbD FaultKind.cbRead.code = true ∧
      again.faults.status.getLsbD FaultKind.txCarrier.code = false ∧ run.faults.first = none ∧
      again.faults.first = some f ∧ run.classOf .deadAir = .onAir ∧ run.survey.state = .running ∧
      run.sections.station.noticeAddr = 0 ∧ run.log.considers = false ∧
      { run.sections.station with noticeAddr := 0x100 }.noticeAddr ≠ 0 := by decide

theorem test_AcknowledgedFaultsAreCleared_met :
    let f : FirstFault := ⟨.txCarrier, 0, .linkUnit, 0, 0, zeros16⟩
    let s : State := { run with faults := ⟨0x20001, 1, some f, true⟩ }
    s.survey.state = .running ∧ s.outstanding 0 = false ∧ 2 ^ 18 ≤ (0x40000 : Word).toNat ∧
      (0x3FFFF : Word).toNat < 2 ^ 18 ∧ s.faults.first = some f ∧ (0x20000 : Word).getLsbD f.kind.code = true ∧
      (1 : Word).getLsbD f.kind.code = false := by decide

theorem test_LogAndNoticesFollowTheHead_met :
    let e : LogEntry := ⟨.timeSet, .stationClock, 0, 0, 0, 0, 0, 0⟩
    let w (p : WritePhase) : LogWrite := ⟨e, 0, 0x4000, false, p⟩
    let s (p : PartState) (x : WritePhase) : State := { inState p with
      log := { (inState p).log with writing := some (w x) } }
    let g (failed : Bool) : State := { run with
      log := { run.log with dropped := 1, gapFailed := failed }
      sections := { run.sections with logs := ⟨0x4000, 64⟩ } }
    let n (urgent : Bool) (wait : Option LogEntry) (q : List LogEntry) : State := { run with
      log := { run.log with urgent := urgent, head := 1, holdoff := 10, awaited := wait, queue := q, considers := true }
      sections := { run.sections with station := { run.sections.station with noticeAddr := 0x100 } } }
    let i (u : Bool) : State := { run with log := { run.log with notice := some ⟨0x100, 1, u⟩ } }
    ((s .running .first).fresh .logWrite ∧ (s .running .first).log.writing = some (w .first) ∧
        (s .running .last).log.writing = some (w .last) ∧ (s .running .last).log.queue = [] ∧
        (s .halted .last).survey.state ≠ .running ∧ (s .halted .last).log.dropped < 4294967295) ∧
      ((g true).survey.state = .running ∧ (g true).log.writing = none ∧ 0 < (g true).log.dropped ∧
        (g true).sections.logs.base ≠ 0 ∧ (g true).log.valid = true ∧
        ((g true).log.head - (g true).log.consumed).toNat < (g true).sections.logs.size ∧ (g true).log.gapFailed = true ∧
        (g false).log.gapFailed = false) ∧
      ((n true none []).sections.station.noticeAddr ≠ 0 ∧ (n true none []).log.writing = none ∧
        (n true none []).log.notice = none ∧ (n true none []).log.noticed = false ∧ (n true none []).log.urgent = true ∧
        (∀ u, (n u none []).log.considers = true) ∧ (n false none []).log.queue = [] ∧
        (n false none []).sections.station.noticeHoldoff ≤ satInc 255 (n false none []).log.holdoff ∧
        (n true none []).log.awaited = none ∧ (n true (some e) []).log.queue.head? ≠ (n true (some e) []).log.awaited ∧
        (n false none []).log.head ≠ (n false none []).log.lastSent ∧
        (n false none []).sections.station.noticeHoldoff ≤ (n false none []).log.holdoff) ∧
      ((n true (some e) [e]).log.urgent = true ∧ (n true (some e) [e]).log.awaited = some e ∧
        (n true (some e) [e]).log.queue.head? = some e) ∧
      ((s .running .first).log.writing ≠ none ∧ (inState .halted).survey.state ≠ .running ∧
        run.sections.station.noticeAddr = 0) ∧
      (∀ u, (i u).fresh .notice ∧ (i u).log.notice = some ⟨0x100, 1, u⟩) ∧ (i true).log.considers = false ∧
      ({ i true with faults := ⟨0x3FFFF, 0, none, false⟩ } : State).newFault .writeError = false := by
  refine ⟨⟨rfl, rfl, rfl, rfl, by decide, by decide⟩, by decide, by decide, by decide, by decide, fun _ => ⟨rfl, rfl⟩, rfl,
    by decide⟩

/-- `run` with the last write of an entry or a LOG_GAP in flight, sequence 8 in a ring of 8 entries, and an entry behind. -/
def logging (gap failed : Bool) (dropped : Nat) (consumed : Word) : State :=
  let e : LogEntry := ⟨.timeSet, .stationClock, 0, 0, 0, 0, 0, 0⟩
  { run with
    log := { run.log with
      writing := some ⟨e, 8, 0x4000, gap, .last⟩, head := 8, consumed := consumed, valid := true, dropped := dropped
      gapFailed := failed, queue := [e] }
    sections := { run.sections with logs := ⟨0x4000, 8⟩ } }

/-- The write in flight after a LOG_WRITE_DONE, and the dropped count. -/
def nextWrite (ok : Bool) (s : State) : Option (Word × Bool × Addr × Nat) :=
  match exec (.logWriteDone ok) s with
  | .next t => t.log.writing.map (fun w => (w.seq, w.gap, w.addr, t.log.dropped))
  | _ => none

theorem test_LogAndNoticesFollowTheHead_running (g f : Bool) (n : Nat) (c : Word) :
    let s := logging g f n c
    s.fresh .logWrite ∧ s.survey.state = .running ∧ s.log.urgent = false ∧ s.sections.logs.base ≠ 0 ∧
      s.log.queue.length < 64 ∧ s.log.queue ≠ [] :=
  ⟨rfl, rfl, rfl, (by decide : (0x4000 : Addr) ≠ 0), (by decide : 1 < 64), List.cons_ne_nil _ _⟩

/-- R183, R184: after a good write and after a failed one, with room and with none, with drops and with none, and after a
LOG_GAP that failed. -/
theorem test_log_goes_on :
    (9 - (8 : Word)).toNat < 8 ∧ ¬(9 - (1 : Word)).toNat < 8 ∧
      [nextWrite true (logging false false 0 8), nextWrite true (logging true true 3 8),
        nextWrite true (logging false false 3 8), nextWrite true (logging false true 3 8),
        nextWrite true (logging false false 0 1), nextWrite false (logging false false 3 8),
        nextWrite false (logging true false 3 8)] =
      [some (9, false, 0x4020, 0), some (9, false, 0x4020, 0), some (9, true, 0x4020, 3), none, none,
        some (8, true, 0x4000, 4), none] := by
  refine ⟨by decide, by decide, by decide +kernel⟩

/-- R186: an urgent flag that was kept issues nothing in the block and is considered at the boundary; a raising of an
ON_AIR kind in RUNNING is considered at once. -/
theorem test_urgent_kept :
    let s : State := { run with
      log := { run.log with urgent := true }
      sections := { run.sections with station := { run.sections.station with noticeAddr := 0x100 } } }
    s.noticeNow = false ∧ s.log.yields 0x100 = false ∧ (noticeBegins s).noticeNow = true ∧
      (raise (Raising.plain .deadAir .airSwitch) { s with log := run.log }).log.considers = true := by decide

/-! ## The invariants' hypotheses are met by states that run -/

/-- `run` with an order, deck A playing, a line on air and a survey pass waiting. -/
def busy : State := { (run.setDeck .a { Deck.blank with state := .playing }) with
  callers := (withLine 2 .onAir).callers, pending := [.surveyPass] }

theorem test_EveryStepKeepsPartState_met : PartStateFits busy ∧ ∃ t, step busy = .next t := by
  refine ⟨⟨by decide, by decide, by decide, by decide, by decide, fun d => by cases d <;> decide, by decide⟩, _, rfl⟩

theorem test_EveryStepKeepsTheCallers_met :
    let s : State := { busy with pending := [.presenceFall 2] }
    PartStateFits s ∧ CallersFit s ∧ ∃ t, step s = .next t := by
  refine ⟨⟨by decide, by decide, by decide, by decide, by decide, fun d => by cases d <;> decide, by decide⟩,
    ⟨by decide, by decide, by decide, by decide, by decide⟩, _, rfl⟩

theorem test_EveryStepKeepsTheFirstLaw_met :
    let s : State := { airingOf .tone 1 with pending := [.toneEnd] }
    AlertsFit s ∧ ∃ t, step s = .next t := by
  refine ⟨⟨by decide, by decide, by decide, by decide, by decide, by decide, by decide⟩, _, rfl⟩

theorem test_EveryStepKeepsTheDelay_met :
    let s : State := { withDelay .building 9 100 false with pending := [.delayBlock] }
    DelayFits s ∧ ∃ t, step s = .next t := by
  refine ⟨⟨by decide, by decide, by decide, by decide⟩, _, rfl⟩

theorem test_EveryStepKeepsTheBounds_met :
    let s : State := { run with pending := [.programmeFrameFormed], faults := ⟨1, 1, none, false⟩ }
    BoundsFit s ∧ ∃ t, step s = .next t := by
  refine ⟨⟨by decide, by decide, fun p => by cases p <;> decide, by decide, by decide, by decide, by decide, by decide⟩,
    _, rfl⟩

end Sys2Proof.Tests
end

/-! # The running order: a completed record read, the end of a walk, and a walk begun after the wait (R44, R49). -/

namespace Sys2Proof.Machine

open Sys2Proof

/-! ## The commands of a walk -/

theorem exec_recordReadDone (r : ReadResult) (s : State) :
    exec (.recordReadDone r) s = execRecordReadDone r s := rfl

theorem exec_walkWaitExpired (s : State) : exec .walkWaitExpired s = execWalkWaitExpired s := rfl

/-- A record read that has not been given up goes to the walker (log entry 8). -/
theorem completes_recordReadDone {s : State} (r : ReadResult) (hf : s.fresh .record) :
    Completes (.recordReadDone r) s (recordReadDone r s) := by
  unfold Completes
  rw [exec_recordReadDone, execRecordReadDone, onRead_fresh _ hf]

/-- In RUNNING with demand, a waiting walker without a walk in progress whose wait has reached 20 blocks begins one
(R44). -/
theorem completes_walkWaitExpired {s : State} (hrun : s.survey.state = .running) (hdemand : s.demand = true)
    (hidle : s.walker.walking = false) (hwaits : s.walker.state.waits = true) (hwait : Config.walkWait ≤ s.walker.wait) :
    Completes .walkWaitExpired s (beginWalk s) := by
  have horder : s.walker.state ≠ .noOrder := by
    intro h
    rw [h] at hwaits
    cases hwaits
  have hmay : s.mayWalk = true := by simp [State.mayWalk, State.running, hrun, hdemand, hidle, horder]
  unfold Completes
  rw [exec_walkWaitExpired, execWalkWaitExpired, hmay, hwaits]
  simp [hwait]

/-! ## The end of a walk -/

/-- A walk's end sets the walker's state and ends the walk; beyond that it can change only the mark of demand that has
been absent (R44). -/
theorem endWalk_eq (st : WalkState) (s : State) :
    endWalk st s = { s with walker := { s.walker with
      state := st, walking := false, lapsed := (endWalk st s).walker.lapsed } } := by
  unfold endWalk
  rw [noteDemand_lapsed]

/-- A failed record read raises RECORD_BAD with reason READ_FAILED and a snapshot of zeros, and ends the walk in
CHAIN_WAIT (R49). -/
theorem recordReadDone_failed {s : State} (hw : s.walker.walking = true) :
    recordReadDone none s = endWalk .chainWait
      (raise ⟨.recordBad, .orderWalker, s.walker.ptr, 0, RecordReason.readFailed.code, zeros16⟩ s) := by
  simp [recordReadDone, hw, recordBad, Raising.plain]

/-! ## Obligations -/

/-- Settles O24: the failed read is `recordReadDone_failed`, and its CHAIN_WAIT waits, so that a walk at the same pointer
begins once the wait has reached 20 blocks. -/
theorem failedRecordReadWaitsAtTheAddress : Obligations.FailedRecordReadWaitsAtTheAddress := by
  unfold Obligations.FailedRecordReadWaitsAtTheAddress
  intro s hfresh hwalking
  have hend := (recordReadDone_failed hwalking).trans (endWalk_eq _ _)
  have hdone := completes_recordReadDone none hfresh
  rw [hend] at hdone
  refine ⟨_, hdone, by simp, rfl, rfl, by simp, by simp, rfl, ?_⟩
  intro u hrun hdemand hwalker
  have hbegin : Completes .walkWaitExpired u (beginWalk u) :=
    completes_walkWaitExpired hrun hdemand (by rw [hwalker]) (by rw [hwalker]; rfl) (by rw [hwalker])
  exact ⟨_, hbegin, rfl, by simp [beginWalk, hwalker]⟩

end Sys2Proof.Machine

/-! # Samples: what each format makes of a frame's bytes, and how a run of bytes is cut into frames (R58). -/

namespace Sys2Proof.Machine

open Sys2Proof

/-! ## The number that bytes spell -/

/-- A byte below the bytes of a number is appended to it at its low end. -/
theorem leNat_cons_eq_toNat {n : Nat} {bs : List Byte} {x : BitVec n} (b : Byte) (h : leNat bs = x.toNat) :
    leNat (b :: bs) = (x ++ b).toNat := by
  rw [leNat, h, BitVec.toNat_append, ← Nat.shiftLeft_add_eq_or_of_lt b.isLt, Nat.shiftLeft_eq]
  omega

theorem leNat_one (b0 : Byte) : leNat [b0] = b0.toNat := rfl

theorem leNat_two (b0 b1 : Byte) : leNat [b0, b1] = (b1 ++ b0 : BitVec 16).toNat :=
  leNat_cons_eq_toNat b0 (leNat_one b1)

theorem leNat_three (b0 b1 b2 : Byte) : leNat [b0, b1, b2] = (b2 ++ b1 ++ b0 : BitVec 24).toNat :=
  leNat_cons_eq_toNat b0 (leNat_two b1 b2)

theorem leNat_four (b0 b1 b2 b3 : Byte) : leNat [b0, b1, b2, b3] = (b3 ++ b2 ++ b1 ++ b0 : BitVec 32).toNat :=
  leNat_cons_eq_toNat b0 (leNat_three b1 b2 b3)

/-! ## One sample -/

/-- Times 256, a signed 16-bit value still fits the 24 bits. -/
theorem sample16_toInt {bs : List Byte} {x : BitVec 16} (h : leNat bs = x.toNat) :
    (sample16 bs).toInt = x.toInt * 256 := by
  have hx := x.isLt
  simp only [sample16, h, BitVec.toInt, BitVec.toNat_ofNat]
  omega

theorem sample24_eq {bs : List Byte} {x : BitVec 24} (h : leNat bs = x.toNat) : sample24 bs = x := by
  simp [sample24, h]

/-- The top 24 bits of a signed 32-bit value are its quotient by 256, rounded down. -/
theorem sample32_toInt {bs : List Byte} {x : BitVec 32} (h : leNat bs = x.toNat) :
    (sample32 bs).toInt = x.toInt / 256 := by
  have hx := x.isLt
  simp only [sample32, h, BitVec.toInt, BitVec.toNat_ofNat]
  omega

/-! ## The frames of a run of bytes -/

theorem frameBytes_pos (f : SampleFormat) : 0 < f.frameBytes := by cases f <;> decide

theorem framesOf_length (f : SampleFormat) (bs : List Byte) :
    (framesOf f bs).length = bs.length / f.frameBytes := by simp [framesOf]

/-- Frame i is made of the bytes at its own place. -/
theorem frameAt_framesOf {f : SampleFormat} {bs : List Byte} {i : Nat} (h : i < bs.length / f.frameBytes) :
    frameAt (framesOf f bs) i = frameOf f (slice bs (i * f.frameBytes) f.frameBytes) := by
  simp [frameAt, framesOf, h]

/-- As many bytes as one frame takes make one frame. -/
theorem framesOf_single {f : SampleFormat} {bs : List Byte} (h : bs.length = f.frameBytes) :
    framesOf f bs = [frameOf f bs] := by
  have hcount : bs.length / f.frameBytes = 1 := by rw [h, Nat.div_self (frameBytes_pos f)]
  simp [framesOf, hcount, slice_whole bs _ h]

/-- Where a whole frame i lies, its bytes are all there. -/
theorem slice_frame_length {bs : List Byte} {i n : Nat} (h : i < bs.length / n) : (slice bs (i * n) n).length = n := by
  have hend : (i + 1) * n ≤ bs.length := (Nat.mul_le_mul_right n h).trans (Nat.div_mul_le_self _ _)
  rw [Nat.succ_mul] at hend
  simp only [slice, List.length_take, List.length_drop]
  omega

/-- Each frame is what its own bytes alone make. -/
theorem framesOf_slice {f : SampleFormat} {bs : List Byte} {i : Nat} (h : i < bs.length / f.frameBytes) :
    framesOf f (slice bs (i * f.frameBytes) f.frameBytes) = [frameAt (framesOf f bs) i] := by
  rw [framesOf_single (slice_frame_length h), frameAt_framesOf h]

/-! ## The FIFO -/

theorem settle_fifo (k : Deck) : k.settle.fifo = k.fifo := by unfold Deck.settle; split <;> rfl

theorem join_fifo (k : Deck) (bs : List Byte) : (k.join bs).fifo = k.fifo ++ framesOf k.format (k.carry ++ bs) := by
  rw [Deck.join, settle_fifo]

/-! ## One frame of each format -/

section
variable (b0 b1 b2 b3 b4 b5 b6 b7 : Byte)

theorem framesOf_s16leMono : framesOf .s16leMono [b0, b1] = [⟨sample16 [b0, b1], sample16 [b0, b1]⟩] :=
  framesOf_single rfl

theorem framesOf_s16leStereo :
    framesOf .s16leStereo [b0, b1, b2, b3] = [⟨sample16 [b0, b1], sample16 [b2, b3]⟩] := framesOf_single rfl

theorem framesOf_s24leStereo :
    framesOf .s24leStereo [b0, b1, b2, b3, b4, b5] = [⟨sample24 [b0, b1, b2], sample24 [b3, b4, b5]⟩] :=
  framesOf_single rfl

theorem framesOf_s32leStereo : framesOf .s32leStereo [b0, b1, b2, b3, b4, b5, b6, b7] =
    [⟨sample32 [b0, b1, b2, b3], sample32 [b4, b5, b6, b7]⟩] := framesOf_single rfl

/-- The big-endian container's bytes are taken the other way round. -/
theorem framesOf_s32beStereo : framesOf .s32beStereo [b0, b1, b2, b3, b4, b5, b6, b7] =
    [⟨sample32 [b3, b2, b1, b0], sample32 [b7, b6, b5, b4]⟩] := framesOf_single rfl

end

/-! ## Obligations -/

/-- Settles O27: a chunk joins by `join_fifo`, its frames are cut by `framesOf_slice`, and each format's row is its frame
equation with the value of its samples. -/
theorem samplesConvertByFormat : Obligations.SamplesConvertByFormat := by
  unfold Obligations.SamplesConvertByFormat
  refine ⟨join_fifo, ⟨rfl, rfl, rfl, rfl, rfl⟩, fun f bs => ⟨framesOf_length f bs, fun i hi => framesOf_slice hi⟩, ?_⟩
  intro b0 b1 b2 b3 b4 b5 b6 b7
  refine ⟨⟨_, framesOf_s16leMono .., ?mono⟩, ⟨_, _, framesOf_s16leStereo .., ?left16, ?right16⟩, ?both24,
    ⟨_, _, framesOf_s32leStereo .., ?left32, ?right32⟩, ⟨_, _, framesOf_s32beStereo .., ?leftBe, ?rightBe⟩⟩
  case mono | left16 | right16 => exact sample16_toInt (leNat_two ..)
  case both24 => rw [framesOf_s24leStereo, sample24_eq (leNat_three ..), sample24_eq (leNat_three ..)]
  case left32 | right32 | leftBe | rightBe => exact sample32_toInt (leNat_four ..)

end Sys2Proof.Machine

/-! # Alert decoders: a frame abandoned, and the timing of the characters it holds (R126 to R131). -/

namespace Sys2Proof.Machine

open Sys2Proof

/-! ## The commands of a decoder -/

theorem exec_alertFrameIdle (p : PortId) (now : Nat) (s : State) :
    exec (.alertFrameIdle p now) s = execAlertFrameIdle p now s := rfl

theorem completes_goodCharacter (p : PortId) (v : Byte) (arrival : Nat) (s : State) :
    Completes (.goodCharacter p v arrival) s (goodCharacter p v arrival s) := rfl

theorem completes_framingError (p : PortId) (s : State) :
    Completes (.framingError p) s
      (if (s.decoder.get p).inFrame then badFrame p .framing (s.decoder.get p).bytes s else s) := rfl

theorem completes_breakCharacter (p : PortId) (s : State) :
    Completes (.breakCharacter p) s (breakCharacter p s) := rfl

/-- A command completes in one state at most. -/
theorem Completes.unique {c : Instr} {s t u : State} (ht : Completes c s t) (hu : Completes c s u) : t = u :=
  Host.Outcome.next.inj (ht.symm.trans hu)

/-! ## The end of a frame -/

@[simp] theorem hunt_inFrame (d : Decoder) : d.hunt.inFrame = false := rfl

/-- Raising after a decoder is replaced is raising, with the decoder replaced. -/
theorem raise_setDecoder (r : Raising) (p : PortId) (d : Decoder) (s : State) :
    raise r (s.setDecoder p d) = { raise r s with decoder := s.decoder.set p d } := by
  calc raise r (s.setDecoder p d)
    _ = { s.setDecoder p d with faults := (raise r s).faults, log := (raise r s).log } := raise_eq r rfl rfl rfl rfl rfl
    _ = { raise r s with decoder := s.decoder.set p d } := by rw [raise_only r s]; rfl

/-- An abandoned frame changes its decoder, which is back in HUNT, and beyond that only raises ALERT_FRAME (R130). -/
theorem badFrame_eq (p : PortId) (reason : AlertReason) (held : List Byte) (s : State) :
    badFrame p reason held s =
      { raise ⟨.alertFrame, decoderUnit p, BitVec.ofNat 64 (sideCode p), 0, reason.code, snapshot16 held⟩ s with
        decoder := s.decoder.set p (s.decoder.get p).hunt } := by
  rw [badFrame, raise_setDecoder, Raising.plain]

@[simp] theorem badFrame_decoder (p : PortId) (reason : AlertReason) (held : List Byte) (s : State) :
    (badFrame p reason held s).decoder = s.decoder.set p (s.decoder.get p).hunt := by rw [badFrame_eq]

@[simp] theorem handFrame_inFrame (p : PortId) (bs : List Byte) (s : State) :
    ((handFrame p bs s).decoder.get p).inFrame = false := by simp [handFrame]

/-- Whatever its checks say, a complete frame leaves its decoder in HUNT (R131). -/
@[simp] theorem completeFrame_inFrame (p : PortId) (bs : List Byte) (s : State) :
    ((completeFrame p bs s).decoder.get p).inFrame = false := by
  unfold completeFrame
  split
  · simp
  · split
    · split <;> simp
    · simp

/-! ## The timing of a frame (R128) -/

theorem completes_alertFrameIdle_due {p : PortId} {now : Nat} {s : State} (hin : (s.decoder.get p).inFrame = true)
    (hdue : (s.decoder.get p).lastAt + 1000 ≤ now) :
    Completes (.alertFrameIdle p now) s (badFrame p .idle (s.decoder.get p).bytes s) := by
  unfold Completes
  simp [exec_alertFrameIdle, execAlertFrameIdle, Config.idleFrames, hin, hdue]

theorem ignored_alertFrameIdle_early {p : PortId} {now : Nat} {s : State}
    (hearly : now < (s.decoder.get p).lastAt + 1000) : Ignored (.alertFrameIdle p now) s := by
  unfold Ignored
  simp [exec_alertFrameIdle, execAlertFrameIdle, Config.idleFrames, Nat.not_le.2 hearly]

theorem ignored_alertFrameIdle_hunt {p : PortId} {now : Nat} {s : State} (hout : (s.decoder.get p).inFrame = false) :
    Ignored (.alertFrameIdle p now) s := by
  unfold Ignored
  simp [exec_alertFrameIdle, execAlertFrameIdle, hout]

/-- A character of a frame is held, and the timing starts at its arrival, unless it ends the frame. -/
theorem extendFrame_hunt_or_lastAt (p : PortId) (v : Byte) (arrival : Nat) (s : State) :
    ((extendFrame p v arrival s).decoder.get p).inFrame = false ∨
      ((extendFrame p v arrival s).decoder.get p).lastAt = arrival := by
  unfold extendFrame
  dsimp only
  split
  · exact .inl (by simp)
  · split
    · exact .inl (by simp)
    · exact .inr (by simp)

/-- A good character leaves its decoder in HUNT or is the last one held, be it the frame's first or a later one. -/
theorem goodCharacter_hunt_or_lastAt (p : PortId) (v : Byte) (arrival : Nat) (s : State) :
    ((goodCharacter p v arrival s).decoder.get p).inFrame = false ∨
      ((goodCharacter p v arrival s).decoder.get p).lastAt = arrival := by
  unfold goodCharacter
  dsimp only
  split
  · exact extendFrame_hunt_or_lastAt p v arrival s
  · rename_i hhunt
    split
    · exact .inr (by simp)
    · exact .inl (by simpa using hhunt)

/-! ## Framing errors and breaks (R129) -/

/-- Abandoning the frame in progress, if there is one, leaves the decoder in HUNT. -/
theorem abandon_inFrame (p : PortId) (reason : AlertReason) (s : State) :
    ((if (s.decoder.get p).inFrame then badFrame p reason (s.decoder.get p).bytes s else s).decoder.get p).inFrame
      = false := by
  split
  · simp
  · rename_i hhunt
    simpa using hhunt

@[simp] theorem markBreak_decoder (p : PortId) (s : State) : (markBreak p s).decoder = s.decoder := rfl

theorem breakCharacter_inFrame (p : PortId) (s : State) :
    ((breakCharacter p s).decoder.get p).inFrame = false := by
  unfold breakCharacter
  dsimp only
  split <;> simpa using abandon_inFrame p .lineBreak s

/-! ## Obligations -/

/-- Settles O41: once the gap is due the frame is abandoned as `badFrame_eq` says, a character that stays in a
frame is its last (`goodCharacter_hunt_or_lastAt`), and a framing error and a break both leave the decoder in HUNT. -/
theorem idleFrameIsAbandoned : Obligations.IdleFrameIsAbandoned := by
  unfold Obligations.IdleFrameIsAbandoned
  intro s p now
  refine ⟨?due, ignored_alertFrameIdle_early, ignored_alertFrameIdle_hunt, ?held, ?ended⟩
  case due =>
    intro hin hdue
    refine ⟨_, completes_alertFrameIdle_due hin hdue, by simp, ?_⟩
    rw [badFrame_eq]
  case held =>
    intro v t ht hin
    obtain rfl := ht.unique (completes_goodCharacter p v now s)
    exact (goodCharacter_hunt_or_lastAt p v now s).resolve_left (by simp [hin])
  case ended =>
    rintro t (ht | ht)
    · obtain rfl := ht.unique (completes_framingError p s)
      exact abandon_inFrame p .framing s
    · obtain rfl := ht.unique (completes_breakCharacter p s)
      exact breakCharacter_inFrame p s

end Sys2Proof.Machine

/-! # Area codes: when two of them match, and when an alert matches the locale (R134). -/

namespace Sys2Proof.Machine

open Sys2Proof

theorem codesMatch_iff (x y : Nat) :
    codesMatch x y = true ↔ x = y ∨ ((x % 1000 = 0 ∨ y % 1000 = 0) ∧ x / 1000 = y / 1000) := by
  simp [codesMatch]

theorem localeMatches_iff (locale areas : List Nat) :
    localeMatches locale areas = true ↔ ∃ a ∈ areas, ∃ e ∈ locale, codesMatch a e = true := by
  simp [localeMatches]

/-- A code matches the district code of its own district. -/
theorem codesMatch_district (x : Nat) : codesMatch x (x / 1000 * 1000) = true :=
  (codesMatch_iff _ _).2 (.inr ⟨.inr (Nat.mul_mod_left _ _), (Nat.mul_div_cancel _ (by decide)).symm⟩)

theorem localeMatches_nil (areas : List Nat) : localeMatches [] areas = false := by
  rw [Bool.eq_false_iff, Ne, localeMatches_iff]
  rintro ⟨a, -, e, he, -⟩
  exact List.not_mem_nil he

/-- Settles O42: the two matches are `codesMatch_iff` and `localeMatches_iff`, and a code up to 999 lies in
district 0. -/
theorem areasMatchByDistrict : Obligations.AreasMatchByDistrict := by
  unfold Obligations.AreasMatchByDistrict
  refine ⟨fun x y _ _ => codesMatch_iff x y, localeMatches_iff, localeMatches_nil, codesMatch_district 48113,
    codesMatch_district 48000, by decide, ?_⟩
  intro x hx
  have hdistrict : x / 1000 = 0 := Nat.div_eq_of_lt (Nat.lt_succ_of_le hx)
  simpa [hdistrict] using codesMatch_district x

end Sys2Proof.Machine


/-! # What a step can break: the five invariants, and the operations' share in keeping them

Each operation is shown once to keep the invariants of `Good`; a command keeps what its operations keep. An operation
that breaks an invariant until a later one of the same command mends it names that invariant as its exception. -/

namespace Sys2Proof.Machine

open Sys2Proof

/-! ## What the invariants read -/

/-- All that the invariants read of a state. -/
structure Reads where
  survey : PartState × SurveyPhase × PartState
  base : Addr
  monitor : MonitorState × Bool
  walking : Bool
  decks : DeckState × DeckState
  callers : List LineNo × List LineNo × Four LineState
  limit : Nat
  table : Eight AlertEntry × List Queued × AiringState × Option EntryNo
  now : AirSource
  delay : Nat × Delay
  link : List AirBlock × Two Port
  log : List LogEntry × Nat
  gpi : Eight GpiLine
  faults : Faults

/-- What the invariants read of this state. -/
def State.reads (s : State) : Reads where
  survey := (s.survey.state, s.survey.phase, s.survey.cameFrom)
  base := s.survey.cbBase
  monitor := (s.monitor.state, s.monitor.rescue)
  walking := s.walker.walking
  decks := (s.decks.deck.a.state, s.decks.deck.b.state)
  callers := (s.callers.queue, s.callers.onAir, s.callers.line.map Line.state)
  limit := s.sections.callers.limit
  table := (s.alerts.entry, s.alerts.queue, s.airing.state, s.airing.entry)
  now := s.air.now
  delay := (s.sections.station.target, s.delay)
  link := (s.link.queue, s.link.port)
  log := (s.log.queue, s.log.dropped)
  gpi := s.gpi
  faults := s.faults

/-- The alert table and the airing, without the switch: `AlertsFit` but for its clause about the air. -/
structure TableFits (s : State) : Prop where
  oneAiring : ∀ n, (s.entry n).state = .airing ↔ (s.airing.entry = some n ∧ s.airing.state.airs = true)
  noEntry : s.airing.state.airs = false → s.airing.entry = none
  someEntry : s.airing.state.airs = true → s.airing.entry ≠ none
  queueOnce : (s.alerts.queue.map Queued.entry).Nodup
  queueHolds : ∀ n, n ∈ s.alerts.queue.map Queued.entry ↔ (s.entry n).state = .queued
  slots : ∀ m n, m ≠ n → (s.entry m).slot = (s.entry n).slot → (s.entry m).slot = none

theorem alertsFit_iff (s : State) :
    AlertsFit s ↔ TableFits s ∧ (s.air.now = .alert ↔ s.airing.state.present = true) :=
  ⟨fun h => ⟨⟨h.oneAiring, h.noEntry, h.someEntry, h.queueOnce, h.queueHolds, h.slots⟩, h.onAir⟩,
    fun ⟨h, ha⟩ => ⟨h.oneAiring, h.noEntry, h.someEntry, ha, h.queueOnce, h.queueHolds, h.slots⟩⟩

section
variable {s t : State}

theorem onProgramme_congr (h : t.survey.state = s.survey.state) : t.onProgramme = s.onProgramme := by
  simp only [State.onProgramme, h]

theorem running_congr (h : t.survey.state = s.survey.state) : t.running = s.running := by
  simp only [State.running, h]

theorem onProgramme_of_running (h : s.running = true) : s.onProgramme = true := by
  simp only [State.running, beq_iff_eq] at h
  simp [State.onProgramme, h]

theorem deck_states_of_reads (h : t.reads.decks = s.reads.decks) (d : DeckId) : (t.deck d).state = (s.deck d).state := by
  obtain ⟨ha, hb⟩ := Prod.mk.inj h
  cases d
  · exact ha
  · exact hb

theorem line_states_of_reads (h : t.reads.callers = s.reads.callers) (n : LineNo) :
    (t.line n).state = (s.line n).state := by
  obtain ⟨-, h⟩ := Prod.mk.inj h
  obtain ⟨-, h⟩ := Prod.mk.inj h
  simpa [State.line] using congrArg (Four.get · n) h

theorem PartStateFits.of_reads (h : PartStateFits s) (hs : t.reads.survey = s.reads.survey)
    (hm : t.reads.monitor = s.reads.monitor) (hw : t.reads.walking = s.reads.walking)
    (hd : t.reads.decks = s.reads.decks) (hc : t.reads.callers = s.reads.callers) : PartStateFits t := by
  obtain ⟨hstate, hrest⟩ := Prod.mk.inj hs
  obtain ⟨hphase, hfrom⟩ := Prod.mk.inj hrest
  obtain ⟨hm1, hm2⟩ := Prod.mk.inj hm
  obtain ⟨-, hc'⟩ := Prod.mk.inj hc
  obtain ⟨hair, -⟩ := Prod.mk.inj hc'
  have hw : t.walker.walking = s.walker.walking := hw
  have hp := onProgramme_congr hstate
  have hr := running_congr hstate
  constructor
  · rw [hphase, hstate]; exact h.phase
  · rw [hfrom]; exact h.cameFrom
  · rw [hm1, hp]; exact h.monitor
  · rw [hm2, hp]; exact h.rescue
  · rw [hw, hr]; exact h.walks
  · intro d; rw [deck_states_of_reads hd d, hp]; exact h.decks d
  · rw [hair, hp]; exact h.callers

theorem CallersFit.of_reads (h : CallersFit s) (hc : t.reads.callers = s.reads.callers)
    (hl : t.reads.limit = s.reads.limit) : CallersFit t := by
  have hstates := line_states_of_reads hc
  obtain ⟨hq, hrest⟩ := Prod.mk.inj hc
  obtain ⟨ha, -⟩ := Prod.mk.inj hrest
  have hl : t.sections.callers.limit = s.sections.callers.limit := hl
  constructor
  · rw [hq]; exact h.queueOnce
  · intro n; rw [hq, hstates]; exact h.queueHolds n
  · rw [ha]; exact h.airOnce
  · intro n; rw [ha, hstates]; exact h.airHolds n
  · rw [ha, hl]; exact h.limit

theorem TableFits.of_reads (h : TableFits s) (ht : t.reads.table = s.reads.table) : TableFits t := by
  obtain ⟨he, hrest⟩ := Prod.mk.inj ht
  obtain ⟨hq, hrest⟩ := Prod.mk.inj hrest
  obtain ⟨hs, hn⟩ := Prod.mk.inj hrest
  have he' : ∀ n, t.entry n = s.entry n := fun n => congrArg (Eight.get · n) he
  constructor
  · intro n; rw [he', hs, hn]; exact h.oneAiring n
  · rw [hs, hn]; exact h.noEntry
  · rw [hs, hn]; exact h.someEntry
  · rw [hq]; exact h.queueOnce
  · intro n; rw [hq, he']; exact h.queueHolds n
  · intro m n; rw [he', he']; exact h.slots m n

theorem AlertsFit.of_reads (h : AlertsFit s) (ht : t.reads.table = s.reads.table) (hn : t.reads.now = s.reads.now) :
    AlertsFit t := by
  obtain ⟨hf, ha⟩ := (alertsFit_iff s).1 h
  have hs : t.airing.state = s.airing.state := congrArg (fun x => x.2.2.1) ht
  have hn : t.air.now = s.air.now := hn
  exact (alertsFit_iff t).2 ⟨hf.of_reads ht, by rw [hn, hs]; exact ha⟩

theorem DelayFits.of_reads (h : DelayFits s) (hd : t.reads.delay = s.reads.delay) : DelayFits t := by
  obtain ⟨ht, hd⟩ := Prod.mk.inj hd
  constructor
  · rw [ht]; exact h.target
  · rw [hd]; exact h.capacity
  · rw [hd]; exact h.bypass
  · rw [hd]; exact h.fraction

theorem BoundsFit.of_reads (h : BoundsFit s) (hb : t.reads.base = s.reads.base) (hl : t.reads.link = s.reads.link)
    (hg : t.reads.log = s.reads.log) (hi : t.reads.gpi = s.reads.gpi) (hf : t.reads.faults = s.reads.faults) :
    BoundsFit t := by
  have hb : t.survey.cbBase = s.survey.cbBase := hb
  obtain ⟨hq, hp⟩ := Prod.mk.inj hl
  obtain ⟨hlq, hld⟩ := Prod.mk.inj hg
  have hi : t.gpi = s.gpi := hi
  have hf : t.faults = s.faults := hf
  constructor
  · rw [hb]; exact h.base
  · rw [hq]; exact h.sendQueue
  · rw [hp]; exact h.sent
  · rw [hlq]; exact h.logQueue
  · rw [hi]; exact h.debounce
  · rw [hf]; exact h.repeats
  · rw [hf]; exact h.multiple
  · rw [hld]; exact h.dropped

end

/-! ## An operation's share -/

/-- What an operation may keep: the survey unit's part state with what it reads, and each of the invariants. -/
inductive Aspect where
  | survey
  | part
  | callers
  | table
  | alerts
  | delay
  | bounds
deriving DecidableEq

/-- An aspect is kept from one state to another. -/
def Aspect.keeps : Aspect → State → State → Prop
  | .survey, s, t => t.reads.survey = s.reads.survey
  | .part, s, t => PartStateFits s → PartStateFits t
  | .callers, s, t => CallersFit s → CallersFit t
  | .table, s, t => TableFits s → TableFits t
  | .alerts, s, t => AlertsFit s → AlertsFit t
  | .delay, s, t => DelayFits s → DelayFits t
  | .bounds, s, t => BoundsFit s → BoundsFit t

/-- Going from one state to another keeps every aspect but for the exceptions. -/
structure Evolves (except : List Aspect) (s t : State) : Prop where
  keeps : ∀ a, a ∉ except → a.keeps s t

namespace Evolves

variable {F G : List Aspect} {s t u : State}

theorem refl (s : State) : Evolves [] s s := by
  refine ⟨?_⟩
  rintro (_ | _ | _ | _ | _ | _ | _) -
  case survey => rfl
  all_goals exact id

theorem trans (h : Evolves F s t) (k : Evolves F t u) : Evolves F s u := by
  refine ⟨fun a ha => ?_⟩
  have h := h.keeps a ha
  have k := k.keeps a ha
  cases a
  case survey => exact k.trans h
  all_goals exact k ∘ h

/-- `trans` with the later part first, which says what the state between them is. -/
theorem after (k : Evolves F t u) (h : Evolves F s t) : Evolves F s u := h.trans k

theorem mono (h : Evolves F s t) (hFG : F ⊆ G) : Evolves G s t :=
  ⟨fun a ha => h.keeps a fun hF => ha (hFG hF)⟩

theorem ite {b : Prop} [Decidable b] (h : Evolves F s t) (k : Evolves F s u) : Evolves F s (if b then t else u) := by
  split
  · exact h
  · exact k

/-- Where the invariants read the same, everything is kept. -/
theorem of_reads (h : t.reads = s.reads) : Evolves [] s t := by
  refine ⟨?_⟩
  rintro (_ | _ | _ | _ | _ | _ | _) -
  case survey => exact congrArg Reads.survey h
  all_goals exact fun k => by apply k.of_reads <;> rw [h]

/-- Where only the monitor, the walk and the decks differ, the part state is what has to be seen to. -/
theorem of_playout (h : t.reads = { s.reads with
      monitor := t.reads.monitor, walking := t.reads.walking, decks := t.reads.decks })
    (hp : PartStateFits s → PartStateFits t) : Evolves [] s t := by
  refine ⟨?_⟩
  rintro (_ | _ | _ | _ | _ | _ | _) -
  case survey => exact (congrArg Reads.survey h :)
  case part => exact hp
  all_goals exact fun k => by apply k.of_reads <;> rw [h]

/-- Where only the caller table and its limit differ, they have to fit, and a first line on air needs the programme. -/
theorem of_callers (h : t.reads = { s.reads with callers := t.reads.callers, limit := t.reads.limit })
    (hp : t.callers.onAir ≠ [] → s.callers.onAir ≠ [] ∨ s.onProgramme = true)
    (hc : CallersFit s → CallersFit t) : Evolves [] s t := by
  refine ⟨?_⟩
  rintro (_ | _ | _ | _ | _ | _ | _) -
  case survey => exact (congrArg Reads.survey h :)
  case part =>
    intro k
    have hv : PartStateFits { t with callers := s.callers } := by
      apply k.of_reads
      exacts [(congrArg Reads.survey h :), (congrArg Reads.monitor h :), (congrArg Reads.walking h :),
        (congrArg Reads.decks h :), rfl]
    have hprog : t.onProgramme = s.onProgramme := onProgramme_congr (congrArg (fun r => r.survey.1) h :)
    exact ⟨hv.phase, hv.cameFrom, hv.monitor, hv.rescue, hv.walks, hv.decks,
      fun ht => hprog ▸ (hp ht).elim k.callers id⟩
  case callers => exact hc
  all_goals exact fun k => by apply k.of_reads <;> rw [h]

/-- Where only the alert table and the airing differ, all else is kept. -/
theorem of_alerts (h : t.reads = { s.reads with table := t.reads.table }) : Evolves [.table, .alerts] s t := by
  refine ⟨?_⟩
  rintro (_ | _ | _ | _ | _ | _ | _) hx
  case survey => exact (congrArg Reads.survey h :)
  case table | alerts => exact absurd hx (by simp)
  all_goals exact fun k => by apply k.of_reads <;> rw [h]

/-- Where only the alert table and the airing differ and the alert source may come or go, the switch is to follow. -/
theorem of_airing (h : t.reads = { s.reads with table := t.reads.table }) (ht : TableFits s → TableFits t) :
    Evolves [.alerts] s t := by
  refine ⟨?_⟩
  rintro (_ | _ | _ | _ | _ | _ | _) hx
  case survey => exact (congrArg Reads.survey h :)
  case table => exact ht
  case alerts => exact absurd (List.mem_singleton_self _) hx
  all_goals exact fun k => by apply k.of_reads <;> rw [h]

/-- Where only the alert table and the airing differ, they have to fit, and the alert source stays as it was. -/
theorem of_table (h : t.reads = { s.reads with table := t.reads.table })
    (hpresent : t.airing.state.present = s.airing.state.present) (ht : TableFits s → TableFits t) :
    Evolves [] s t := by
  refine ⟨fun a _ => ?_⟩
  by_cases halerts : a = .alerts
  · subst halerts
    intro k
    obtain ⟨hf, ha⟩ := (alertsFit_iff s).1 k
    have hn : t.air.now = s.air.now := (congrArg Reads.now h :)
    exact (alertsFit_iff t).2 ⟨ht hf, by rw [hn, hpresent]; exact ha⟩
  · exact (of_airing h ht).keeps a (by simpa using halerts)

/-- Where only the delay line differs, it has to stay within its memory. -/
theorem of_delay (h : t.reads = { s.reads with delay := t.reads.delay }) (hd : DelayFits s → DelayFits t) :
    Evolves [] s t := by
  refine ⟨?_⟩
  rintro (_ | _ | _ | _ | _ | _ | _) -
  case survey => exact (congrArg Reads.survey h :)
  case delay => exact hd
  all_goals exact fun k => by apply k.of_reads <;> rw [h]

/-- Where only counts, queues and fault flags differ, their bounds have to hold. -/
theorem of_bounds (h : t.reads = { s.reads with
      base := t.reads.base, link := t.reads.link, log := t.reads.log, gpi := t.reads.gpi, faults := t.reads.faults })
    (hb : BoundsFit s → BoundsFit t) : Evolves [] s t := by
  refine ⟨?_⟩
  rintro (_ | _ | _ | _ | _ | _ | _) -
  case survey => exact (congrArg Reads.survey h :)
  case bounds => exact hb
  all_goals exact fun k => by apply k.of_reads <;> rw [h]

theorem survey_state (h : Evolves F s t) (hF : .survey ∉ F := by decide) : t.survey.state = s.survey.state :=
  congrArg Prod.fst (h.keeps .survey hF)

theorem survey_phase (h : Evolves F s t) (hF : .survey ∉ F := by decide) : t.survey.phase = s.survey.phase :=
  congrArg (fun x => x.2.1) (h.keeps .survey hF)

end Evolves

end Sys2Proof.Machine


/-! # Reports, clock and link: what their operations keep -/

namespace Sys2Proof.Machine

open Sys2Proof

/-! ## The log writer's bounds (R182, R183) -/

/-- The queue and the dropped count lie within their bounds. -/
def LogWriter.bounded (l : LogWriter) : Prop := l.queue.length ≤ Config.logQueue ∧ l.dropped ≤ Config.max32

theorem LogWriter.drop_dropped_le (l : LogWriter) (n : Nat) : (l.drop n).dropped ≤ Config.max32 := Nat.min_le_right _ _

theorem LogWriter.drop_bounded {l : LogWriter} (h : l.bounded) (n : Nat) : (l.drop n).bounded :=
  ⟨h.1, l.drop_dropped_le n⟩

theorem takeNext_bounded (set : LogSettings) (now : Time) (q : List LogEntry) {l : LogWriter}
    (hq : q.length ≤ Config.logQueue) (hd : l.dropped ≤ Config.max32) :
    (LogWriter.takeNext set now q l).bounded := by
  induction q generalizing l with
  | nil => exact ⟨Nat.zero_le _, hd⟩
  | cons e rest ih =>
    have hrest : rest.length ≤ Config.logQueue := (Nat.le_succ _).trans hq
    unfold LogWriter.takeNext
    split
    · split
      · exact ⟨hrest, hd⟩
      · split <;> exact ⟨hq, hd⟩
    · exact ih hrest (l.drop_dropped_le 1)

theorem pump_bounded (running : Bool) (set : LogSettings) (notice : Addr) (now : Time) {l : LogWriter} (h : l.bounded) :
    (l.pump running set notice now).bounded := by
  unfold LogWriter.pump
  split
  · exact takeNext_bounded set now _ h.1 h.2
  · exact h

theorem hand_bounded (running : Bool) (set : LogSettings) (notice : Addr) (now : Time) (e : LogEntry) {l : LogWriter}
    (h : l.bounded) : (l.hand running set notice now e).bounded := by
  unfold LogWriter.hand
  split
  · rename_i hroom
    simp only [Bool.and_eq_true, decide_eq_true_eq] at hroom
    exact pump_bounded running set notice now ⟨by simpa using hroom.2, h.2⟩
  · exact LogWriter.drop_bounded h 1

theorem flush_bounded (l : LogWriter) : l.flush.bounded := ⟨Nat.zero_le _, l.drop_dropped_le _⟩

theorem writeFailed_bounded {l : LogWriter} (h : l.bounded) (gap : Bool) : (l.writeFailed gap).bounded := by
  unfold LogWriter.writeFailed
  split
  · exact h
  · exact LogWriter.drop_bounded h 1

theorem writeGood_bounded {l : LogWriter} (h : l.bounded) (gap : Bool) : (l.writeGood gap).bounded := by
  unfold LogWriter.writeGood
  split
  · exact ⟨h.1, Nat.zero_le _⟩
  · exact h

/-! ## The fault unit's flags (R178, R180, R181) -/

/-- A repeat flag is set for a set status alone, and the multiple flag with a first fault alone. -/
def Faults.agree (f : Faults) : Prop := f.repeated &&& ~~~f.status = 0 ∧ (f.first = none → f.multiple = false)

theorem getLsbD_setKind (w : BitVec 18) (k : FaultKind) {i : Nat} (_ : i < 18) :
    (setKind w k).getLsbD i = (w.getLsbD i || decide (i = k.code)) := by
  have hk : (1 <<< k.code : BitVec 18) = BitVec.twoPow 18 k.code := by cases k <;> rfl
  rw [setKind, hk, BitVec.getLsbD_or, BitVec.getLsbD_twoPow]
  simp [eq_comm, k.code_lt]

theorem covered_iff (r w : BitVec 18) :
    r &&& ~~~w = 0 ↔ ∀ i, i < 18 → r.getLsbD i = true → w.getLsbD i = true := by
  constructor
  · intro h i hi hr
    have hbit := congrArg (BitVec.getLsbD · i) h
    simpa [hi, hr] using hbit
  · intro h
    apply BitVec.eq_of_getLsbD_eq
    intro i hi
    cases hr : r.getLsbD i
    · simp [hr]
    · simp [h i hi hr]

theorem setKind_covers {r w : BitVec 18} (k : FaultKind) (h : r &&& ~~~w = 0) : r &&& ~~~(setKind w k) = 0 := by
  rw [covered_iff] at h ⊢
  intro i hi hr
  simp [getLsbD_setKind w k hi, h i hi hr]

theorem setKind_repeated {r w : BitVec 18} (k : FaultKind) (h : r &&& ~~~w = 0) (hk : w.getLsbD k.code = true) :
    setKind r k &&& ~~~w = 0 := by
  rw [covered_iff] at h ⊢
  intro i hi hr
  rw [getLsbD_setKind r k hi, Bool.or_eq_true, decide_eq_true_eq] at hr
  rcases hr with hr | rfl
  · exact h i hi hr
  · exact hk

theorem take_agree {f : Faults} (h : f.agree) (masked : Bool) (now : Time) (r : Raising) :
    (f.take masked now r).agree := by
  unfold Faults.take
  split
  · exact ⟨setKind_covers _ h.1, h.2⟩
  · split
    · rename_i hset
      exact ⟨setKind_repeated _ h.1 hset, h.2⟩
    · split
      · exact ⟨setKind_covers _ h.1, fun hn => by cases hn⟩
      · rename_i first
        exact ⟨setKind_covers _ h.1, fun hn => by simp [first] at hn⟩

theorem ack_agree {f : Faults} (h : f.agree) (kinds : BitVec 18) : (f.ack kinds).agree := by
  obtain ⟨hrepeated, hmultiple⟩ := h
  constructor
  · rw [covered_iff] at hrepeated ⊢
    intro i hi hr
    simp only [Faults.ack, BitVec.getLsbD_and, Bool.and_eq_true] at hr ⊢
    exact ⟨hrepeated i hi hr.1, hr.2⟩
  · intro hn
    simp only [Faults.ack] at hn ⊢
    split
    · rfl
    · rename_i hheld
      rw [if_neg hheld] at hn
      exact hmultiple hn

/-! ## The link's bounds (R164, R165) -/

/-- The send queue holds sixteen frames at most, and a port has sent three at most. -/
def Link.bounded (l : Link) : Prop := l.queue.length ≤ Config.sendQueue ∧ ∀ p, (l.port.get p).sent ≤ 3

theorem Link.bounded_setPort {l : Link} (h : l.bounded) (p : PortId) {x : Port} (hx : x.sent ≤ 3) :
    ({ l with port := l.port.set p x } : Link).bounded := by
  refine ⟨h.1, fun q => ?_⟩
  rcases Side.eq_or_other p q with rfl | rfl
  · simpa using hx
  · simpa using h.2 p.other

namespace Evolves

variable {s : State}

theorem of_log {t : State} (h : t.reads = { s.reads with log := t.reads.log }) (hl : s.log.bounded → t.log.bounded) :
    Evolves [] s t := by
  refine of_bounds (by rw [h]) fun k => ?_
  have hb : BoundsFit { t with log := s.log } := by
    apply k.of_reads
    exacts [(congrArg Reads.base h :), (congrArg Reads.link h :), rfl, (congrArg Reads.gpi h :),
      (congrArg Reads.faults h :)]
  obtain ⟨hq, hd⟩ := hl ⟨k.logQueue, k.dropped⟩
  exact { hb with logQueue := hq, dropped := hd }

theorem of_faults {f : Faults} (h : s.faults.agree → f.agree) : Evolves [] s { s with faults := f } :=
  of_bounds rfl fun k =>
    have ⟨hr, hm⟩ := h ⟨k.repeats, k.multiple⟩
    { k with repeats := hr, multiple := hm }

theorem of_link {l : Link} (h : s.link.bounded → l.bounded) : Evolves [] s { s with link := l } :=
  of_bounds rfl fun k =>
    have ⟨hq, hs⟩ := h ⟨k.sendQueue, k.sent⟩
    { k with sendQueue := hq, sent := hs }

theorem of_gpi {g : Eight GpiLine} (h : (∀ n, (s.gpi.get n).count ≤ 3) → ∀ n, (g.get n).count ≤ 3) :
    Evolves [] s { s with gpi := g } :=
  of_bounds rfl fun k => { k with debounce := h k.debounce }

end Evolves

/-! ## Reports -/

theorem handLog_evolves (e : LogEntry) (s : State) : Evolves [] s (handLog e s) :=
  .of_log rfl (hand_bounded _ _ _ _ e)

theorem handLogs_evolves (es : List LogEntry) (s : State) : Evolves [] s (handLogs es s) := by
  unfold handLogs
  induction es generalizing s with
  | nil => exact .refl s
  | cons e es ih => exact (handLog_evolves e s).trans (ih _)

theorem pumpLog_evolves (s : State) : Evolves [] s (pumpLog s) := .of_log rfl (pump_bounded _ _ _ _)

theorem raise_evolves (r : Raising) (s : State) : Evolves [] s (raise r s) := by
  have htake : Evolves [] s { s with faults := s.faults.take (s.sections.station.mask.getLsbD r.kind.code) s.time r } :=
    .of_faults fun h => take_agree h _ _ r
  unfold raise
  dsimp only
  split
  · have hlogged := htake.trans (handLog_evolves (faultEntry s r s.faults.first.isNone) _)
    split
    · exact hlogged.trans (.of_log rfl id)
    · exact hlogged
  · exact htake

theorem writeError_evolves (u : UnitId) (s : State) : Evolves [] s (writeError u s) := raise_evolves _ s

theorem giveUp_evolves (u : BusUser) (b : Bool) (s : State) : Evolves [] s (giveUp u b s) := by
  unfold giveUp
  split
  · exact .of_reads rfl
  · exact .refl s

theorem onRead_evolves (u : BusUser) {s : State} {f : State → State} (h : Evolves [] s (f s)) :
    Evolves [] s (onRead u s f) := by
  unfold onRead
  split
  · exact .of_reads rfl
  · exact h

theorem onWrite_evolves (u : BusUser) (by' : UnitId) (ok : Bool) {s : State} {f : State → State}
    (h : Evolves [] s (f s)) : Evolves [] s (onWrite u by' ok s f) := by
  unfold onWrite
  split
  · dsimp only
    exact .ite (.of_reads rfl) ((writeError_evolves by' _).after (.of_reads rfl))
  · exact h

theorem logWriteDone_evolves (ok : Bool) (s : State) : Evolves [] s (logWriteDone ok s) := by
  unfold logWriteDone
  split
  · exact .refl s
  · rename_i w _
    split
    · exact (pumpLog_evolves _).after ((writeError_evolves .faultUnit _).after
        (.of_log rfl (writeFailed_bounded · w.gap)))
    · split
      · exact .of_reads rfl
      · exact (pumpLog_evolves _).after (.of_log rfl (writeGood_bounded · w.gap))

theorem noticeWriteDone_evolves (ok : Bool) (s : State) : Evolves [] s (noticeWriteDone ok s) := by
  unfold noticeWriteDone
  split
  · exact .refl s
  · split
    · exact .of_reads rfl
    · exact (writeError_evolves .faultUnit _).after (.of_reads rfl)

theorem faultAck_evolves (kinds : Word) (s : State) : Evolves [] s (faultAck kinds s).2 := by
  unfold faultAck
  split
  · exact .refl s
  · exact .of_faults fun h => ack_agree h _

/-! ## Clock -/

theorem logClock_evolves (c : ClockCause) (old s : State) : Evolves [] s (logClock c old s) := by
  unfold logClock
  exact .ite (.refl s) (handLog_evolves _ s)

theorem loseClock_evolves (x : ClockSource) (s : State) : Evolves [] s (loseClock x s) :=
  (raise_evolves _ _).after (.of_reads rfl)

theorem goodMark_evolves (s : State) : Evolves [] s (goodMark s) := by
  rw [goodMark_only]
  exact .of_reads rfl

theorem badMark_evolves (s : State) : Evolves [] s (badMark s) := by
  unfold badMark
  split
  · exact .refl s
  · exact .ite (.refl s) (.of_reads rfl)
  · exact .ite (.refl s) (.ite ((loseClock_evolves _ _).after (.of_reads rfl)) (.of_reads rfl))

theorem setMark_evolves (pos : Nat) (count : Word) (s : State) : Evolves [] s (setMark pos count s) := .of_reads rfl

theorem houseMark_evolves (arrival : Nat) (s : State) : Evolves [] s (houseMark arrival s) := by
  unfold houseMark
  split
  · exact setMark_evolves _ _ s
  · exact (Evolves.ite (goodMark_evolves s) (badMark_evolves s)).trans (setMark_evolves _ _ _)

theorem linkMark_evolves (count : Word) (arrival : Nat) (s : State) : Evolves [] s (linkMark count arrival s) := by
  unfold linkMark
  split
  · exact .refl s
  · split
    · exact setMark_evolves _ _ s
    · exact .ite (.refl s) ((Evolves.ite (goodMark_evolves s) (badMark_evolves s)).trans (setMark_evolves _ _ _))

theorem selectState_evolves (st : ClockState) (s : State) : Evolves [] s (selectState st s) := by
  unfold selectState
  exact .ite (.of_reads rfl) ((logClock_evolves _ _ _).after (.of_reads rfl))

theorem selectInternal_evolves (s : State) : Evolves [] s (selectInternal s) := by
  unfold selectInternal
  split
  · exact .refl s
  all_goals exact selectState_evolves _ s

theorem selectSource_evolves (x : ClockSource) (s : State) : Evolves [] s (selectSource x s).2 := by
  unfold selectSource
  split_ifs
  · exact .of_reads rfl
  · exact .refl s
  · exact .refl s
  · exact selectState_evolves _ s

theorem clockSelect_evolves (w : Word) (s : State) : Evolves [] s (clockSelect w s).2 := by
  unfold clockSelect
  split_ifs
  · exact selectInternal_evolves s
  · exact selectSource_evolves _ s
  · exact selectSource_evolves _ s
  · exact .refl s

theorem clockPortChanged_evolves (s : State) : Evolves [] s (clockPortChanged s) := by
  unfold clockPortChanged
  split
  · exact .ite (.of_reads rfl) ((loseClock_evolves _ _).after (.of_reads rfl))
  all_goals exact .of_reads rfl

theorem setTime_evolves (low high : Word) (s : State) : Evolves [] s (setTime low high s).2 := by
  unfold setTime
  split
  · exact .refl s
  · exact .of_reads rfl

/-- A SET_TIME moves the timers of the entries and leaves their states and slots (R28). -/
theorem shift_state_slot (dt : Time) (e : AlertEntry) : (e.shift dt).state = e.state ∧ (e.shift dt).slot = e.slot := by
  unfold AlertEntry.shift
  split <;> exact ⟨rfl, rfl⟩

theorem restamp_count (new : Time) (g : GpiLine) : (g.restamp new).count = g.count := by
  unfold GpiLine.restamp
  split <;> rfl

/-- The table fits on as long as states, slots, queue and airing stay. -/
theorem TableFits.of_entries {s t : State} (h : TableFits s)
    (he : ∀ n, (t.entry n).state = (s.entry n).state ∧ (t.entry n).slot = (s.entry n).slot)
    (hq : t.alerts.queue = s.alerts.queue) (hs : t.airing.state = s.airing.state)
    (hn : t.airing.entry = s.airing.entry) : TableFits t := by
  constructor
  · intro n; rw [(he n).1, hs, hn]; exact h.oneAiring n
  · rw [hs, hn]; exact h.noEntry
  · rw [hs, hn]; exact h.someEntry
  · rw [hq]; exact h.queueOnce
  · intro n; rw [hq, (he n).1]; exact h.queueHolds n
  · intro m n; rw [(he m).2, (he n).2]; exact h.slots m n

/-- Replacing entries with their states and slots kept. -/
theorem Evolves.of_entries {s t : State} (h : t.reads = { s.reads with table := t.reads.table })
    (he : ∀ n, (t.entry n).state = (s.entry n).state ∧ (t.entry n).slot = (s.entry n).slot)
    (hq : t.alerts.queue = s.alerts.queue) (hs : t.airing.state = s.airing.state)
    (hn : t.airing.entry = s.airing.entry) : Evolves [] s t :=
  .of_table h (by rw [hs]) fun k => k.of_entries he hq hs hn

theorem applyTime_evolves (new : Time) (s : State) : Evolves [] s (applyTime new s) := by
  let t1 : State := { s with alerts := { s.alerts with entry := s.alerts.entry.map (AlertEntry.shift (new - s.time)) } }
  have halerts : Evolves [] s t1 :=
    .of_entries rfl (fun n => by simpa [t1, State.entry] using shift_state_slot _ (s.alerts.entry.get n)) rfl rfl rfl
  have hlink : Evolves [] t1 { t1 with link := { s.link with
      hold := s.link.hold.map (· + (new - s.time)), slip := s.link.slip.map (· + (new - s.time)), base := new } } :=
    .of_link id
  have hgpi := (halerts.trans hlink).trans (Evolves.of_gpi (g := s.gpi.map (GpiLine.restamp new)) fun h n => by
    simpa [restamp_count] using h n)
  exact (handLog_evolves (timeSetEntry s.time new) _).after (hgpi.trans (.of_reads rfl))

/-! ## Link -/

theorem setPort_evolves {s : State} (p : PortId) {x : Port} (h : x.sent ≤ 3 ∨ x.sent = (s.link.port.get p).sent) :
    Evolves [] s (s.setPort p x) :=
  .of_link fun k => Link.bounded_setPort k p (h.elim id fun hx => hx ▸ k.2 p)

theorem noteDown_evolves (p : PortId) (s : State) : Evolves [] s (noteDown p s) := by
  unfold noteDown
  exact .ite ((raise_evolves _ _).after (.of_link id)) (.refl s)

theorem portFalls_evolves (p : PortId) (c : LinkCause) (s : State) : Evolves [] s (portFalls p c s) := by
  unfold portFalls
  dsimp only
  refine (noteDown_evolves p _).after ((handLog_evolves _ _).after ?_)
  have hport : Evolves [] s (s.setPort p { s.link.port.get p with state := .down, training := 0 }) :=
    setPort_evolves p (.inr rfl)
  exact .ite (hport.trans (.of_link id)) hport

theorem workOutHold_evolves (s : State) : Evolves [] s (workOutHold s) := .of_link id

/-- A frame is sent only with fewer than three sent in the block, or as the only one (R166, R167). -/
theorem sent_lt_of_maySend {s : State} {boundary : Bool} (h : s.maySend boundary = true) :
    s.link.activePort.sent < 3 := by
  unfold State.maySend at h
  simp only [Bool.and_eq_true] at h
  obtain ⟨-, h⟩ := h
  split at h
  · simp only [Bool.and_eq_true, decide_eq_true_eq] at h; exact h.1
  · simp only [Bool.and_eq_true, beq_iff_eq] at h; omega

theorem considerSend_evolves (boundary : Bool) (s : State) : Evolves [] s (considerSend boundary s) := by
  unfold considerSend
  split
  · exact .refl s
  · rename_i b rest hqueue
    split
    · rename_i hmay
      refine .of_link fun k => ?_
      have hrest : ({ s.link with queue := rest, nextSeq := s.link.nextSeq + 1 } : Link).bounded :=
        ⟨by have := k.1; rw [hqueue] at this; exact (Nat.le_succ _).trans this, k.2⟩
      exact Link.bounded_setPort hrest s.link.active (sent_lt_of_maySend hmay)
    · exact .refl s

theorem discardOldest_evolves (s : State) : Evolves [] s (discardOldest s) := by
  have hdrop : Evolves [] s { s with link := { s.link with
      queue := s.link.queue.drop 1, discards := satInc Config.max32 s.link.discards } } :=
    .of_link fun k => ⟨by have := k.1; simp only [List.length_drop]; omega, k.2⟩
  unfold discardOldest
  exact .ite (hdrop.trans ((raise_evolves _ _).after (.of_link id))) hdrop

theorem badReturn_evolves (p : PortId) (s : State) : Evolves [] s (badReturn p s) := setPort_evolves p (.inr rfl)

theorem good_sent (bs : List Byte) (x : Port) : (x.good bs).sent = x.sent := by
  unfold Port.good
  dsimp only
  split
  · rfl
  · split <;> rfl
  · rfl

theorem portGood_evolves (p : PortId) (bs : List Byte) (s : State) : Evolves [] s (portGood p bs s) := by
  have hport : Evolves [] s (s.setPort p ((s.link.port.get p).good bs)) := setPort_evolves p (.inr (good_sent _ _))
  unfold portGood
  extract_lets x y s1 l s2
  have hs2 : Evolves [] s s2 := hport.trans (.ite (.of_link id) (.refl _))
  exact .ite hs2 (hs2.trans (handLog_evolves _ _))

theorem noteTelemetry_evolves (p : PortId) (bs : List Byte) (s : State) : Evolves [] s (noteTelemetry p bs s) := by
  unfold noteTelemetry
  exact .ite ((raise_evolves _ _).after (.of_link id)) (.of_link id)

theorem noteLatency_evolves (bs : List Byte) (s : State) : Evolves [] s (noteLatency bs s) := by
  unfold noteLatency
  exact .ite (.of_link id) (.refl s)

theorem returnFrame_evolves (p : PortId) (bs : List Byte) (arrival : Nat) (s : State) :
    Evolves [] s (returnFrame p bs arrival s) := by
  have hport := (portGood_evolves p bs s).trans (noteTelemetry_evolves p bs _)
  have hsend := ((hport.trans (linkMark_evolves (returnMarks bs) arrival _)).trans (noteLatency_evolves bs _)).trans
    (considerSend_evolves false _)
  unfold returnFrame goodReturn
  exact .ite (badReturn_evolves p s) (.ite (.refl s) (.ite hsend hport))

theorem changePort_evolves (p : PortId) (c : LinkCause) (s : State) : Evolves [] s (changePort p c s) :=
  (handLog_evolves _ _).after (.of_link id)

/-- The active port changes, the clock is told, and the revert hold is worked out again (R24, R172, R175). -/
theorem portChange_evolves (p : PortId) (c : LinkCause) (s : State) :
    Evolves [] s (workOutHold (clockPortChanged (changePort p c s))) :=
  ((changePort_evolves p c s).trans (clockPortChanged_evolves _)).trans (workOutHold_evolves _)

theorem linkSwitch_evolves (w : Word) (s : State) : Evolves [] s (linkSwitch w s).2 := by
  unfold linkSwitch
  dsimp only
  split
  · exact .refl s
  · split_ifs
    · exact .of_link id
    · exact .refl s
    · exact .of_link id

end Sys2Proof.Machine


/-! # Air switch, monitor and alert table: what their operations keep -/

namespace Sys2Proof.Machine

open Sys2Proof

/-! ## Arbitration (R95) -/

theorem topSource_eq_alert (s : State) : s.topSource = .alert ↔ s.airing.state.present = true := by
  unfold State.topSource
  cases s.airing.state.present
  · cases s.monitor.rescue <;> cases s.onProgramme <;> simp
  · simp

/-- Arbitration gives the air to an alert that is present, and to no other. -/
theorem alertsFit_arbitrate {s : State} (h : TableFits s) : AlertsFit (arbitrate s) :=
  (alertsFit_iff _).2 ⟨h.of_reads rfl, topSource_eq_alert s⟩

namespace Evolves

variable {F : List Aspect} {s t : State}

/-- After what may have brought or ended an airing, arbitration sets the switch right. -/
theorem arbitrated (h : Evolves [.alerts] s t) : Evolves [] s (arbitrate t) := by
  have harb : ∀ a : Aspect, a ≠ .alerts → a.keeps t (arbitrate t) := by
    rintro (_ | _ | _ | _ | _ | _ | _) ha
    case survey => rfl
    case alerts => exact absurd rfl ha
    all_goals exact fun k => by apply k.of_reads <;> rfl
  refine ⟨fun a _ => ?_⟩
  by_cases ha : a = .alerts
  · subst ha
    intro k
    exact alertsFit_arbitrate (h.keeps .table (by decide) ((alertsFit_iff s).1 k).1)
  · have h := h.keeps a (by simpa using ha)
    have k := harb a ha
    cases a
    case survey => exact k.trans h
    case alerts => exact absurd rfl ha
    all_goals exact k ∘ h

/-- The table is seen to apart from the rest. -/
theorem with_table (h : Evolves [.table, .alerts] s t) (ht : TableFits s → TableFits t) : Evolves [.alerts] s t := by
  refine ⟨fun a ha => ?_⟩
  by_cases hat : a = .table
  · subst hat
    exact ht
  · exact h.keeps a (by simp_all)

/-- Where the alert source and the switch stay as they were, a table that fits is enough. -/
theorem same_air (h : Evolves [.alerts] s t) (hn : t.air.now = s.air.now)
    (hp : t.airing.state.present = s.airing.state.present) : Evolves [] s t := by
  refine ⟨fun a _ => ?_⟩
  by_cases ha : a = .alerts
  · subst ha
    intro k
    obtain ⟨hf, hair⟩ := (alertsFit_iff s).1 k
    exact (alertsFit_iff t).2 ⟨h.keeps .table (by decide) hf, by rw [hn, hp]; exact hair⟩
  · exact h.keeps a (by simpa using ha)

end Evolves

theorem arbitrate_evolves (s : State) : Evolves [] s (arbitrate s) := ((Evolves.refl s).mono (by simp)).arbitrated

/-! ## The dead-air monitor (R99 to R105) -/

/-- The monitor changes within a part state that keeps it active. -/
theorem PartStateFits.of_monitor {s : State} {m : Monitor} (h : PartStateFits s)
    (hs : m.state = .inactive ↔ s.monitor.state = .inactive) (hr : m.rescue = true → s.onProgramme = true) :
    PartStateFits { s with monitor := m } :=
  ⟨h.phase, h.cameFrom, hs.trans h.monitor, hr, h.walks, h.decks, h.callers⟩

theorem Evolves.of_monitor {s : State} {m : Monitor} (hs : m.state = .inactive ↔ s.monitor.state = .inactive)
    (hr : m.rescue = true → s.monitor.rescue = true ∨ s.monitor.state ≠ .inactive) :
    Evolves [] s { s with monitor := m } :=
  .of_playout rfl fun h => h.of_monitor hs fun hm => (hr hm).elim h.rescue fun hne => by
    by_contra hp
    exact hne (h.monitor.2 (by simpa using hp))

theorem beginRescue_evolves {s : State} (h : s.monitor.state ≠ .inactive) : Evolves [] s (beginRescue s) :=
  (arbitrate_evolves _).after (.of_monitor Iff.rfl fun _ => .inr h)

theorem silenceTimeReached_evolves {s : State} (h : s.goesDead = true) :
    Evolves [] s (raise (Raising.plain .deadAir .airSwitch)
      { s with monitor := { s.monitor with state := .dead, recovery := 0, judged := none } }) := by
  refine (raise_evolves _ _).after (.of_monitor ?_ fun hr => .inl hr)
  have hw : s.monitor.state = .watching := by
    simp only [State.goesDead, Bool.and_eq_true, beq_iff_eq] at h
    exact h.1.1
  simp [hw]

theorem recovery_evolves {s : State} (h : s.monitor.state = .dead) :
    Evolves [] s { s with monitor := { s.monitor with
      state := .watching, silence := 0, recovery := 0, rescue := false, judged := none } } :=
  .of_monitor (by simp [h]) (by simp)

theorem monitorReset_evolves (s : State) : Evolves [] s (monitorReset s) := by
  have h : Evolves [] s { s with monitor := { s.monitor with
      state := if s.monitor.state = .dead then .watching else s.monitor.state
      silence := 0, recovery := 0, rescue := false, judged := none } } := by
    refine .of_monitor ?_ (by simp)
    cases s.monitor.state <;> simp
  exact h.trans (.of_reads rfl)

theorem judge_state (b : Option Bool) (m : Monitor) : (m.judge b).state = m.state ∧ (m.judge b).rescue = m.rescue := by
  unfold Monitor.judge
  split <;> exact ⟨by simp_all, rfl⟩

theorem readerBegins_reads (s : State) : (readerBegins s).reads = s.reads := by
  unfold readerBegins
  split
  · split <;> rfl
  · rfl

theorem readerBegins_evolves (s : State) : Evolves [] s (readerBegins s) := .of_reads (readerBegins_reads s)

/-! ## Decoders (R125 to R131) -/

theorem setDecoder_evolves (p : PortId) (d : Decoder) (s : State) : Evolves [] s (s.setDecoder p d) := .of_reads rfl

theorem badFrame_evolves (p : PortId) (reason : AlertReason) (held : List Byte) (s : State) :
    Evolves [] s (badFrame p reason held s) := (raise_evolves _ _).after (setDecoder_evolves p _ s)

theorem completeFrame_evolves (p : PortId) (bs : List Byte) (s : State) : Evolves [] s (completeFrame p bs s) := by
  unfold completeFrame
  split
  · exact badFrame_evolves ..
  · split
    · split
      · exact badFrame_evolves ..
      · exact setDecoder_evolves ..
    · exact setDecoder_evolves ..

theorem goodCharacter_evolves (p : PortId) (v : Byte) (arrival : Nat) (s : State) :
    Evolves [] s (goodCharacter p v arrival s) := by
  unfold goodCharacter extendFrame
  dsimp only
  split_ifs
  · exact (badFrame_evolves ..).after (setDecoder_evolves ..)
  · exact (completeFrame_evolves ..).after (setDecoder_evolves ..)
  all_goals exact setDecoder_evolves ..

theorem marked_state (m : RecMark) (e : AlertEntry) : (e.marked m).state = e.state ∧ (e.marked m).slot = e.slot := by
  unfold AlertEntry.marked
  split <;> exact ⟨rfl, rfl⟩

theorem markBreak_evolves (p : PortId) (s : State) : Evolves [] s (markBreak p s) := by
  refine .of_entries rfl (fun n => ?_) rfl rfl rfl
  simp only [markBreak, State.entry, Eight.get_map]
  split
  · exact marked_state _ _
  · exact ⟨rfl, rfl⟩

theorem breakCharacter_evolves (p : PortId) (s : State) : Evolves [] s (breakCharacter p s) := by
  unfold breakCharacter
  extract_lets d s1 decoder s2
  have h1 : Evolves [] s s1 := .ite (badFrame_evolves ..) (.refl s)
  have h2 : Evolves [] s s2 := h1.trans (setDecoder_evolves ..)
  exact .ite h2 (h2.trans (markBreak_evolves p s2))

/-! ## One entry replaced -/

/-- Replacing an entry that is neither queued nor airing by another such keeps the table, if it takes no slot that another
entry holds. -/
theorem TableFits.setEntry {s : State} (h : TableFits s) (n : EntryNo) (e : AlertEntry)
    (ho : (s.entry n).state ≠ .airing ∧ (s.entry n).state ≠ .queued) (hn : e.state ≠ .airing ∧ e.state ≠ .queued)
    (hslot : e.slot ≠ none → ∀ m, m ≠ n → (s.entry m).slot ≠ e.slot) : TableFits (s.setEntry n e) := by
  constructor
  · intro m
    rw [setEntry_entry]
    split
    · rename_i hm
      subst hm
      exact iff_of_false hn.1 fun hc => ho.1 ((h.oneAiring m).2 hc)
    · exact h.oneAiring m
  · exact h.noEntry
  · exact h.someEntry
  · exact h.queueOnce
  · intro m
    rw [setEntry_entry]
    split
    · rename_i hm
      subst hm
      exact iff_of_false (fun hc => ho.2 ((h.queueHolds m).1 hc)) hn.2
    · exact h.queueHolds m
  · intro m k hmk heq
    rw [setEntry_entry] at heq ⊢
    rw [setEntry_entry] at heq
    split at heq
    · rename_i hm
      subst hm
      rw [if_pos rfl]
      rw [if_neg (Ne.symm hmk)] at heq
      by_contra hs
      exact hslot hs k (Ne.symm hmk) heq.symm
    · rename_i hm
      rw [if_neg hm]
      split at heq
      · rename_i hk
        subst hk
        by_contra hs
        exact hslot (heq ▸ hs) m hm heq
      · exact h.slots m k hmk heq

theorem Evolves.setEntry {s : State} (n : EntryNo) (e : AlertEntry)
    (ho : (s.entry n).state ≠ .airing ∧ (s.entry n).state ≠ .queued) (hn : e.state ≠ .airing ∧ e.state ≠ .queued)
    (hslot : e.slot ≠ none → ∀ m, m ≠ n → (s.entry m).slot ≠ e.slot) : Evolves [] s (s.setEntry n e) :=
  .of_table rfl rfl fun h => h.setEntry n e ho hn hslot

/-- Replacing an entry that keeps its state and its slot. -/
theorem Evolves.sameEntry {s : State} (n : EntryNo) (e : AlertEntry)
    (h : e.state = (s.entry n).state ∧ e.slot = (s.entry n).slot) : Evolves [] s (s.setEntry n e) := by
  refine .of_entries rfl (fun m => ?_) rfl rfl rfl
  rw [setEntry_entry]
  split
  · rename_i hm
    exact hm ▸ h
  · exact ⟨rfl, rfl⟩

/-- An entry that keeps its slot and moves between states that neither queue nor air it. -/
theorem Evolves.moveEntry {s : State} (n : EntryNo) (e : AlertEntry)
    (ho : (s.entry n).state ≠ .airing ∧ (s.entry n).state ≠ .queued) (hn : e.state ≠ .airing ∧ e.state ≠ .queued)
    (hslot : e.slot = (s.entry n).slot) : Evolves [] s (s.setEntry n e) :=
  .of_table rfl rfl fun h => h.setEntry n e ho hn fun hs m hm heq =>
    hs (by rw [hslot] at heq ⊢; exact h.slots n m (Ne.symm hm) heq.symm)

theorem logAlert_evolves (n : EntryNo) (old : EntryState) (c : AlertCause) (l : Nat) (s : State) :
    Evolves [] s (logAlert n old c l s) := handLog_evolves _ s

/-! ## The air queue (R151) -/

theorem placeQueued_perm (s : State) (q : Queued) (l : List Queued) : (s.placeQueued q l).Perm (q :: l) := by
  induction l with
  | nil => exact .refl _
  | cons x xs ih =>
    unfold State.placeQueued
    split
    · exact .refl _
    · exact (ih.cons x).trans (.swap q x xs)

/-- An entry joins the air queue with the state QUEUED. -/
theorem TableFits.queue {s t : State} (h : TableFits s) (n : EntryNo) (x : Queued) (hx : x.entry = n)
    (ho : (s.entry n).state ≠ .airing ∧ (s.entry n).state ≠ .queued)
    (hn : (t.entry n).state = .queued ∧ (t.entry n).slot = (s.entry n).slot)
    (he : ∀ m, m ≠ n → t.entry m = s.entry m) (hq : t.alerts.queue.Perm (x :: s.alerts.queue))
    (hair : t.airing = s.airing) : TableFits t := by
  have hmap : (t.alerts.queue.map Queued.entry).Perm (n :: s.alerts.queue.map Queued.entry) := by
    simpa [hx] using hq.map Queued.entry
  have hnot : n ∉ s.alerts.queue.map Queued.entry := fun hc => ho.2 ((h.queueHolds n).1 hc)
  have hslot : ∀ m, (t.entry m).slot = (s.entry m).slot := fun m => by
    by_cases hm : m = n
    · rw [hm, hn.2]
    · rw [he m hm]
  constructor
  · intro m
    rw [hair]
    by_cases hm : m = n
    · subst hm
      rw [hn.1]
      exact iff_of_false (by decide) fun hc => ho.1 ((h.oneAiring m).2 hc)
    · rw [he m hm]
      exact h.oneAiring m
  · rw [hair]; exact h.noEntry
  · rw [hair]; exact h.someEntry
  · exact hmap.nodup_iff.2 (List.nodup_cons.2 ⟨hnot, h.queueOnce⟩)
  · intro m
    rw [hmap.mem_iff, List.mem_cons]
    by_cases hm : m = n
    · subst hm
      exact iff_of_true (.inl rfl) hn.1
    · rw [he m hm]
      exact ⟨fun hc => (h.queueHolds m).1 (hc.resolve_left hm), fun hc => .inr ((h.queueHolds m).2 hc)⟩
  · intro m k
    rw [hslot, hslot]
    exact h.slots m k

theorem enterQueued_evolves (n : EntryNo) (c : AlertCause) {s : State} (h : (s.entry n).state = .pending) :
    Evolves [] s (enterQueued n c s) := by
  unfold enterQueued
  extract_lets e flags s1 alerts s2
  refine (logAlert_evolves n e.state c e.recLen s2).after (.of_table rfl rfl fun k => ?_)
  refine k.queue n ⟨n, s.time⟩ rfl (by simp [h]) ?_ (fun m hm => ?_) (placeQueued_perm s1 _ _) rfl
  · have : s2.entry n = s1.entry n := rfl
    rw [this, setEntry_entry, if_pos rfl]
    exact ⟨rfl, rfl⟩
  · have : s2.entry m = s1.entry m := rfl
    rw [this, setEntry_entry, if_neg hm]

theorem settlePending_evolves (n : EntryNo) {s : State} (h : (s.entry n).state = .pending) :
    Evolves [] s (settlePending n s) := by
  unfold settlePending
  dsimp only
  split_ifs
  · exact enterQueued_evolves n _ h
  · exact .sameEntry n _ ⟨rfl, rfl⟩
  · exact .sameEntry n _ ⟨rfl, rfl⟩
  · exact .refl s

/-! ## A final state (R143) -/

/-- A final state is neither QUEUED nor AIRING. -/
theorem final_ne {st : EntryState} (h : st.final = true) : st ≠ .airing ∧ st ≠ .queued := by
  cases st <;> simp_all [EntryState.final]

theorem mem_queue_filter (l : List Queued) (m n : EntryNo) :
    m ∈ (l.filter (fun q => q.entry != n)).map Queued.entry ↔ m ∈ l.map Queued.entry ∧ m ≠ n := by
  simp only [List.mem_map, List.mem_filter, bne_iff_ne]
  constructor
  · rintro ⟨q, ⟨hq, hne⟩, rfl⟩
    exact ⟨⟨q, hq, rfl⟩, hne⟩
  · rintro ⟨⟨q, hq, rfl⟩, hne⟩
    exact ⟨q, ⟨hq, hne⟩, rfl⟩

theorem nodup_queue_filter {l : List Queued} (h : (l.map Queued.entry).Nodup) (n : EntryNo) :
    ((l.filter (fun q => q.entry != n)).map Queued.entry).Nodup := h.sublist ((List.filter_sublist).map _)

/-- An entry leaves the air queue with no record slot of its own; whether it was or becomes the AIRING one is left to the
airing. -/
theorem TableFits.leaveQueue {s t : State} (h : TableFits s) (n : EntryNo)
    (hn : (t.entry n).state ≠ .queued ∧ ((t.entry n).slot = none ∨ (t.entry n).slot = (s.entry n).slot))
    (he : ∀ m, m ≠ n → t.entry m = s.entry m)
    (hq : t.alerts.queue = s.alerts.queue.filter (fun q => q.entry != n))
    (hone : ∀ m, (t.entry m).state = .airing ↔ (t.airing.entry = some m ∧ t.airing.state.airs = true))
    (hno : t.airing.state.airs = false → t.airing.entry = none)
    (hsome : t.airing.state.airs = true → t.airing.entry ≠ none) : TableFits t := by
  refine ⟨hone, hno, hsome, ?_, ?_, ?_⟩
  · rw [hq]; exact nodup_queue_filter h.queueOnce n
  · intro m
    rw [hq, mem_queue_filter]
    by_cases hm : m = n
    · subst hm
      exact iff_of_false (fun hc => hc.2 rfl) hn.1
    · rw [he m hm, h.queueHolds m]
      exact and_iff_left hm
  · intro m k hmk heq
    by_cases hm : m = n
    · subst hm
      rcases hn.2 with hnone | hsame
      · exact hnone
      · rw [he k (Ne.symm hmk), hsame] at heq
        rw [hsame]
        exact h.slots m k hmk heq
    · rw [he m hm] at heq ⊢
      by_cases hk : k = n
      · subst hk
        rcases hn.2 with hnone | hsame
        · rw [heq, hnone]
        · rw [hsame] at heq
          exact h.slots m k hmk heq
      · rw [he k hk] at heq
        exact h.slots m k hmk heq

theorem finishEntry_entry (n m : EntryNo) (st : EntryState) (s : State) :
    (finishEntry n st s).entry m = if m = n then (s.entry n).finished st else s.entry m := by
  simp only [finishEntry, State.entry, Eight.get_set]

theorem finishEntry_fits {s : State} (h : TableFits s) (n : EntryNo) {st : EntryState} (hst : st.final = true)
    (hn : (s.entry n).state ≠ .airing) : TableFits (finishEntry n st s) := by
  refine h.leaveQueue n ?_ (fun m hm => ?_) rfl (fun m => ?_) h.noEntry h.someEntry
  · rw [finishEntry_entry, if_pos rfl]
    exact ⟨(final_ne hst).2, .inl rfl⟩
  · rw [finishEntry_entry, if_neg hm]
  · rw [finishEntry_entry]
    split
    · rename_i hm
      subst hm
      exact iff_of_false (final_ne hst).1 fun hc => hn ((h.oneAiring m).2 hc)
    · exact h.oneAiring m

theorem finishEntry_evolves {s : State} (n : EntryNo) {st : EntryState} (hst : st.final = true)
    (hn : (s.entry n).state ≠ .airing) : Evolves [] s (finishEntry n st s) :=
  .of_table rfl rfl fun h => finishEntry_fits h n hst hn

theorem expireEntry_evolves {s : State} (n : EntryNo) (hn : (s.entry n).state ≠ .airing) :
    Evolves [] s (expireEntry n s) := (logAlert_evolves n _ .expired _ _).after (finishEntry_evolves n rfl hn)

theorem expires_ne_airing {st : EntryState} (h : st.expires = true) : st ≠ .airing := by
  cases st <;> simp_all [EntryState.expires]

/-! ## Headers and end frames (R132 to R139) -/

theorem hear_state (p : PortId) (e : AlertEntry) : (e.hear p).state = e.state ∧ (e.hear p).slot = e.slot := by
  cases p <;> exact ⟨rfl, rfl⟩

theorem duplicateHeader_evolves (n : EntryNo) (p : PortId) (s : State) : Evolves [] s (duplicateHeader n p s) := by
  unfold duplicateHeader
  dsimp only
  have h : ∀ e : AlertEntry, e.state = (s.entry n).state → e.slot = (s.entry n).slot → Evolves [] s (s.setEntry n (e.hear p)) :=
    fun e hs hl => .sameEntry n _ ⟨(hear_state p e).1.trans hs, (hear_state p e).2.trans hl⟩
  exact .ite (h _ rfl rfl) ((handLog_evolves _ _).after (h _ rfl rfl))

theorem conflictHeader_evolves (n : EntryNo) (p : PortId) (bs : List Byte) (s : State) :
    Evolves [] s (conflictHeader n p bs s) := handLog_evolves _ s

theorem mem_toList (t : Eight AlertEntry) (n : EntryNo) : t.get n ∈ t.toList := by
  fin_cases n <;> simp [Eight.toList, Eight.get]

/-- The slot that an admission takes is held by no entry (R137, R143). -/
theorem freeSlot_free {s : State} {k : SlotId} (h : s.freeSlot = some k) (m : EntryNo) :
    (s.entry m).slot ≠ some k := by
  have hfree : s.slotFree k = true := by
    unfold State.freeSlot at h
    split at h
    · rename_i ha
      exact Option.some.inj h ▸ ha
    · split at h
      · rename_i hb
        exact Option.some.inj h ▸ hb
      · cases h
  simp only [State.slotFree, Bool.not_eq_true', List.any_eq_false, beq_iff_eq] at hfree
  exact hfree _ (mem_toList _ m)

theorem admittedEntry_state_ne (p : PortId) (f : HandedFrame) (r : Policy × Resolution) (slot : Option SlotId) :
    (admittedEntry p f r slot).state ≠ .airing ∧ (admittedEntry p f r slot).state ≠ .queued := by
  simp only [admittedEntry]
  constructor <;> split_ifs <;> decide

theorem admittedEntry_slot (p : PortId) (f : HandedFrame) (r : Policy × Resolution) (slot : Option SlotId) :
    (admittedEntry p f r slot).slot = none ∨ (admittedEntry p f r slot).slot = slot := by
  simp only [admittedEntry]
  split_ifs
  · exact .inr rfl
  · exact .inl rfl

theorem admitAlert_evolves (n : EntryNo) (p : PortId) (f : HandedFrame) (r : Policy × Resolution) {s : State}
    (h : (s.entry n).state = .free) : Evolves [] s (admitAlert n p f r s) := by
  unfold admitAlert
  extract_lets e s1 alerts s2 s3
  have h1 : Evolves [] s s1 := by
    refine .setEntry n e (by simp [h]) (admittedEntry_state_ne ..) fun hs m _ heq => ?_
    have hslot : e.slot = s.freeSlot := (admittedEntry_slot p f r s.freeSlot).resolve_left hs
    obtain ⟨k, hk⟩ := Option.ne_none_iff_exists'.1 hs
    exact freeSlot_free (hslot ▸ hk) m (heq.trans hk)
  have h2 : Evolves [] s s2 := .ite (h1.trans (.of_table rfl rfl fun k => k.of_reads rfl)) h1
  have h3 : Evolves [] s s3 := h2.trans (handLog_evolves _ _)
  have hentry : s3.entry n = e := by
    have hs2 : s2.entry n = s1.entry n := by simp only [s2]; split <;> rfl
    calc s3.entry n = s2.entry n := rfl
      _ = s1.entry n := hs2
      _ = e := by rw [setEntry_entry, if_pos rfl]
  split
  · rename_i hp
    exact h3.trans (settlePending_evolves n (by rw [hentry]; exact hp))
  · exact h3

theorem evict_evolves (n : EntryNo) {s : State} (h : (s.entry n).state.final = true) : Evolves [] s (evict n s) :=
  (handLog_evolves _ _).after (.setEntry n _ (final_ne h) (by decide) fun hs => absurd rfl hs)

theorem evict_entry (n : EntryNo) (s : State) : ((evict n s).entry n).state = .free := by
  unfold evict
  rw [handLog_entry, setEntry_entry, if_pos rfl]
  rfl

theorem refuseAlert_evolves (p : PortId) (f : HandedFrame) (r : Policy × Resolution) (s : State) :
    Evolves [] s (refuseAlert p f r s) := by
  unfold refuseAlert
  extract_lets i plain alerts s1
  have h1 : Evolves [] s s1 :=
    .ite (.refl s) ((raise_evolves _ _).after (.of_table rfl rfl fun k => k.of_reads rfl))
  exact h1.trans (handLog_evolves _ _)

theorem freeEntry_free {s : State} {n : EntryNo} (h : s.freeEntry = some n) : (s.entry n).state = .free := by
  simpa using List.find?_some h

/-- A search from the first place on finds one of the places. -/
theorem leastOf_mem (d : EntryNo → Int) (l : List EntryNo) (b : Option EntryNo) (n : EntryNo)
    (h : l.foldl (fun (best : Option EntryNo) x =>
      match best with
      | none => some x
      | some m => if d x < d m then some x else some m) b = some n) : n ∈ l ∨ b = some n := by
  induction l generalizing b with
  | nil => exact .inr h
  | cons a l ih =>
    rcases ih _ h with hl | hb
    · exact .inl (List.mem_cons_of_mem _ hl)
    · cases b with
      | none => exact .inl (by simp_all)
      | some m =>
        dsimp only at hb
        split at hb
        · exact .inl (by simp_all)
        · exact .inr hb

theorem evictable_final {s : State} {n : EntryNo} (h : s.evictable = some n) : (s.entry n).state.final = true := by
  rcases leastOf_mem (fun m => signedDistance s.time (s.entry m).expiry) _ none n h with hl | hb
  · exact (List.mem_filter.1 hl).2
  · cases hb

theorem newAlert_evolves (p : PortId) (f : HandedFrame) (s : State) : Evolves [] s (newAlert p f s) := by
  unfold newAlert
  dsimp only
  split
  · rename_i hn
    exact admitAlert_evolves _ p f _ (freeEntry_free hn)
  · split
    · rename_i n hn
      exact (evict_evolves n (evictable_final hn)).trans (admitAlert_evolves n p f _ (evict_entry n s))
    · exact refuseAlert_evolves p f _ s

theorem tableHeader_evolves (p : PortId) (f : HandedFrame) (s : State) : Evolves [] s (tableHeader p f s) := by
  unfold tableHeader
  split
  · exact newAlert_evolves p f s
  · exact .ite (conflictHeader_evolves ..) (duplicateHeader_evolves ..)

theorem tableEnd_evolves (p : PortId) (f : HandedFrame) (s : State) : Evolves [] s (tableEnd p f s) := by
  unfold tableEnd
  split
  · exact .refl s
  · exact .ite (.sameEntry _ _ (marked_state _ _)) (.refl s)

/-! ## The recorder (R138 to R140) -/

theorem recordBlock_evolves (n : EntryNo) (s : State) : Evolves [] s (recordBlock n s) := by
  unfold recordBlock
  dsimp only
  split
  · exact .refl s
  · split
    · refine Evolves.trans ?_ (.sameEntry n _ ⟨rfl, rfl⟩)
      exact .of_table rfl rfl fun k => k.of_reads rfl
    · exact .refl s

theorem endRecording_evolves (n : EntryNo) (tr : Bool) (c : AlertCause) {s : State}
    (h : (s.entry n).state = .recording) : Evolves [] s (endRecording n tr c s) := by
  unfold endRecording
  extract_lets e flags s1
  have h1 : Evolves [] s s1 := .moveEntry n _ (by simp [h]) (by simp) rfl
  have hp : (s1.entry n).state = .pending := by rw [setEntry_entry, if_pos rfl]
  exact (settlePending_evolves n (s := logAlert n .recording c e.recLen s1) hp).after ((logAlert_evolves ..).after h1)

end Sys2Proof.Machine


/-! # Callers: what their operations keep (R75, R84) -/

namespace Sys2Proof.Machine

open Sys2Proof

/-! ## A line's state -/

theorem Four.map_congr {α β : Type} {f : α → β} {x y : Four α} (h : ∀ n, f (x.get n) = f (y.get n)) :
    x.map f = y.map f := by
  have h0 := h 0
  have h1 := h 1
  have h2 := h 2
  have h3 := h 3
  simp only [Four.get] at h0 h1 h2 h3
  simp only [Four.map, h0, h1, h2, h3]

/-- Where no line's state, no queue and no order changes, everything is kept. -/
theorem Evolves.sameLines {s t : State} (h : t.reads = { s.reads with callers := t.reads.callers })
    (hl : ∀ n, (t.line n).state = (s.line n).state) (hq : t.callers.queue = s.callers.queue)
    (ha : t.callers.onAir = s.callers.onAir) : Evolves [] s t := by
  have hline : t.callers.line.map Line.state = s.callers.line.map Line.state := Four.map_congr hl
  have hc : t.reads.callers = s.reads.callers := by simp only [State.reads, hline, hq, ha]
  exact .of_reads (by rw [h, hc])

theorem setLine_line (s : State) (n m : LineNo) (l : Line) : (s.setLine n l).line m = if m = n then l else s.line m := by
  simp only [State.line, State.setLine, Four.get_set]

theorem Evolves.sameLine {s : State} (n : LineNo) (l : Line) (h : l.state = (s.line n).state) :
    Evolves [] s (s.setLine n l) := by
  refine .sameLines rfl (fun m => ?_) rfl rfl
  rw [setLine_line]
  split
  · rename_i hm
    rw [hm, h]
  · rfl

/-- One line changes its state, and its places in the queue and in the on-air order follow. -/
theorem CallersFit.move {s t : State} (h : CallersFit s) (n : LineNo) (st : LineState)
    (hline : ∀ m, (t.line m).state = if m = n then st else (s.line m).state)
    (hqueue : t.callers.queue.Nodup) (hq : ∀ m, m ≠ n → (m ∈ t.callers.queue ↔ m ∈ s.callers.queue))
    (hqn : n ∈ t.callers.queue ↔ st = .hold)
    (hair : t.callers.onAir.Nodup) (ha : ∀ m, m ≠ n → (m ∈ t.callers.onAir ↔ m ∈ s.callers.onAir))
    (han : n ∈ t.callers.onAir ↔ st = .onAir)
    (hlimit : t.callers.onAir.length ≤ t.sections.callers.limit) : CallersFit t := by
  refine ⟨hqueue, fun m => ?_, hair, fun m => ?_, hlimit⟩
  · rw [hline]
    split
    · rename_i hm
      rw [hm, hqn]
    · rename_i hm
      rw [hq m hm, h.queueHolds]
  · rw [hline]
    split
    · rename_i hm
      rw [hm, han]
    · rename_i hm
      rw [ha m hm, h.airHolds]

/-- A line that neither waits nor is on air moves to another such state. -/
theorem Evolves.moveLine {s : State} (n : LineNo) (l : Line)
    (ho : (s.line n).state ≠ .hold ∧ (s.line n).state ≠ .onAir) (hn : l.state ≠ .hold ∧ l.state ≠ .onAir) :
    Evolves [] s (s.setLine n l) := by
  refine .of_callers rfl .inl fun h => ?_
  refine h.move n l.state (fun m => ?_) h.queueOnce (fun _ _ => Iff.rfl) ?_ h.airOnce (fun _ _ => Iff.rfl) ?_ h.limit
  · rw [setLine_line]
    split <;> rfl
  · exact iff_of_false (fun hc => ho.1 ((h.queueHolds n).1 hc)) hn.1
  · exact iff_of_false (fun hc => ho.2 ((h.airHolds n).1 hc)) hn.2

theorem rampLine_reads (s : State) (n : LineNo) (g len : Nat) : (s.rampLine n g len).reads = s.reads := rfl

/-! ## Calls arriving and leaving (R76 to R78) -/

theorem toScreening_evolves (n : LineNo) {s : State} (h : (s.line n).state ≠ .hold ∧ (s.line n).state ≠ .onAir) :
    Evolves [] s (toScreening n s) := (handLog_evolves _ _).after (.moveLine n _ h ⟨by simp, by simp⟩)

theorem toService_evolves (n : LineNo) {s : State} (h : (s.line n).state ≠ .hold ∧ (s.line n).state ≠ .onAir) :
    Evolves [] s (toService n s) := (handLog_evolves _ _).after (.moveLine n _ h ⟨by simp, by simp⟩)

theorem mem_without (l : List LineNo) (m n : LineNo) : m ∈ l.filter (· != n) ↔ m ∈ l ∧ m ≠ n := by
  rw [List.mem_filter, bne_iff_ne]

/-- A line out of the queue and out of the on-air order, in a state that wants neither. -/
theorem leave_evolves (n : LineNo) (l : Line) (s : State) (hn : l.state ≠ .hold ∧ l.state ≠ .onAir) :
    Evolves [] s { s with callers := { s.callers.without n with line := s.callers.line.set n l } } := by
  refine .of_callers rfl (fun h => .inl fun hc => h (by simp [Callers.without, hc])) fun h => ?_
  refine h.move n l.state (fun m => ?_) (h.queueOnce.filter _) (fun m hm => ?_) ?_ (h.airOnce.filter _)
    (fun m hm => ?_) ?_ ((List.length_filter_le _ _).trans h.limit)
  · simp only [State.line, Four.get_set]
    split <;> rfl
  · exact (mem_without ..).trans (and_iff_left hm)
  · exact iff_of_false (fun hc => ((mem_without ..).1 hc).2 rfl) hn.1
  · exact (mem_without ..).trans (and_iff_left hm)
  · exact iff_of_false (fun hc => ((mem_without ..).1 hc).2 rfl) hn.2

theorem toClearing_evolves (n : LineNo) (c : CallerCause) (s : State) : Evolves [] s (toClearing n c s) := by
  unfold toClearing
  extract_lets l calls s1 s2
  have h1 : Evolves [] s s1 := leave_evolves n _ s ⟨by simp, by simp⟩
  have h2 : Evolves [] s s2 := .ite (h1.trans (.of_reads (rampLine_reads ..))) h1
  exact h2.trans (handLog_evolves _ _)

theorem presenceRise_evolves (n : LineNo) (s : State) : Evolves [] s (presenceRise n s) := by
  unfold presenceRise
  have h : Evolves [] s (s.setLine n { s.line n with presence := true }) := .sameLine n _ rfl
  dsimp only
  split
  · rename_i hidle
    refine h.trans (toScreening_evolves n ?_)
    rw [setLine_line, if_pos rfl]
    simp [hidle]
  · exact .sameLine n _ rfl
  all_goals exact h

theorem presenceFall_evolves (n : LineNo) (s : State) : Evolves [] s (presenceFall n s) := by
  have h : Evolves [] s (s.setLine n { s.line n with presence := false, remembered := false }) := .sameLine n _ rfl
  exact .ite (h.trans (toClearing_evolves ..)) h

theorem framingLost_evolves (n : LineNo) (s : State) : Evolves [] s (framingLost n s) := by
  unfold framingLost
  extract_lets r s1 l s2
  have h1 : Evolves [] s s1 := raise_evolves _ s
  have h2 : Evolves [] s s2 := h1.trans (.sameLine n _ rfl)
  exact .ite (h2.trans (toClearing_evolves ..)) h2

theorem framingRegained_evolves (n : LineNo) (s : State) : Evolves [] s (framingRegained n s) := by
  have h : Evolves [] s (s.setLine n { s.line n with framingGood := true }) := .sameLine n _ rfl
  unfold framingRegained
  dsimp only
  split
  · rename_i hout
    refine h.trans (toService_evolves n ?_)
    rw [setLine_line, if_pos rfl]
    simp [hout]
  · exact h

theorem clearingEnd_evolves (n : LineNo) {s : State} (h : (s.line n).state = .clearing) :
    Evolves [] s (clearingEnd n s) := by
  unfold clearingEnd
  extract_lets l next s1 s2
  have hnext : next ≠ .hold ∧ next ≠ .onAir := by
    simp only [next]
    split <;> decide
  have h2 : Evolves [] s s2 := (handLog_evolves _ _).after (.moveLine n _ (by simp [h]) hnext)
  have hline : (s2.line n).state = next := by rw [handLog_line, setLine_line, if_pos rfl]
  have hs2 : (s2.line n).state ≠ .hold ∧ (s2.line n).state ≠ .onAir := by rw [hline]; exact hnext
  split_ifs
  · exact h2.trans (toService_evolves n hs2)
  · exact h2
  · exact h2.trans (toScreening_evolves n hs2)
  · exact h2

/-! ## Hold and air (R79 to R87) -/

/-- Lines that are on air, each once, go to the head of the queue. -/
theorem CallersFit.held {s t : State} (h : CallersFit s) (ls : List LineNo) (hls : ls.Nodup)
    (hon : ∀ n ∈ ls, n ∈ s.callers.onAir)
    (hline : ∀ n, (t.line n).state = if n ∈ ls then .hold else (s.line n).state)
    (hq : t.callers.queue = ls ++ s.callers.queue)
    (ha : t.callers.onAir = s.callers.onAir.filter (fun n => !ls.contains n))
    (hlimit : t.callers.onAir.length ≤ t.sections.callers.limit) : CallersFit t := by
  have hmem : ∀ n, n ∈ t.callers.onAir ↔ n ∈ s.callers.onAir ∧ n ∉ ls := fun n => by
    rw [ha, List.mem_filter]
    simp
  refine ⟨?_, fun n => ?_, by rw [ha]; exact h.airOnce.filter _, fun n => ?_, hlimit⟩
  · rw [hq, List.nodup_append]
    refine ⟨hls, h.queueOnce, fun a ha b hb hab => ?_⟩
    subst hab
    have h1 := (h.airHolds a).1 (hon a ha)
    rw [(h.queueHolds a).1 hb] at h1
    cases h1
  · rw [hq, List.mem_append, hline, h.queueHolds]
    split <;> simp_all
  · rw [hmem, hline, h.airHolds]
    split <;> simp_all

theorem holdGroup_line (boundary flag : Bool) (c : CallerCause) (ls : List LineNo) (s : State) (n : LineNo) :
    ((holdGroup boundary flag c ls s).line n).state = if n ∈ ls then .hold else (s.line n).state := by
  unfold holdGroup
  rw [handLogs_only]
  simp only [State.line, Callers.held, Four.get_ofFn, List.contains_iff_mem]
  split <;> rfl

/-- Lines on air are held. -/
theorem holdGroup_evolves (boundary flag : Bool) (c : CallerCause) (ls : List LineNo) (s : State)
    (hls : CallersFit s → ls.Nodup ∧ ∀ n ∈ ls, n ∈ s.callers.onAir) :
    Evolves [] s (holdGroup boundary flag c ls s) := by
  unfold holdGroup
  refine (handLogs_evolves _ _).after (.of_callers rfl (fun h => .inl fun hc => h (by simp [Callers.held, hc])) ?_)
  intro h
  obtain ⟨hnodup, hon⟩ := hls h
  refine h.held ls hnodup hon (fun n => ?_) rfl rfl ((List.length_filter_le _ _).trans h.limit)
  simp only [State.line, Callers.held, Four.get_ofFn, List.contains_iff_mem]
  split <;> rfl

theorem holdAll_evolves (c : CallerCause) (s : State) : Evolves [] s (holdAll c s) :=
  holdGroup_evolves _ _ c _ s fun h => ⟨h.airOnce, fun _ hn => hn⟩

theorem holdForAiring_evolves (s : State) : Evolves [] s (holdForAiring s) :=
  holdGroup_evolves _ _ _ _ s fun h => ⟨h.airOnce.filter _, fun _ hn => (List.mem_filter.1 hn).1⟩

theorem nodup_concat {l : List LineNo} {n : LineNo} (h : l.Nodup) (hn : n ∉ l) : (l ++ [n]).Nodup :=
  List.nodup_append.2 ⟨h, List.nodup_singleton n, fun a ha b hb hab =>
    hn (by rwa [← List.mem_singleton.1 hb, ← hab])⟩

theorem mem_concat_ne {l : List LineNo} {m n : LineNo} (h : m ≠ n) : m ∈ l ++ [n] ↔ m ∈ l := by simp [h]

theorem callerHold_evolves (w : Word) (s : State) : Evolves [] s (callerHold w s).2 := by
  unfold callerHold
  split
  · exact .refl s
  · rename_i n _
    dsimp only
    split
    · rename_i hscreen
      refine (handLog_evolves _ _).after (.of_callers rfl .inl fun h => ?_)
      have hnot : n ∉ s.callers.queue := fun hc => by
        have := (h.queueHolds n).1 hc
        rw [hscreen] at this
        cases this
      refine h.move n .hold (fun m => ?_) ?_ (fun m hm => ?_) ?_ h.airOnce (fun _ _ => Iff.rfl) ?_ h.limit
      · show ((s.setLine n _).line m).state = _
        rw [setLine_line]
        split <;> rfl
      · exact nodup_concat h.queueOnce hnot
      · exact mem_concat_ne hm
      · simp
      · exact iff_of_false (fun hc => by
          have := (h.airHolds n).1 hc
          rw [hscreen] at this
          cases this) (by decide)
    · rename_i hair
      exact holdGroup_evolves _ _ _ _ s fun h => ⟨List.nodup_singleton n, fun m hm => by
        rw [List.mem_singleton.1 hm]
        exact (h.airHolds n).2 hair⟩
    · rename_i hhold
      exact .sameLine n _ rfl
    all_goals exact .refl s

/-- A line that waits goes on air, within the limit and with the programme on. -/
theorem toAir_evolves (n : LineNo) (c : CallerCause) {s : State} (hprog : s.onProgramme = true)
    (hlimit : s.atLimit = false) (hstate : CallersFit s → (s.line n).state ≠ .onAir) : Evolves [] s (toAir n c s) := by
  unfold toAir
  extract_lets l calls s1 s2
  have hroom : s.callers.onAir.length < s.sections.callers.limit := by simpa [State.atLimit] using hlimit
  have h1 : Evolves [] s s1 := by
    refine .of_callers rfl (fun _ => .inr hprog) fun h => ?_
    have hnot : n ∉ s.callers.onAir := fun hc => hstate h ((h.airHolds n).1 hc)
    have hsame : s.callers.onAir.filter (· != n) = s.callers.onAir :=
      List.filter_eq_self.2 fun m hm => by simpa using ne_of_mem_of_not_mem hm hnot
    have hair : s1.callers.onAir = s.callers.onAir ++ [n] := by
      show s.callers.onAir.filter (· != n) ++ [n] = _
      rw [hsame]
    refine h.move n .onAir (fun m => ?_) (h.queueOnce.filter _) (fun m hm => ?_) ?_ ?_ (fun m hm => ?_) ?_ ?_
    · simp only [s1, State.line, Four.get_set]
      split <;> rfl
    · exact (mem_without ..).trans (and_iff_left hm)
    · exact iff_of_false (fun hc => ((mem_without ..).1 hc).2 rfl) (by decide)
    · rw [hair]
      exact nodup_concat h.airOnce hnot
    · rw [hair]
      exact mem_concat_ne hm
    · rw [hair]
      simp
    · rw [hair]
      simpa using hroom
  exact (handLog_evolves _ s2).after (h1.trans (.of_reads (rampLine_reads ..)))

theorem callerOnAir_evolves (w : Word) (s : State) : Evolves [] s (callerOnAir w s).2 := by
  unfold callerOnAir
  split
  · exact .refl s
  · rename_i n _
    dsimp only
    split_ifs with hstate hguard hlimit
    · exact .refl s
    · exact .refl s
    · exact .refl s
    · simp only [Bool.or_eq_true, Bool.not_eq_true', not_or, Bool.not_eq_false] at hstate
      refine toAir_evolves n _ hstate.2 (by simpa using hlimit) fun _ hc => ?_
      simp [hc] at hstate

theorem callerTake_evolves (c : CallerCause) (s : State) : Evolves [] s (callerTake c s).2 := by
  unfold callerTake
  split_ifs with hprog hguard hlimit
  · exact .refl s
  · exact .refl s
  · exact .refl s
  · split
    · exact .refl s
    · rename_i n rest hqueue
      refine toAir_evolves n c (by simpa using hprog) (by simpa using hlimit) fun h hc => ?_
      have := (h.queueHolds n).1 (by rw [hqueue]; exact List.mem_cons_self)
      rw [hc] at this
      cases this

theorem callerDrop_evolves (w : Word) (s : State) : Evolves [] s (callerDrop w s).2 := by
  unfold callerDrop
  split
  · exact .refl s
  · split
    · exact toClearing_evolves ..
    · exact .refl s

theorem clearAll_evolves (c : CallerCause) (ls : List LineNo) (s : State) :
    Evolves [] s (ls.foldl (fun s n => toClearing n c s) s) := by
  induction ls generalizing s with
  | nil => exact .refl s
  | cons n ls ih => exact (toClearing_evolves n c s).trans (ih _)

theorem dropCallers_evolves (s : State) : Evolves [] s (dropCallers s).2 := by
  unfold dropCallers
  split
  · exact .refl s
  · exact clearAll_evolves ..

/-- A line put in at a place of the queue it has left is there once. -/
theorem insertPlace_perm (n : LineNo) (p : Nat) (q : List LineNo) : (insertPlace n p q).Perm (n :: q) := by
  unfold insertPlace
  refine List.perm_middle.trans ?_
  rw [List.take_append_drop]

theorem callerQueue_evolves (w p : Word) (s : State) : Evolves [] s (callerQueue w p s).2 := by
  unfold callerQueue
  split
  · exact .refl s
  · rename_i n _
    split_ifs with hplace hstate
    · exact .refl s
    · exact .refl s
    · refine .of_callers rfl .inl fun h => ?_
      have hperm := insertPlace_perm n p.toNat (s.callers.queue.filter (· != n))
      have hhold : (s.line n).state = .hold := by simpa using hstate
      refine h.move n .hold (fun m => ?_) ?_ (fun m hm => ?_) ?_ h.airOnce (fun _ _ => Iff.rfl) ?_ h.limit
      · split
        · rename_i hm
          rw [hm]
          exact hhold
        · rfl
      · exact hperm.nodup_iff.2 (List.nodup_cons.2 ⟨fun hc => ((mem_without ..).1 hc).2 rfl, h.queueOnce.filter _⟩)
      · rw [hperm.mem_iff, List.mem_cons, mem_without]
        simp [hm]
      · rw [hperm.mem_iff]
        simp
      · rw [h.airHolds n, hhold]

/-! ## Section 5 and the block (R74, R77, R84) -/

/-- What is left of the on-air order once the lines past the limit are held. -/
theorem filter_surplus {l : List LineNo} (h : l.Nodup) (limit : Nat) :
    l.filter (fun n => !(surplus limit l).contains n) = l.take limit := by
  unfold surplus
  rw [← List.take_append_drop limit l] at h
  obtain ⟨-, -, hdisjoint⟩ := List.nodup_append.1 h
  nth_rw 2 [← List.take_append_drop limit l]
  rw [List.filter_append, List.filter_eq_self.2, List.filter_eq_nil_iff.2, List.append_nil]
  · intro n hn
    simpa using hn
  · intro n hn
    simpa using fun hc => hdisjoint n hn n hc rfl

/-- The lines past the limit are held, so those that stay are within it. -/
theorem filter_surplus_length {l : List LineNo} (h : l.Nodup) (limit : Nat) :
    (l.filter (fun n => !(surplus limit l).contains n)).length ≤ limit := by
  rw [filter_surplus h, List.length_take]
  exact Nat.min_le_left _ _

theorem useCallers_evolves (x : CallerSettings) (s : State) : Evolves [] s (useCallers x s) := by
  unfold useCallers applyCallers holdGroup
  refine (handLogs_evolves _ _).after (.of_callers rfl (fun h => .inl fun hc => h (by simp [Callers.held, hc])) ?_)
  intro h
  refine h.held (surplus x.limit s.callers.onAir) (h.airOnce.sublist (List.drop_sublist ..))
    (fun n hn => List.mem_of_mem_drop hn) (fun n => ?_) rfl rfl (filter_surplus_length h.airOnce _)
  simp only [State.line, Callers.held, Four.get_ofFn, List.contains_iff_mem]
  split <;> rfl

theorem callers_blockBegins_evolves (g : Nat) (s : State) :
    Evolves [] s { s with callers := s.callers.blockBegins g } :=
  .sameLines rfl (fun n => by simp [State.line, Callers.blockBegins]) rfl rfl

end Sys2Proof.Machine


/-! # Decks: what their operations keep (R54 to R69) -/

namespace Sys2Proof.Machine

open Sys2Proof

/-! ## A deck replaced -/

/-- Where only the decks differ, a deck that holds a record needs one that held a record before, or the programme. -/
theorem Evolves.of_decks {s t : State} (h : t.reads = { s.reads with decks := t.reads.decks })
    (hd : ∀ d, (t.deck d).state ≠ .empty → (∃ x, (s.deck x).state ≠ .empty) ∨ s.onProgramme = true) :
    Evolves [] s t := by
  refine .of_playout (by rw [h]) fun k => ?_
  have hprog : t.onProgramme = s.onProgramme := onProgramme_congr (congrArg (fun r => r.survey.1) h :)
  have hv : PartStateFits { t with decks := s.decks } := by
    apply k.of_reads
    exacts [(congrArg Reads.survey h :), (congrArg Reads.monitor h :), (congrArg Reads.walking h :), rfl,
      (congrArg Reads.callers h :)]
  exact ⟨hv.phase, hv.cameFrom, hv.monitor, hv.rescue, hv.walks,
    fun d hne => hprog ▸ (hd d hne).elim (fun ⟨x, hx⟩ => k.decks x hx) id, hv.callers⟩

theorem setDeck_deck_cases (s : State) (d x : DeckId) (k : Deck) :
    (s.setDeck d k).deck x = k ∨ (s.setDeck d k).deck x = s.deck x := by
  rcases Side.eq_or_other d x with rfl | rfl
  · exact .inl (State.deck_setDeck_self ..)
  · exact .inr (State.deck_setDeck_other ..)

/-- A deck replaced by one that is EMPTY, or that held a record before. -/
theorem setDeck_evolves (d : DeckId) {k : Deck} {s : State} (h : k.state ≠ .empty → (s.deck d).state ≠ .empty) :
    Evolves [] s (s.setDeck d k) := by
  refine .of_decks rfl fun x hx => .inl ?_
  rcases setDeck_deck_cases s d x k with he | he
  · exact ⟨d, h (he ▸ hx)⟩
  · exact ⟨x, he ▸ hx⟩

theorem mapDeckRamp_evolves (d : DeckId) (f : Ramp → Ramp) (s : State) : Evolves [] s (s.mapDeckRamp d f) :=
  .of_reads rfl

theorem noteDemand_evolves (s : State) : Evolves [] s (noteDemand s) := .ite (.refl s) (.of_reads rfl)

theorem refreshStudio_evolves (b : Bool) (s : State) : Evolves [] s (refreshStudio b s) :=
  .ite (.refl s) (.of_reads rfl)

/-! ## Record writes (R39) -/

theorem recordWriteDone_evolves (d : DeckId) (ok : Bool) (s : State) : Evolves [] s (recordWriteDone d ok s) := by
  unfold recordWriteDone
  dsimp only
  split_ifs
  · exact .refl s
  · exact (noteDemand_evolves _).after (setDeck_evolves d id)
  · refine (noteDemand_evolves _).after (Evolves.after (setDeck_evolves d ?_) (writeError_evolves _ s))
    simp [State.deck]

/-! ## Ends and cuts (R60 to R66) -/

theorem clearDeck_evolves (b : Bool) (d : DeckId) (ws : List RecordWrite) (s : State) :
    Evolves [] s (clearDeck b d ws s) := by
  unfold clearDeck
  extract_lets s1
  have h1 : Evolves [] s s1 := (mapDeckRamp_evolves ..).after (setDeck_evolves d fun h => absurd rfl h)
  exact (refreshStudio_evolves ..).after (h1.trans (.of_reads rfl))

theorem endDeck_evolves (b : Bool) (d : DeckId) (st : RecState) (r : EndReason) (tr : Bool) (s : State) :
    Evolves [] s (endDeck b d st r tr s) :=
  (noteDemand_evolves _).after ((handLog_evolves ..).after (clearDeck_evolves ..))

theorem endAtBoundary_evolves (d : DeckId) (st : RecState) (r : EndReason) (tr : Bool) (s : State) :
    Evolves [] s (endAtBoundary d st r tr s) := by
  have h := endDeck_evolves true d st r tr s
  exact .ite (h.trans (setDeck_evolves _ id)) h

theorem cutDeck_evolves (b : Bool) (d : DeckId) (r : EndReason) (q : Bool) {s : State}
    (h : (s.deck d).state ≠ .empty) : Evolves [] s (cutDeck b d r q s) :=
  (refreshStudio_evolves ..).after ((mapDeckRamp_evolves ..).after (setDeck_evolves d fun _ => h))

/-! ## Starts (R59, R61) -/

theorem endRunOut_evolves (s : State) : Evolves [] s (endRunOut s) := .ite (.of_reads rfl) (.refl s)

theorem startDeck_evolves (d : DeckId) (owed : Bool) {s : State} (h : (s.deck d).state ≠ .empty) :
    Evolves [] s (startDeck d owed s) := by
  unfold startDeck
  extract_lets k p playing k1 s1 decks s2 s3 s4
  have h1 : Evolves [] s s1 := (endRunOut_evolves _).after (setDeck_evolves d fun _ => h)
  have h2 : Evolves [] s s2 := h1.trans (.of_reads rfl)
  have h3 : Evolves [] s s3 := (refreshStudio_evolves ..).after (h2.trans (mapDeckRamp_evolves ..))
  have h4 : Evolves [] s s4 := (noteDemand_evolves _).after (h3.trans (handLog_evolves ..))
  exact .ite (h4.trans (endDeck_evolves ..)) h4

theorem ready_ne_empty {s : State} {d : DeckId} (h : s.startsNow d = true) : (s.deck d).state ≠ .empty := by
  simp only [State.startsNow, Bool.and_eq_true, beq_iff_eq] at h
  simp [h.1.1]

/-- Cutting one deck leaves the other. -/
theorem cutDeck_other (b : Bool) (d : DeckId) (r : EndReason) (q : Bool) (s : State) :
    (cutDeck b d.other r q s).deck d = s.deck d := by
  unfold cutDeck
  dsimp only
  rw [refreshStudio_deck]
  exact Two.get_other_set ..

theorem hardStart_evolves (d : DeckId) {s : State} (h : (s.deck d).state.cued = true) :
    Evolves [] s (hardStart d s) := by
  have hne : (s.deck d).state ≠ .empty := by
    intro he
    rw [he] at h
    cases h
  unfold hardStart
  extract_lets o s1 k
  have h1 : Evolves [] s s1 := by
    simp only [s1]
    split
    · rename_i hplay
      exact cutDeck_evolves _ _ _ _ (by rw [show (s.deck d.other).state = .playing from hplay]; decide)
    · exact .refl s
  have hk : k = s.deck d := by
    simp only [k, s1]
    split
    · exact cutDeck_other ..
    · rfl
  have hs1 : (s1.deck d).state ≠ .empty := by
    show k.state ≠ .empty
    rw [hk]
    exact hne
  split_ifs
  · exact h1.trans (startDeck_evolves d false hs1)
  · exact h1.trans (setDeck_evolves d fun _ => hs1)
  · exact h1.trans (setDeck_evolves d fun _ => hs1)

theorem noteOwed_evolves (d : DeckId) (s : State) : Evolves [] s (noteOwed d s) :=
  .ite (setDeck_evolves d id) (.refl s)

/-! ## Playing and skips (R63, R66) -/

theorem deckBlock_evolves (d : DeckId) (s : State) : Evolves [] s (deckBlock d s) := by
  unfold deckBlock
  extract_lets k s1 mixer s2
  have h1 : Evolves [] s s1 := setDeck_evolves d id
  have h2 : Evolves [] s s2 := h1.trans (.of_reads rfl)
  exact .ite (h2.trans (raise_evolves _ _)) h2

theorem markRequest_evolves (d : DeckId) (s : State) : Evolves [] s (markRequest d s) := setDeck_evolves d id

/-- A PLAYING skip finds a deck that sounds. -/
theorem skipTarget_ne_empty {s : State} {d : DeckId} (h : s.skipTarget = some d) : (s.deck d).state ≠ .empty := by
  have hskip : (s.deck d).skippable = true := by
    unfold State.skipTarget at h
    dsimp only at h
    split at h
    · rename_i hs
      exact Option.some.inj h ▸ hs
    · split at h
      · rename_i hs
        exact Option.some.inj h ▸ hs
      · cases h
  intro he
  simp [Deck.skippable, he] at hskip

theorem skipPlaying_evolves (s : State) : Evolves [] s (skipPlaying s).2 := by
  unfold skipPlaying
  split
  · exact .refl s
  · rename_i d hd
    split
    · exact (endDeck_evolves ..).after (markRequest_evolves d s)
    · exact cutDeck_evolves _ _ _ _ (skipTarget_ne_empty hd)

theorem segmentSkip_evolves (w : Word) (s : State) : Evolves [] s (segmentSkip w s).2 := by
  unfold segmentSkip
  split_ifs
  · exact skipPlaying_evolves s
  · unfold skipCued
    split
    · exact .refl s
    · exact (endDeck_evolves ..).after (markRequest_evolves _ s)
  · exact .refl s

/-! ## The alert pause and run-out (R67, R69) -/

theorem paused_ne_empty {k : Deck} (h : k.paused.state ≠ .empty) : k.state ≠ .empty := by
  unfold Deck.paused at h
  split at h
  · rename_i hk
    rcases hk with hk | hk <;> simp [hk]
  · exact h

theorem released_ne_empty {k : Deck} (h : k.released.state ≠ .empty) : k.state ≠ .empty := by
  unfold Deck.released at h
  split at h
  · rename_i hk
    simp [hk]
  · exact h

theorem pauseDecks_evolves (s : State) : Evolves [] s (pauseDecks s) := by
  refine .ite (.refl s) ((refreshStudio_evolves ..).after (.of_decks rfl fun d hd => .inl ⟨d, ?_⟩))
  exact paused_ne_empty (by simpa [State.deck] using hd)

theorem releaseDecks_evolves (s : State) : Evolves [] s (releaseDecks s) := by
  refine .ite ((noteOwed_evolves ..).after ((noteOwed_evolves ..).after ((refreshStudio_evolves ..).after
    (.of_decks rfl fun d hd => .inl ⟨d, ?_⟩)))) (.refl s)
  exact released_ne_empty (by simpa [State.deck] using hd)

theorem noteNoFill_evolves (s : State) : Evolves [] s (noteNoFill s) := .ite (.of_reads rfl) (.refl s)

theorem runOutBegins_evolves (s : State) : Evolves [] s (runOutBegins s) := by
  unfold runOutBegins
  split_ifs <;> exact .of_reads rfl

theorem stopRunOut_evolves (s : State) : Evolves [] s (stopRunOut s) := .ite (.of_reads rfl) (.refl s)

/-! ## HALT and PROGRAMME_RESET (R5, R9, R68) -/

theorem attemptWrite_evolves (d : DeckId) (o : PairWrite) (w : RecordWrite) (s : State) :
    Evolves [] s (attemptWrite d o w s) := by
  unfold attemptWrite
  dsimp only
  exact .ite (.of_reads rfl) ((writeError_evolves ..).after (.of_reads rfl))

theorem attemptWrites_evolves (d : DeckId) (os : DeckWrites) (ws : List RecordWrite) (s : State) :
    Evolves [] s (attemptWrites d os ws s) := by
  induction ws generalizing os s with
  | nil => cases os <;> exact .refl s
  | cons w ws ih => exact (attemptWrite_evolves ..).trans (ih _ _)

theorem abandonDeck_evolves (d : DeckId) (r : EndReason) (o : DeckWrites) (s : State) :
    Evolves [] s (abandonDeck d r o s) :=
  .ite ((attemptWrites_evolves ..).after (clearDeck_evolves ..))
    ((attemptWrites_evolves ..).after ((handLog_evolves ..).after (clearDeck_evolves ..)))

theorem dropDeck_evolves (d : DeckId) (s : State) : Evolves [] s (dropDeck d s) :=
  (clearDeck_evolves ..).after (giveUp_evolves ..)

end Sys2Proof.Machine


/-! # Delay line and airing: what their operations keep -/

namespace Sys2Proof.Machine

open Sys2Proof

/-! ## The line within its memory (R106, R107, R110) -/

/-- D lies within the memory and is 0 in BYPASS, and the accumulator is a fraction of a frame. -/
structure Delay.Fits (d : Delay) : Prop where
  capacity : d.mem.length ≤ Config.delayFrames
  bypass : d.state = .bypass → d.mem = []
  fraction : d.acc < 1000

theorem DelayFits.line {s : State} (h : DelayFits s) : s.delay.Fits := ⟨h.capacity, h.bypass, h.fraction⟩

theorem Evolves.of_line {s : State} {d : Delay} (h : s.sections.station.target ≤ 1920000 → s.delay.Fits → d.Fits) :
    Evolves [] s { s with delay := d } :=
  .of_delay rfl fun k =>
    have hd := h k.target k.line
    ⟨k.target, hd.capacity, hd.bypass, hd.fraction⟩

theorem workOut_ne_bypass (t d : Nat) : workOut t d ≠ .bypass := by
  unfold workOut
  split_ifs <;> decide

theorem Delay.Fits.withState {d : Delay} (h : d.Fits) {st : DelayState} (hst : st ≠ .bypass) :
    ({ d with state := st } : Delay).Fits := ⟨h.capacity, fun hb => absurd hb hst, h.fraction⟩

theorem Delay.Fits.rework {d : Delay} (h : d.Fits) (t : Nat) : (d.rework t).Fits := by
  unfold Delay.rework
  split
  · exact h.withState (workOut_ne_bypass _ _)
  · exact h

theorem zero_lt_thousand : 0 < 1000 := Nat.succ_pos 999

/-! ## Dumps (R117 to R119) -/

@[simp] theorem fadeTail_length (fs : List Frame) : (fadeTail fs).length = fs.length := by
  induction fs with
  | nil => rfl
  | cons x xs ih => simp [fadeTail, ih]

@[simp] theorem soften_length (fs : List Frame) : (soften fs).length = fs.length := by
  simp only [soften, List.length_append, List.length_take, fadeTail_length, List.length_drop]
  omega

theorem Delay.Fits.dumped {d : Delay} (h : d.Fits) (t n : Nat) : (d.dumped t n).Fits := by
  have hcap : (soften (d.mem.take (d.depth - n))).length ≤ Config.delayFrames := by
    rw [soften_length, List.length_take]
    exact (Nat.min_le_right _ _).trans h.capacity
  unfold Delay.dumped
  dsimp only
  split
  · rename_i hexit
    split
    · rename_i hempty
      simp only [Bool.and_eq_true, List.isEmpty_iff] at hempty
      exact ⟨hcap, fun _ => hempty.1, zero_lt_thousand⟩
    · exact ⟨hcap, fun hb => by simp [hexit] at hb, zero_lt_thousand⟩
  · apply Delay.Fits.rework
    refine ⟨hcap, fun hb => ?_, zero_lt_thousand⟩
    rw [← List.length_eq_zero_iff, soften_length, h.bypass hb]
    simp

theorem logDelay_evolves (c : DelayCause) (o s : State) : Evolves [] s (logDelay c o s) :=
  .ite (.refl s) (handLog_evolves ..)

theorem dump_evolves (src : DumpSource) (s : State) : Evolves [] s (dump src s).2 := by
  unfold dump
  split
  · exact (logDelay_evolves ..).after ((handLog_evolves ..).after (.of_line fun _ h => h.dumped _ _))
  · exact .refl s

theorem refire_evolves (n : GpiNo) (s : State) : Evolves [] s (refire n s) :=
  .ite ((dump_evolves ..).after (handLog_evolves ..)) (.refl s)

theorem refireAll_evolves (s : State) : Evolves [] s (refireAll s) := by
  unfold refireAll
  generalize places8 = l
  induction l generalizing s with
  | nil => exact .refl s
  | cons n l ih => exact (refire_evolves n s).trans (ih _)

theorem noteDelay_evolves (c : DelayCause) (o s : State) : Evolves [] s (noteDelay c o s) := by
  unfold noteDelay
  exact .ite ((logDelay_evolves ..).trans (refireAll_evolves _)) (logDelay_evolves ..)

/-! ## Requests (R114, R115) -/

theorem delayEngage_evolves (s : State) : Evolves [] s (delayEngage s).2 := by
  unfold delayEngage
  split
  · split
    · exact .refl s
    · exact (noteDelay_evolves ..).after (.of_line fun _ h => ⟨h.capacity, (fun hb => by cases hb), zero_lt_thousand⟩)
  · exact (noteDelay_evolves ..).after (.of_line fun _ h => h.withState (workOut_ne_bypass _ _))
  all_goals exact .refl s

theorem delayExit_evolves (s : State) : Evolves [] s (delayExit s).2 := by
  unfold delayExit
  split_ifs with hcallers hbypass hexit hempty
  · exact .refl s
  · exact .refl s
  · exact .refl s
  · refine (noteDelay_evolves ..).after (.of_line fun _ h => ⟨h.capacity, fun _ => ?_, zero_lt_thousand⟩)
    exact List.length_eq_zero_iff.1 hempty.1
  · exact (noteDelay_evolves ..).after (.of_line fun _ h => h.withState (by decide))

theorem delaySettings_evolves (o s : State) : Evolves [] s (delaySettings o s) :=
  (noteDelay_evolves ..).after (.of_line fun _ h => h.rework _)

/-! ## The block (R109 to R113, R121) -/

@[simp] theorem makeBlock_length {α : Type} (f : Nat → α) : (makeBlock f).length = 240 := by simp [makeBlock]

theorem mixBlock_length (s : State) : s.mixBlock.length = 240 := by simp [State.mixBlock]

theorem faded_length (d : Delay) {input : List Frame} (h : input.length = 240) : (d.faded input).length = 240 := by
  unfold Delay.faded
  split
  · exact makeBlock_length _
  · exact h

/-- What is left of the memory that the input has joined. -/
theorem give_mem_length (d : Delay) (n : Nat) (shape : List Frame → List Frame) {input : List Frame}
    (h : input.length = 240) : (d.give n shape (d.mem ++ d.faded input)).mem.length = d.mem.length + 240 - n := by
  simp [Delay.give, faded_length d h]

theorem Delay.Fits.run {d : Delay} (h : d.Fits) {t r : Nat} {input : List Frame} (ht : t ≤ 1920000)
    (hin : input.length = 240) : (d.run t r input).Fits := by
  have hcap := h.capacity
  simp only [Config.delayFrames] at hcap
  have hacc : d.accNext r < 1000 := Nat.mod_lt _ (by decide)
  have hgive := fun n shape => give_mem_length d n shape hin
  unfold Delay.run
  dsimp only
  split
  · rename_i hstate
    have hmem := h.bypass hstate
    refine ⟨?_, fun _ => ?_, h.fraction⟩
    · rw [hgive]
      simp [hmem]
    · rw [← List.length_eq_zero_iff, hgive]
      simp [hmem, Config.blockFrames]
  · rename_i hstate
    refine ⟨?_, fun hb => ?_, hacc⟩
    · refine (hgive _ id).trans_le ?_
      simp only [Config.blockFrames, Config.delayFrames]
      omega
    · simp [Delay.give, hstate] at hb
  · rename_i hstate
    have hlen : (d.give (Config.blockFrames - min (d.share r) (t - d.depth))
        (stretch (min (d.share r) (t - d.depth))) (d.mem ++ d.faded input)).mem.length ≤ Config.delayFrames := by
      rw [hgive]
      simp only [Config.blockFrames, Config.delayFrames, Delay.depth]
      omega
    split
    · exact ⟨hlen, (fun hb => by cases hb), hacc⟩
    · exact ⟨hlen, fun hb => by simp [Delay.give, hstate] at hb, hacc⟩
  · rename_i hstate
    have hlen : (d.give (Config.blockFrames + min (d.share r) (d.depth - t))
        (squeeze (min (d.share r) (d.depth - t))) (d.mem ++ d.faded input)).mem.length ≤ Config.delayFrames := by
      rw [hgive]
      simp only [Config.blockFrames, Config.delayFrames]
      omega
    split
    · exact ⟨hlen, (fun hb => by cases hb), hacc⟩
    · exact ⟨hlen, fun hb => by simp [Delay.give, hstate] at hb, hacc⟩
  · rename_i hstate
    have hlen := hgive (Config.blockFrames + min (d.share r) d.depth) (squeeze (min (d.share r) d.depth))
    have hle : d.mem.length + 240 - (Config.blockFrames + min (d.share r) d.depth) ≤ Config.delayFrames := by
      simp only [Config.blockFrames, Config.delayFrames]
      omega
    split
    · rename_i hgone
      refine ⟨hlen.trans_le hle, fun _ => ?_, zero_lt_thousand⟩
      rw [← List.length_eq_zero_iff]
      refine hlen.trans ?_
      simp only [Config.blockFrames, Delay.depth] at hgone ⊢
      omega
    · exact ⟨hlen.trans_le hle, fun hb => by simp [Delay.give, hstate] at hb, hacc⟩

theorem Delay.Fits.pausedBlock {d : Delay} (h : d.Fits) (t : Nat) (input : List Frame) (hd : d.state ≠ .bypass) :
    (d.pausedBlock t input).Fits := by
  have hlen : ((d.mem ++ d.faded input).drop (d.overflow input)).length ≤ Config.delayFrames := by
    have hdiscard : ∀ n top : Nat, n - (n - top) ≤ top := fun n top => by omega
    rw [List.length_drop, List.length_append]
    exact hdiscard _ _
  unfold Delay.pausedBlock
  generalize (d.mem ++ d.faded input).drop (d.overflow input) = mem at hlen
  apply Delay.Fits.rework
  exact ⟨hlen, fun hb => (hd hb).elim, h.fraction⟩

theorem delayOverflow_evolves (n : Nat) (s : State) : Evolves [] s (delayOverflow n s) :=
  .ite (.refl s) ((raise_evolves ..).after (.of_line fun _ h => ⟨h.capacity, h.bypass, h.fraction⟩))

theorem delayBlock_evolves (s : State) :
    Evolves [] s (if s.delay.held then
      noteDelay .pause s (delayOverflow (s.delay.overflow s.mixBlock)
        { s with delay := s.delay.pausedBlock s.sections.station.target s.mixBlock })
      else noteDelay .reached s
        { s with delay := s.delay.run s.sections.station.target s.sections.station.rate s.mixBlock }) := by
  split
  · rename_i hheld
    have hstate : s.delay.state ≠ .bypass := by
      simp only [Delay.held, Bool.and_eq_true, bne_iff_ne] at hheld
      exact hheld.2
    exact (noteDelay_evolves ..).after ((delayOverflow_evolves ..).after (.of_line fun _ h => h.pausedBlock _ _ hstate))
  · exact (noteDelay_evolves ..).after (.of_line fun ht h => h.run ht (mixBlock_length s))

/-! ## Airings, part states and resets (R120 to R124) -/

theorem delayAiring_evolves (a : AlertPolicy) (s : State) : Evolves [] s (delayAiring a s) := by
  cases a
  · exact .of_line fun _ h => ⟨h.capacity, h.bypass, h.fraction⟩
  · exact .refl s

theorem delayRunEnd_evolves (s : State) : Evolves [] s (delayRunEnd s) := by
  unfold delayRunEnd
  dsimp only
  split_ifs with hpause hempty
  · exact .of_line fun _ h => ⟨h.capacity, h.bypass, h.fraction⟩
  · refine (noteDelay_evolves ..).after (.of_line fun _ h => ⟨h.capacity, fun _ => ?_, zero_lt_thousand⟩)
    exact List.length_eq_zero_iff.1 hempty.2
  · refine (noteDelay_evolves ..).after (.of_line fun _ h => ?_)
    have hr : (Delay.rework s.sections.station.target
        { s.delay with pauseFlag := false, pauseNow := false }).Fits := by
      apply Delay.Fits.rework
      exact ⟨h.capacity, h.bypass, h.fraction⟩
    exact ⟨hr.capacity, hr.bypass, hr.fraction⟩

theorem delayHalt_evolves (s : State) : Evolves [] s (delayHalt s) :=
  .of_line fun _ h => ⟨h.capacity, h.bypass, h.fraction⟩

theorem delayReset_evolves (s : State) : Evolves [] s (delayReset s) :=
  (noteDelay_evolves ..).after (.of_line fun _ _ => ⟨by simp, fun _ => rfl, by simp⟩)

theorem delay_blockBegins_evolves (s : State) : Evolves [] s { s with delay := s.delay.blockBegins } :=
  .of_line fun _ h => ⟨h.capacity, h.bypass, h.fraction⟩

/-! ## Forwards and cancels (R148 to R150, R157) -/

theorem holder_state {s : State} {i : Identity} {n : EntryNo} (h : s.holder i = some n) : (s.entry n).state ≠ .free := by
  have := List.find?_some h
  simp only [Bool.and_eq_true, bne_iff_ne] at this
  exact this.1

theorem alertForward_evolves (w0 w1 w2 : Word) (s : State) : Evolves [] s (alertForward w0 w1 w2 s).2 := by
  unfold alertForward
  split
  · exact .refl s
  · split
    · exact .refl s
    · dsimp only
      split_ifs with hpolicy hrec hpend
      · exact .refl s
      · exact .sameEntry _ _ ⟨rfl, rfl⟩
      · exact enterQueued_evolves _ _ hpend
      · exact .refl s

/-- What a button finds qualifies (R34). -/
theorem earliest_qualifies {s : State} {q : AlertEntry → Bool} {n : EntryNo} (h : s.earliest q = some n) :
    q (s.entry n) = true := by
  have h' := leastOf_mem (fun m => ((s.entry m).received.toNat : Int)) (places8.filter fun m => q (s.entry m)) none n (by
    rw [← h]
    unfold State.earliest
    congr 1
    funext b x
    cases b <;> simp)
  rcases h' with hl | hb
  · exact (List.mem_filter.1 hl).2
  · cases hb

theorem forwardButton_evolves (s : State) : Evolves [] s (forwardButton s).2 := by
  unfold forwardButton
  split
  · exact .refl s
  · rename_i n hn
    have hq := earliest_qualifies hn
    simp only [Bool.and_eq_true, beq_iff_eq] at hq
    exact enterQueued_evolves n _ hq.1

theorem cancelEntry_evolves (n : EntryNo) (s : State) : Evolves [] s (cancelEntry n s).2 := by
  have hlog (hn : (s.entry n).state ≠ .airing) :
      Evolves [] s (logAlert n (s.entry n).state .cancel 0 (finishEntry n .cancelled s)) :=
    (logAlert_evolves ..).after (finishEntry_evolves n rfl hn)
  unfold cancelEntry
  dsimp only
  split
  · rename_i hs
    simpa only [hs] using hlog (by simp [hs])
  · rename_i hs
    simpa only [hs] using hlog (by simp [hs])
  · rename_i hs
    simpa only [hs] using hlog (by simp [hs])
  · exact .of_table rfl rfl fun k => k.of_reads rfl
  all_goals exact .refl s

theorem alertCancel_evolves (w0 w1 w2 : Word) (s : State) : Evolves [] s (alertCancel w0 w1 w2 s).2 := by
  unfold alertCancel
  split
  · exact .refl s
  · split
    · exact .refl s
    · exact cancelEntry_evolves ..

theorem cancelButton_evolves (s : State) : Evolves [] s (cancelButton s).2 := by
  unfold cancelButton
  split
  · exact cancelEntry_evolves ..
  · split
    · exact cancelEntry_evolves ..
    · exact .refl s

/-! ## The airing check and a start (R152, R153) -/

theorem expireEntry_entry (n m : EntryNo) (s : State) :
    (expireEntry n s).entry m = if m = n then (s.entry n).finished .expired else s.entry m :=
  finishEntry_entry n m .expired s

/-- The check of entries that are queued, each listed once, keeps the table. -/
theorem airingCheck_fits (l : List Queued) {s : State} (h : TableFits s) (hl : (l.map Queued.entry).Nodup)
    (hq : ∀ q ∈ l, (s.entry q.entry).state = .queued) : TableFits (airingCheck l s).2 := by
  induction l generalizing s with
  | nil => exact h
  | cons q qs ih =>
    rw [List.map_cons, List.nodup_cons] at hl
    obtain ⟨hnew, hrest⟩ := hl
    have hhead : (s.entry q.entry).state = .queued := hq q List.mem_cons_self
    unfold airingCheck
    split
    · refine ih ((expireEntry_evolves q.entry (by simp [hhead])).keeps .table (by simp) h) hrest fun x hx => ?_
      have hdiff : x.entry ≠ q.entry := fun he => hnew (he ▸ List.mem_map_of_mem hx)
      rw [expireEntry_entry, if_neg hdiff]
      exact hq x (List.mem_cons_of_mem _ hx)
    · exact h

theorem expireEntry_evolves_open (n : EntryNo) (s : State) : Evolves [.table, .alerts] s (expireEntry n s) :=
  (Evolves.mono (logAlert_evolves n _ .expired _ _) (by simp)).after (.of_alerts rfl)

theorem airingCheck_evolves_open (l : List Queued) (s : State) : Evolves [.table, .alerts] s (airingCheck l s).2 := by
  induction l generalizing s with
  | nil => exact (Evolves.refl s).mono (by simp)
  | cons q qs ih =>
    unfold airingCheck
    split
    · exact (expireEntry_evolves_open q.entry s).trans (ih _)
    · exact (Evolves.refl s).mono (by simp)

theorem airingCheck_airing (l : List Queued) (s : State) : (airingCheck l s).2.airing = s.airing := by
  rw [airingCheck_only]

theorem airingCheck_evolves (s : State) : Evolves [] s (airingCheck s.alerts.queue s).2 := by
  refine ((airingCheck_evolves_open _ s).with_table fun h => airingCheck_fits _ h h.queueOnce fun q hq => ?_).same_air
    (by rw [airingCheck_only]) (by rw [airingCheck_airing])
  exact (h.queueHolds _).1 (List.mem_map_of_mem hq)

/-- An entry goes from the air queue on air. -/
theorem airEntry_evolves (n : EntryNo) {s : State} (hidle : s.airing.state.airs = false) : Evolves [.alerts] s (airEntry n s) := by
  refine .of_airing rfl fun h => ?_
  have hentry : ∀ m, ((airEntry n s).entry m) =
      if m = n then { s.entry n with state := .airing, airedStart := some s.time } else s.entry m := fun m => by
    simp only [airEntry, State.entry, Eight.get_set]
  have hairs : (airEntry n s).airing.state.airs = true := by
    simp only [airEntry, Airing.begun]
    split <;> rfl
  refine h.leaveQueue n ?_ (fun m hm => ?_) rfl (fun m => ?_) (fun hf => ?_) (fun _ hf => ?_)
  · rw [hentry, if_pos rfl]
    exact ⟨by simp, .inr rfl⟩
  · rw [hentry, if_neg hm]
  · have hone : (airEntry n s).airing.entry = some n := rfl
    rw [hone, hentry]
    split
    · rename_i hm
      exact iff_of_true rfl ⟨by rw [hm], hairs⟩
    · rename_i hm
      refine iff_of_false (fun hc => ?_) fun hc => hm (Option.some.inj hc.1).symm
      rw [((h.oneAiring m).1 hc).2] at hidle
      cases hidle
  · rw [hairs] at hf
    cases hf
  · cases hf

theorem startAiring_evolves (n : EntryNo) {s : State} (hidle : s.airing.state.airs = false) : Evolves [] s (startAiring n s) := by
  unfold startAiring
  extract_lets a s1 s2 s3
  have h1 : Evolves [.alerts] s s1 := airEntry_evolves n hidle
  have h2 : Evolves [.alerts] s s2 := h1.trans ((handLog_evolves _ s1).mono (by simp))
  have h3 : Evolves [.alerts] s s3 :=
    h2.trans (((holdForAiring_evolves s2).trans (delayAiring_evolves a _)).mono (by simp))
  exact (Evolves.ite (h3.trans ((pauseDecks_evolves s3).mono (by simp))) h3).arbitrated

/-! ## The end of an airing and of a run (R156) -/

theorem checkAndStart_evolves {s : State} (hidle : s.airing.state.airs = false) : Evolves [] s (checkAndStart s) := by
  have hcheck := airingCheck_evolves s
  have hairing := airingCheck_airing s.alerts.queue s
  unfold checkAndStart
  split
  · rename_i n t he
    rw [he] at hcheck hairing
    exact hcheck.trans (startAiring_evolves n (by rw [hairing]; exact hidle))
  · rename_i t he
    rw [he] at hcheck
    exact hcheck

/-- With no entry AIRING the airing may stand in either of the states that air none. -/
theorem noneAirs_evolves {s : State} {a : Airing} (hidle : s.airing.state.airs = false) (hs : a.state.airs = false)
    (hn : a.entry = none) : Evolves [.alerts] s { s with airing := a } :=
  .of_airing rfl fun h =>
    { h with
      oneAiring := fun n => by
        have hno : ¬ (s.entry n).state = .airing := fun hc => by
          rw [((h.oneAiring n).1 hc).2] at hidle
          cases hidle
        exact iff_of_false hno fun hc => by
          rw [hs] at hc
          cases hc.2
      noEntry := fun _ => hn
      someEntry := fun hc => by
        rw [hs] at hc
        cases hc }

theorem endRun_evolves {s : State} (hidle : s.airing.state.airs = false) : Evolves [] s (endRun s) := by
  unfold endRun
  extract_lets a s1
  have h1 : Evolves [.alerts] s s1 := noneAirs_evolves hidle rfl rfl
  exact (h1.trans (((delayRunEnd_evolves s1).trans (releaseDecks_evolves _)).mono (by simp))).arbitrated

/-- What `closeAiring` leaves before ALERT_STATE and the end of the run or the GAP are handed on. -/
def closed (n : EntryNo) (st : EntryState) (partialAir : Bool) (a : Airing) (s : State) : State :=
  { finishEntry n st (s.setEntry n { s.entry n with
      airedEnd := some s.time
      flags := { (s.entry n).flags with partialAir := (s.entry n).flags.partialAir || partialAir } }) with
    airing := a }

theorem closed_entry (n m : EntryNo) (st : EntryState) (p : Bool) (a : Airing) (s : State) (hm : m ≠ n) :
    (closed n st p a s).entry m = s.entry m := by
  have h : (closed n st p a s).entry m = _ := finishEntry_entry n m st (s.setEntry n _)
  rw [h, if_neg hm, setEntry_entry, if_neg hm]

theorem closed_entry_self (n : EntryNo) (st : EntryState) (p : Bool) (a : Airing) (s : State) :
    ((closed n st p a s).entry n).state = st ∧ ((closed n st p a s).entry n).slot = none := by
  have h : (closed n st p a s).entry n = _ := finishEntry_entry n n st (s.setEntry n _)
  rw [h, if_pos rfl]
  exact ⟨rfl, rfl⟩

theorem closed_evolves {n : EntryNo} {st : EntryState} (p : Bool) {a : Airing} {s : State}
    (hn : s.airing.entry = some n) (hst : st.final = true) (ha : a.state.airs = false) (hnone : a.entry = none) :
    Evolves [.alerts] s (closed n st p a s) := by
  refine .of_airing rfl fun h => ?_
  obtain ⟨hself, hslot⟩ := closed_entry_self n st p a s
  refine h.leaveQueue n ⟨by rw [hself]; exact (final_ne hst).2, .inl hslot⟩ (fun m hm => closed_entry n m st p a s hm) rfl
    (fun m => iff_of_false (fun hc => ?_) fun hc => ?_) (fun _ => hnone) (fun hc => ?_)
  · by_cases hm : m = n
    · rw [hm, hself] at hc
      exact (final_ne hst).1 hc
    · rw [closed_entry n m st p a s hm, h.oneAiring, hn] at hc
      exact hm (Option.some.inj hc.1).symm
  · have hairs : a.state.airs = true := hc.2
    rw [ha] at hairs
    cases hairs
  · have hairs : a.state.airs = true := hc
    rw [ha] at hairs
    cases hairs

theorem closeAiring_evolves {st : EntryState} (c : AlertCause) (p : Bool) {s : State} (hst : st.final = true) :
    Evolves [] s (closeAiring st c p s) := by
  unfold closeAiring
  split
  · exact .refl s
  · rename_i n hn
    have hclosed : ∀ a : Airing, a.state.airs = false → a.entry = none →
        Evolves [.alerts] s (logAlert n .airing c s.airing.given (closed n st p a s)) := fun a ha hnone =>
      ((logAlert_evolves ..).mono (by simp)).after (closed_evolves p hn hst ha hnone)
    extract_lets e flags s1 s2 a
    split
    · have hidle := hclosed { s.airing with state := .idle, entry := none, cancel := false, blockGiven := false } rfl rfl
      exact (hidle.trans (((delayRunEnd_evolves _).trans (releaseDecks_evolves _)).mono (by simp))).arbitrated
    · exact (hclosed { s.airing with state := .gap, entry := none, cancel := false, blockGiven := false }
        rfl rfl).arbitrated

/-- The check after a GAP block: the next airing, or the end of the run (R156). -/
theorem gapEnd_evolves {s : State} (hidle : s.airing.state.airs = false) :
    Evolves [] s (match airingCheck s.alerts.queue s with
      | (some n, s') => startAiring n s'
      | (none, s') => endRun s') := by
  have hcheck := airingCheck_evolves s
  have hairing := airingCheck_airing s.alerts.queue s
  split <;> rename_i he <;> rw [he] at hcheck hairing
  · exact hcheck.trans (startAiring_evolves _ (by rw [hairing]; exact hidle))
  · exact hcheck.trans (endRun_evolves (by rw [hairing]; exact hidle))

theorem gapOver_idle {a : Airing} (h : a.gapOver = true) : a.state.airs = false := by
  simp only [Airing.gapOver, Bool.and_eq_true, beq_iff_eq] at h
  rw [h.1]
  rfl

/-! ## The airing's blocks (R146, R157, R158) -/

/-- The airing goes on with its entry and without a change of what airs. -/
theorem Evolves.sameAiring {s : State} {a : Airing} (he : a.entry = s.airing.entry)
    (ha : a.state.airs = s.airing.state.airs) (hp : a.state.present = s.airing.state.present) :
    Evolves [] s { s with airing := a } :=
  .of_table rfl hp fun h =>
    { h with
      oneAiring := fun n => by
        show (s.entry n).state = .airing ↔ (a.entry = some n ∧ a.state.airs = true)
        rw [he, ha]
        exact h.oneAiring n
      noEntry := fun hc => by
        rw [he]
        exact h.noEntry (ha ▸ hc)
      someEntry := fun hc => by
        rw [he]
        exact h.someEntry (ha ▸ hc) }

theorem airing_blockEnds_evolves (s : State) : Evolves [] s { s with airing := s.airing.blockEnds } := by
  refine .sameAiring ?_ ?_ ?_ <;> unfold Airing.blockEnds <;> split <;> rfl

theorem airing_fadeBegins_evolves (s : State) : Evolves [] s { s with airing := s.airing.fadeBegins } := by
  unfold Airing.fadeBegins
  split
  · rename_i hfade
    rcases hfade.1 with hs | hs <;> exact .sameAiring rfl (by rw [hs]; rfl) (by rw [hs]; rfl)
  · exact .refl s

theorem noteLinkDown_evolves (s : State) : Evolves [] s (noteLinkDown s) := by
  unfold noteLinkDown
  split
  · exact .refl s
  · exact .ite (.sameEntry _ _ ⟨rfl, rfl⟩) (.refl s)

theorem settled_evolves (s : State) : Evolves [] s { s with alerts := s.alerts.settled } :=
  .of_entries rfl (fun n => by simp [State.entry, Alerts.settled]) rfl rfl rfl

end Sys2Proof.Machine


/-! # Studio lines, fetch engine, walker and requests: what their operations keep -/

namespace Sys2Proof.Machine

open Sys2Proof

/-! ## Studio lines (R29 to R34) -/

theorem sample_count_le (now : Time) (level : Bool) {l : GpiLine} (h : l.count ≤ 3) : (l.sample now level).count ≤ 3 := by
  unfold GpiLine.sample
  dsimp only
  split
  · exact Nat.zero_le _
  · split
    · exact Nat.zero_le _
    · show l.count + 1 ≤ 3
      omega

theorem sampleLines_count_le (now : Time) (set : Eight GpiSetting) (levels : BitVec 8) {g : Eight GpiLine}
    (h : ∀ n, (g.get n).count ≤ 3) (n : GpiNo) : ((sampleLines now set levels g).get n).count ≤ 3 := by
  unfold sampleLines
  rw [Eight.get_ofFn]
  dsimp only
  split
  · exact sample_count_le _ _ (h n)
  · exact Nat.zero_le _

theorem rearm_evolves (old : Eight GpiSetting) (s : State) : Evolves [] s (rearm old s) := by
  refine .of_gpi fun h n => ?_
  rw [Eight.get_ofFn]
  dsimp only
  split <;> exact h n

theorem ownerActs_evolves (n : GpiNo) (f : GpiFunction) (s : State) : Evolves [] s (ownerActs n f s).2 := by
  cases f
  case none | logOnly => exact .refl s
  case dump => exact dump_evolves ..
  case takeCaller => exact callerTake_evolves ..
  case dropCallers => exact dropCallers_evolves s
  case alertForward => exact forwardButton_evolves s
  case alertCancel => exact cancelButton_evolves s
  case skip => exact skipPlaying_evolves s

theorem fireLine_evolves (n : GpiNo) (s : State) : Evolves [] s (fireLine n s) :=
  .ite (.refl s) ((ownerActs_evolves ..).after (handLog_evolves ..))

theorem acceptLevel_evolves (n : GpiNo) (s : State) : Evolves [] s (acceptLevel n s) := by
  unfold acceptLevel
  extract_lets g l level s1
  have h1 : Evolves [] s s1 := by
    refine .of_gpi fun h m => ?_
    rw [Eight.get_set]
    split
    · exact h n
    · exact h m
  exact .ite (h1.trans (fireLine_evolves n s1)) h1

/-! ## Fetch engine and rescue store (R55 to R58, R64, R70) -/

theorem issueFetch_evolves (u : FetchUser) (s : State) : Evolves [] s (issueFetch u s) := by
  cases u
  case deck d =>
    have h : Evolves [] s (s.setDeck d { s.deck d with
        fetchPos := (s.deck d).fetchPos + BitVec.ofNat 64 (s.deck d).readLength }) := setDeck_evolves d id
    exact h.trans (.of_reads rfl)
  case loader => exact .of_reads rfl

theorem settle_ne_empty {k : Deck} (h : k.settle.state ≠ .empty) : k.state ≠ .empty := by
  unfold Deck.settle at h
  split at h
  · rename_i hk
    simp [hk.1]
  · exact h

theorem join_ne_empty {k : Deck} {bs : List Byte} (h : (k.join bs).state ≠ .empty) : k.state ≠ .empty :=
  settle_ne_empty (k := { k with
    fifo := k.fifo ++ framesOf k.format (k.carry ++ bs)
    toFetch := k.toFetch - (framesOf k.format (k.carry ++ bs)).length
    carry := carryOf k.format (k.carry ++ bs) }) h

theorem idleEngine_evolves (s : State) : Evolves [] s (idleEngine s) := .of_reads rfl

theorem fetchReadDone_evolves (data : List Byte) (r : FetchRead) (s : State) :
    Evolves [] s (if r.live then
      match r.user with
      | .deck d => (idleEngine s).setDeck d ((s.deck d).join (fitTo r.len data))
      | .loader => { idleEngine s with rescue := s.rescue.join (fitTo r.len data) }
      else idleEngine s) := by
  split
  · split
    · exact Evolves.after (setDeck_evolves _ fun h => join_ne_empty h) (idleEngine_evolves s)
    · exact .of_reads rfl
  · exact idleEngine_evolves s

theorem fetchFailed_ne_empty {k : Deck} (h : k.fetchFailed.state ≠ .empty) : k.state ≠ .empty := by
  intro he
  apply h
  unfold Deck.fetchFailed
  simp only [he]

theorem deckFetchFailed_evolves (d : DeckId) (s : State) : Evolves [] s (deckFetchFailed d s) := by
  unfold deckFetchFailed
  extract_lets k r s1 s2
  have h1 : Evolves [] s s1 := raise_evolves _ s
  have hdeck : s1.deck d = k := raise_deck _ s d
  have h2 : Evolves [] s s2 := h1.trans (setDeck_evolves d fun h => by rw [hdeck]; exact fetchFailed_ne_empty h)
  exact .ite (h2.trans (endDeck_evolves ..)) h2

theorem loadFailed_evolves (r : FillReason) (snap : List Byte) (s : State) : Evolves [] s (loadFailed r snap s) :=
  (raise_evolves ..).after (.of_reads rfl)

theorem abandonLoad_evolves (s : State) : Evolves [] s (abandonLoad s) := by
  have h1 : Evolves [] s (giveUp .fillRecord s.rescue.reading { s with fetch := s.fetch.discard .loader }) :=
    (giveUp_evolves ..).after (.of_reads rfl)
  exact .ite (h1.trans (.of_reads rfl)) (h1.trans (.of_reads rfl))

theorem silenceReaders_evolves (s : State) : Evolves [] s (silenceReaders s) := .of_reads rfl

theorem emptyStore_evolves (s : State) : Evolves [] s (emptyStore s) :=
  (silenceReaders_evolves _).after ((abandonLoad_evolves s).trans (.of_reads rfl))

theorem beginLoad_evolves (fill : Addr) (s : State) : Evolves [] s (beginLoad fill s) :=
  .ite (emptyStore_evolves s) ((abandonLoad_evolves s).trans (.of_reads rfl))

theorem fillRecordReadDone_evolves (r : ReadResult) (s : State) : Evolves [] s (fillRecordReadDone r s) := by
  unfold fillRecordReadDone
  split
  · exact .refl s
  · split
    · exact (silenceReaders_evolves _).after (loadFailed_evolves ..)
    · split
      · exact (silenceReaders_evolves _).after (loadFailed_evolves ..)
      · exact (silenceReaders_evolves _).after (.of_reads rfl)

theorem storeHalt_evolves (s : State) : Evolves [] s (storeHalt s) :=
  .ite ((silenceReaders_evolves _).after ((abandonLoad_evolves s).trans (.of_reads rfl))) (.refl s)

/-! ## Order walker (R42 to R51) -/

/-- Where only the walker's bookkeeping differs and no walk begins, the part state fits on. -/
theorem Evolves.of_walker {s : State} {w : Walker} (h : w.walking = true → s.walker.walking = true ∨ s.running = true) :
    Evolves [] s { s with walker := w } :=
  .of_playout rfl fun k =>
    ⟨k.phase, k.cameFrom, k.monitor, k.rescue, fun hw => (h hw).elim k.walks id, k.decks, k.callers⟩

theorem beginWalk_evolves {s : State} (h : s.running = true) : Evolves [] s (beginWalk s) := .of_walker fun _ => .inr h

theorem endWalk_evolves (st : WalkState) (s : State) : Evolves [] s (endWalk st s) :=
  (noteDemand_evolves _).after (.of_walker fun h => by cases h)

theorem stopWalk_evolves (s : State) : Evolves [] s (stopWalk s) :=
  .ite ((endWalk_evolves ..).after (giveUp_evolves ..)) (.refl s)

theorem setHead_evolves (head : Addr) (s : State) : Evolves [] s (setHead head s) :=
  (stopWalk_evolves s).trans (.of_walker .inl)

theorem pushWalkerWrite_evolves (a : Addr) (p : PartHalf) (st : RecState) (s : State) :
    Evolves [] s (pushWalkerWrite a p st s) := .of_reads rfl

theorem walkerWriteDone_evolves (ok : Bool) (s : State) : Evolves [] s (walkerWriteDone ok s) := by
  unfold walkerWriteDone
  split
  · exact .refl s
  · have h : Evolves [] s (if ok then s else writeError .orderWalker s) := .ite (.refl s) (writeError_evolves ..)
    exact h.trans (.of_walker .inl)

theorem stopWalker_evolves (s : State) : Evolves [] s (stopWalker s) :=
  ((stopWalk_evolves s).trans (giveUp_evolves ..)).trans (.of_walker .inl)

theorem recordBad_evolves (r : RecordReason) (snap : List Byte) (s : State) : Evolves [] s (recordBad r snap s) :=
  raise_evolves _ s

theorem follow_evolves (bs : List Byte) (next : Addr) (s : State) : Evolves [] s (follow bs next s) := by
  unfold follow chainLimit
  split_ifs
  · exact endWalk_evolves ..
  · exact (endWalk_evolves ..).after ((recordBad_evolves ..).trans (.of_walker .inl))
  · exact .of_walker .inl

theorem markRecord_evolves (h : HostHalf) (p : PartHalf) (st : RecState) (s : State) :
    Evolves [] s (markRecord h p st s) := (handLog_evolves ..).after (pushWalkerWrite_evolves ..)

theorem badRecord_evolves (bs : List Byte) (r : RecordReason) (s : State) : Evolves [] s (badRecord bs r s) :=
  (follow_evolves ..).after ((markRecord_evolves ..).after (recordBad_evolves ..))

theorem staleRecord_evolves (bs : List Byte) (s : State) : Evolves [] s (staleRecord bs s) :=
  (follow_evolves ..).after (markRecord_evolves ..)

/-- A deck takes a record from a walk, and a walk needs RUNNING. -/
theorem cueRecord_evolves (h : HostHalf) (k : SegKind) (f : SampleFormat) (d : DeckId) {s : State}
    (hw : s.walker.walking = true) : Evolves [] s (cueRecord h k f d s) := by
  unfold cueRecord
  extract_lets x s1
  have h1 : Evolves [] s s1 := .of_playout rfl fun k =>
    ⟨k.phase, k.cameFrom, k.monitor, k.rescue, k.walks, fun _ _ => onProgramme_of_running (k.walks hw), k.callers⟩
  split
  · exact h1.trans (endWalk_evolves ..)
  · exact (endWalk_evolves ..).after (h1.trans (.of_walker .inl))

theorem readyRecord_evolves (bs : List Byte) {s : State} (hw : s.walker.walking = true) :
    Evolves [] s (readyRecord bs s) := by
  unfold readyRecord
  dsimp only
  split
  · exact badRecord_evolves ..
  · split
    · exact cueRecord_evolves _ _ _ _ hw
    · exact endWalk_evolves ..

theorem examine_evolves (bs : List Byte) {s : State} (hw : s.walker.walking = true) : Evolves [] s (examine bs s) := by
  unfold examine
  dsimp only
  split
  · exact badRecord_evolves ..
  · exact readyRecord_evolves bs hw
  · exact endWalk_evolves ..
  · exact .ite (follow_evolves ..) (staleRecord_evolves ..)
  · exact .ite (follow_evolves ..) (staleRecord_evolves ..)
  all_goals exact follow_evolves ..

theorem recordReadDone_evolves (r : ReadResult) (s : State) : Evolves [] s (recordReadDone r s) := by
  unfold recordReadDone
  split
  · exact .refl s
  · rename_i hw
    split
    · exact (endWalk_evolves ..).after (recordBad_evolves ..)
    · exact .ite (follow_evolves ..) (examine_evolves _ (by simpa using hw))

theorem walkerBlockBegins_evolves (s : State) : Evolves [] s (walkerBlockBegins s) := .of_walker .inl

/-! ## Requests (R15, R16) -/

theorem ownerOf_evolves (r : Request) (s : State) : Evolves [] s (ownerOf r s).2 := by
  unfold ownerOf
  split
  · exact segmentSkip_evolves ..
  · exact callerOnAir_evolves ..
  · exact callerHold_evolves ..
  · exact callerDrop_evolves ..
  · exact callerTake_evolves ..
  · exact callerQueue_evolves ..
  · exact delayEngage_evolves s
  · exact delayExit_evolves s
  · exact dump_evolves ..
  · exact alertForward_evolves ..
  · exact alertCancel_evolves ..
  · exact clockSelect_evolves ..
  · exact linkSwitch_evolves ..
  · exact setTime_evolves ..
  · exact faultAck_evolves ..
  · exact .refl s

theorem answer_evolves (r : Request) {x : ResultCode × State} {s : State} (h : Evolves [] s x.2) :
    Evolves [] s (answer r x) := (handLog_evolves ..).after (h.trans (.of_reads rfl))

theorem takeAlone_evolves (r : Request) {owner : State → ResultCode × State} {s : State}
    (h : Evolves [] s (owner s).2) : Evolves [] s (if s.takes r.slot then answer r (owner s) else s) :=
  .ite (answer_evolves r h) (.refl s)

theorem takePosted_evolves (bs : List Byte) (s : State) : Evolves [] s (takePosted bs s) := by
  unfold takePosted
  generalize posted s bs = rs
  induction rs generalizing s with
  | nil => exact .refl s
  | cons r rs ih => exact (answer_evolves r (ownerOf_evolves r s)).trans (ih _)

/-- The survey unit's bookkeeping beside its part state, its phase and CB_BASE. -/
theorem Evolves.of_survey {s : State} {v : Survey} (hs : v.state = s.survey.state) (hp : v.phase = s.survey.phase)
    (hf : v.cameFrom = s.survey.cameFrom) (hb : v.cbBase = s.survey.cbBase) : Evolves [] s { s with survey := v } :=
  .of_reads (by simp only [State.reads, hs, hp, hf, hb])

theorem retryNext_only (running : Bool) (v : Survey) :
    v.retryNext running = { v with
      retrying := (v.retryNext running).retrying, results := (v.retryNext running).results } := by
  unfold Survey.retryNext
  split
  · split <;> rfl
  · rfl

theorem retried_only (running : Bool) (i : SlotNo) (v : Survey) :
    v.retried running i = { v with
      retrying := (v.retried running i).retrying, results := (v.retried running i).results } := by
  unfold Survey.retried
  split
  · rw [retryNext_only]
  · rfl

theorem retryResults_only (v : Survey) :
    v.retryResults = { v with
      retrying := v.retryResults.retrying, results := v.retryResults.results, resultsTried := true } := by
  unfold Survey.retryResults
  rw [retryNext_only]

theorem resultWriteDone_evolves (i : SlotNo) (ok : Bool) (s : State) : Evolves [] s (resultWriteDone i ok s) := by
  unfold resultWriteDone
  split
  · have h : Evolves [] s (if ok then s else writeError .surveyUnit s) := .ite (.refl s) (writeError_evolves ..)
    refine h.trans ?_
    dsimp only
    rw [retried_only]
    exact .of_survey rfl rfl rfl rfl
  · exact .refl s

theorem heldResultRetry_evolves (s : State) : Evolves [] s { s with survey := s.survey.retryResults } := by
  rw [retryResults_only]
  exact .of_survey rfl rfl rfl rfl

end Sys2Proof.Machine


/-! # Survey and control: what their operations keep -/

namespace Sys2Proof.Machine

open Sys2Proof

/-! ## Sections (R11 to R14) -/

theorem regainFill_evolves (g : Nat) (s : State) : Evolves [] s (regainFill g s) := .ite (.refl s) (.of_reads rfl)

theorem putStation_evolves {x : Station} (hx : x.target ≤ 1920000) (s : State) : Evolves [] s (putStation x s) := by
  have h1 : Evolves [] s { s with sections := { s.sections with station := x } } :=
    .of_delay rfl fun k => ⟨hx, k.capacity, k.bypass, k.fraction⟩
  exact (delaySettings_evolves ..).after ((regainFill_evolves ..).after (h1.trans (refreshStudio_evolves ..)))

theorem useStation_evolves {x : Station} (hx : x.target ≤ 1920000) (s : State) : Evolves [] s (useStation x s) :=
  (rearm_evolves ..).after (putStation_evolves hx s)

theorem usePolicy_evolves (x : AlertSettings) (s : State) : Evolves [] s (usePolicy x s) := .of_reads rfl

theorem useAnchor_evolves (attach : Bool) (x : Anchor) (s : State) : Evolves [] s (useAnchor attach x s) := by
  unfold useAnchor
  extract_lets old sections s1 s2
  have h1 : Evolves [] s s1 := .of_reads rfl
  have h2 : Evolves [] s s2 := .ite h1 (h1.trans (setHead_evolves ..))
  exact .ite h2 (h2.trans (beginLoad_evolves ..))

theorem readIndex_evolves (c : Word) (s : State) : Evolves [] s (readIndex c s) :=
  .ite (.of_log rfl id) (.ite ((raise_evolves ..).after (.of_log rfl id)) (.refl s))

theorem useLogs_evolves (x : LogSettings) (c : Word) (s : State) : Evolves [] s (useLogs x c s) :=
  (readIndex_evolves ..).after (.of_reads rfl)

theorem applied_evolves (sec : Sec) (e : Word) (cs : List Clamp) {effect : State → State}
    (h : ∀ s, Evolves [] s (effect s)) (s : State) : Evolves [] s (applied sec e cs effect s) :=
  (h _).after ((handLogs_evolves ..).after (.of_survey rfl rfl rfl rfl))

theorem refuseSection_evolves (sec : Sec) (e : Word) (r : RefuseReason) (s : State) :
    Evolves [] s (refuseSection sec e r s) := (raise_evolves ..).after (.of_survey rfl rfl rfl rfl)

theorem settle_evolves {α : Type} (sec : Sec) (e : Word) (p : Parsed α) {effect : α → State → State}
    (h : ∀ v cs, p = .ok v cs → ∀ s, Evolves [] s (effect v s)) (s : State) :
    Evolves [] s (settle sec e p effect s) := by
  cases p
  case ok v cs => exact applied_evolves sec e cs (h v cs rfl) s
  case refused r => exact refuseSection_evolves ..

theorem clamped_le (v lo : Nat) {hi : Nat} (h : lo ≤ hi) : clamped v lo hi ≤ hi := by
  unfold clamped
  split_ifs <;> omega

/-- A good section 1 has its target within its range (R107). -/
theorem parseStation_target {bs : List Byte} {x : Station} {cs : List Clamp} (h : parseStation bs = .ok x cs) :
    x.target ≤ 1920000 := by
  unfold parseStation at h
  split_ifs at h
  injection h with hx
  rw [← hx]
  exact clamped_le _ _ (Nat.zero_le _)

theorem takeSection_evolves (attach : Bool) (sec : Sec) (e : Word) (bs : List Byte) (s : State) :
    Evolves [] s (takeSection attach sec e bs s) := by
  cases sec
  case station => exact settle_evolves _ _ _ (fun v cs hv => useStation_evolves (parseStation_target hv)) s
  case anchor => exact settle_evolves _ _ _ (fun v _ _ => useAnchor_evolves attach v) s
  case policy =>
    exact .ite (.of_survey rfl rfl rfl rfl) (settle_evolves _ _ _ (fun v _ _ => usePolicy_evolves v) s)
  case callers => exact settle_evolves _ _ _ (fun v _ _ => useCallers_evolves v) s
  case logs => exact settle_evolves _ _ _ (fun v _ _ => useLogs_evolves v _) s
  case slots => exact .refl s

theorem cbRead_evolves (s : State) : Evolves [] s (cbRead s) := raise_evolves _ s

theorem failSection_evolves (sec : Sec) (s : State) : Evolves [] s (failSection sec s) :=
  (cbRead_evolves s).trans (.of_survey rfl rfl rfl rfl)

theorem slotsTaken_evolves (e : Word) (bs : List Byte) (s : State) : Evolves [] s (slotsTaken e bs s) :=
  (takePosted_evolves ..).after (.of_survey rfl rfl rfl rfl)

/-! ## The part state -/

namespace Evolves

variable {s t : State}

/-- Where only what follows the part state differs, all but the part state is kept. -/
theorem of_part (h : t.reads = { s.reads with
      survey := t.reads.survey, monitor := t.reads.monitor, walking := t.reads.walking, decks := t.reads.decks }) :
    Evolves [.survey, .part] s t := by
  refine ⟨?_⟩
  rintro (_ | _ | _ | _ | _ | _ | _) hx
  case survey | part => exact absurd hx (by simp)
  all_goals exact fun k => by apply k.of_reads <;> rw [h]

/-- The part state is seen to apart from the rest. -/
theorem with_part (h : Evolves [.survey, .part] s t) (hp : PartStateFits s → PartStateFits t) :
    Evolves [.survey] s t := by
  refine ⟨fun a ha => ?_⟩
  by_cases hap : a = .part
  · subst hap
    exact hp
  · exact h.keeps a (by simp_all)

theorem opened (h : Evolves [] s t) : Evolves [.survey, .part] s t := h.mono (by simp)

theorem running (h : Evolves [] s t) : t.running = s.running := running_congr h.survey_state

end Evolves

/-- The survey unit changes its part state and what it reads together. -/
theorem PartStateFits.withSurvey {s : State} (h : PartStateFits s) {v : Survey} (hphase : v.phase.fits v.state = true)
    (hfrom : v.cameFrom.parked = true)
    (hprog : (v.state = .running ∨ v.state = .detached) ↔ s.onProgramme = true)
    (hwalk : s.walker.walking = true → v.state = .running) : PartStateFits { s with survey := v } := by
  have hp : ({ s with survey := v } : State).onProgramme = s.onProgramme := by
    rw [Bool.eq_iff_iff, ← hprog]
    simp [State.onProgramme]
  refine ⟨hphase, hfrom, ?_, ?_, fun hw => ?_, ?_, ?_⟩
  · rw [hp]; exact h.monitor
  · rw [hp]; exact h.rescue
  · simpa [State.running] using hwalk hw
  · rw [hp]; exact h.decks
  · rw [hp]; exact h.callers

/-- The survey unit goes on to another read in the part state in which it is. -/
theorem Evolves.of_phase {s : State} {v : Survey} (hs : v.state = s.survey.state)
    (hf : v.cameFrom = s.survey.cameFrom) (hb : v.cbBase = s.survey.cbBase)
    (hp : s.survey.phase.fits s.survey.state = true → v.phase.fits s.survey.state = true) :
    Evolves [.survey] s { s with survey := v } :=
  Evolves.with_part (.of_part (by simp only [State.reads, hb])) fun h =>
    h.withSurvey (by rw [hs]; exact hp h.phase) (by rw [hf]; exact h.cameFrom)
      (by rw [hs]; simp [State.onProgramme]) fun hw => by rw [hs]; simpa [State.running] using h.walks hw

theorem fits_inPass {p : SurveyPhase} {st : PartState} (h : p.inPass = true) : p.fits st = true ↔ st = .running := by
  cases p <;> simp_all [SurveyPhase.inPass, SurveyPhase.fits]

/-- In a pass the part is in RUNNING. -/
theorem PartStateFits.inPass {s : State} (h : PartStateFits s) (hp : s.survey.phase.inPass = true) :
    s.survey.state = .running := (fits_inPass hp).1 h.phase

/-! ## Survey passes (R7, R11, R12) -/

theorem finishPass_evolves {s : State} (hp : s.survey.phase.inPass = true) : Evolves [.survey] s (finishPass s) := by
  have hidle : s.survey.phase.fits s.survey.state = true → SurveyPhase.idle.fits s.survey.state = true := fun h => by
    rw [(fits_inPass hp).1 h]
    rfl
  exact .ite (.of_phase rfl rfl rfl hidle) (.of_phase rfl rfl rfl hidle)

theorem goOn_evolves (rest : List Sec) {s : State} (hp : s.survey.phase.inPass = true) :
    Evolves [.survey] s (goOn rest s) := by
  have hnext : ∀ p : SurveyPhase, p.inPass = true → Evolves [.survey] s (s.setPhase p) := fun p hin =>
    .of_phase rfl rfl rfl fun h => (fits_inPass hin).2 ((fits_inPass hp).1 h)
  cases rest
  case cons x xs => exact hnext _ rfl
  case nil => exact .ite (hnext _ rfl) (finishPass_evolves hp)

/-! ## DETACHED (R7, R8) -/

theorem enterDetached_evolves_open (s : State) : Evolves [.survey, .part] s (enterDetached s) := by
  have h1 : Evolves [.survey, .part] s (stopWalker s) := (stopWalker_evolves s).opened
  have h2 : Evolves [.survey, .part] (stopWalker s) { stopWalker s with log := (stopWalker s).log.flush } :=
    Evolves.opened (.of_log rfl fun _ => flush_bounded _)
  exact (h1.trans h2).trans (.of_part rfl)

theorem enterDetached_fits {s : State} (h : PartStateFits s) (hr : s.survey.state = .running) :
    PartStateFits (enterDetached s) := by
  have h1 : PartStateFits (stopWalker s) := (stopWalker_evolves s).keeps .part (by simp) h
  have hstate : (stopWalker s).survey.state = .running := (stopWalker_evolves s).survey_state.trans hr
  have h2 : PartStateFits { stopWalker s with survey := { (stopWalker s).survey with
      state := .detached, cause := .readFailed, phase := .idle, retryCount := 0 } } :=
    h1.withSurvey rfl h1.cameFrom (by simp [State.onProgramme, hstate])
      (fun hw => by rw [(stopWalker_stops s).1] at hw; cases hw)
  exact h2.of_reads rfl rfl rfl rfl rfl

theorem headerFailed_evolves {s : State} (hp : s.survey.phase.inPass = true) : Evolves [.survey] s (headerFailed s) := by
  unfold headerFailed
  extract_lets n s1 v s2
  have h1 : Evolves [] s s1 := .ite (cbRead_evolves s) (.refl s)
  have hin : s1.survey.phase.inPass = true := by rw [h1.survey_phase]; exact hp
  have h2 : Evolves [.survey] s1 s2 := .of_phase rfl rfl rfl fun h => by
    rw [(fits_inPass hin).1 h]
    rfl
  have h : Evolves [.survey] s s2 := (h1.mono (by simp)).trans h2
  refine .ite (Evolves.with_part ((h.mono (by simp)).trans (enterDetached_evolves_open s2)) fun hfit => ?_) h
  exact enterDetached_fits (h.keeps .part (by simp) hfit) ((h1.survey_state).trans (hfit.inPass hp))

theorem editionRead_evolves (e : Word) {s : State} (hp : s.survey.phase.inPass = true) :
    Evolves [.survey] s (editionRead e s) := by
  unfold editionRead
  dsimp only
  split
  · have h1 : Evolves [.survey] s { s with survey := { s.survey with
        phase := .table, pass := { s.survey.pass with edition := e, changed := e != s.survey.lastSeen } } } :=
      .of_phase rfl rfl rfl fun h => (fits_inPass rfl).2 ((fits_inPass hp).1 h)
    exact h1.trans (Evolves.mono (.of_walker .inl) (by simp))
  · exact .of_phase rfl rfl rfl fun h => by
      rw [(fits_inPass hp).1 h]
      rfl

theorem tableRead_evolves (bs : List Byte) {s : State} (hp : s.survey.phase.inPass = true) :
    Evolves [.survey] s (tableRead bs s) := by
  unfold tableRead
  dsimp only
  split
  · have h1 : Evolves [] s (headerGood { s with survey := { s.survey with
        pass := { s.survey.pass with table := editionTable bs } } }) := .of_survey rfl rfl rfl rfl
    exact (h1.mono (by simp)).trans (goOn_evolves _ hp)
  · exact headerFailed_evolves hp

theorem retryRead_evolves (r : ReadResult) {s : State} (hp : s.survey.phase = .retryHeader) :
    Evolves [.survey] s (retryRead r s) := by
  have hidle : Evolves [.survey] s (s.setPhase .idle) := .of_phase rfl rfl rfl fun h => by
    rw [hp] at h
    simp only [SurveyPhase.fits, beq_iff_eq] at h
    rw [h]
    rfl
  unfold retryRead
  split
  · exact hidle
  · exact .ite (.of_phase rfl rfl rfl fun h => by rw [hp] at h; exact h) hidle

theorem headerReadDone_evolves (r : ReadResult) (s : State) : Evolves [.survey] s (headerReadDone r s) := by
  unfold headerReadDone
  split
  · rename_i hp
    have hin : s.survey.phase.inPass = true := by rw [hp]; rfl
    split
    · exact headerFailed_evolves hin
    · exact editionRead_evolves _ hin
  · rename_i hp
    have hin : s.survey.phase.inPass = true := by rw [hp]; rfl
    split
    · exact headerFailed_evolves hin
    · exact tableRead_evolves _ hin
  · rename_i hp
    exact retryRead_evolves r hp
  all_goals exact (Evolves.refl s).mono (by simp)

theorem sectionReadDone_evolves (r : ReadResult) (s : State) : Evolves [.survey] s (sectionReadDone r s) := by
  unfold sectionReadDone
  split
  · rename_i sec rest hp
    have hgo : ∀ {u}, Evolves [] s u → Evolves [.survey] s (goOn rest u) := fun {u} hu =>
      (hu.mono (by simp)).trans (goOn_evolves rest (by rw [hu.survey_phase, hp]; rfl))
    split
    · exact hgo (failSection_evolves ..)
    · exact hgo (takeSection_evolves ..)
  all_goals exact (Evolves.refl s).mono (by simp)

theorem slotsReadDone_evolves (r : ReadResult) (s : State) : Evolves [.survey] s (slotsReadDone r s) := by
  unfold slotsReadDone
  split
  · rename_i hp
    have hfinish : ∀ {u}, Evolves [] s u → Evolves [.survey] s (finishPass u) := fun {u} hu =>
      (hu.mono (by simp)).trans (finishPass_evolves (by rw [hu.survey_phase, hp]; rfl))
    split
    · exact hfinish ((cbRead_evolves s).trans (.of_survey rfl rfl rfl rfl))
    · exact hfinish (slotsTaken_evolves ..)
  · exact (Evolves.refl s).mono (by simp)

/-! ## Attach and re-attach (R4, R8) -/

theorem attachEnds_evolves (c : Cause) {s : State} (hp : s.survey.phase = .attachHeader false) :
    Evolves [.survey] s (attachEnds c s) := by
  refine Evolves.with_part (.of_part rfl) fun h => ?_
  have hattach : s.survey.state = .attaching := by simpa [hp, SurveyPhase.fits] using h.phase
  have hparked := h.cameFrom
  refine h.withSurvey ?_ hparked ?_ fun hw => ?_
  · show SurveyPhase.idle.fits s.survey.cameFrom = true
    cases hc : s.survey.cameFrom <;> simp_all [SurveyPhase.fits, PartState.parked]
  · cases hc : s.survey.cameFrom <;> simp_all [State.onProgramme, PartState.parked]
  · have := h.walks hw
    simp [State.running, hattach] at this

/-- A re-attach ends or goes on in DETACHED. -/
theorem reattachEnds_evolves {s : State} (hp : s.survey.phase = .attachHeader true) :
    Evolves [.survey] s (reattachEnds s) :=
  .of_phase rfl rfl rfl fun h => by
    rw [hp] at h
    simp only [SurveyPhase.fits, beq_iff_eq] at h
    rw [h]
    rfl

theorem attachBegins_evolves (re : Bool) (bs : List Byte) {s : State} (hp : s.survey.phase = .attachHeader re) :
    Evolves [.survey] s (attachBegins re bs s) :=
  .of_phase rfl rfl rfl fun h => by
    rw [hp] at h
    cases re <;> exact h

theorem attachHeaderReadDone_evolves (r : ReadResult) (s : State) :
    Evolves [.survey] s (attachHeaderReadDone r s) := by
  unfold attachHeaderReadDone
  split
  · rename_i re hp
    have hend : ∀ c u, Evolves [] s u →
        Evolves [.survey] s (if re then reattachEnds u else attachEnds c u) := fun c u hu => by
      refine (hu.mono (by simp)).trans ?_
      have hphase := hu.survey_phase.trans hp
      cases re
      · exact attachEnds_evolves c hphase
      · exact reattachEnds_evolves hphase
    split
    · exact hend .readFailed _ (cbRead_evolves s)
    · exact .ite (hend .badSignature s (.refl s)) (.ite (hend .badVersion s (.refl s)) (attachBegins_evolves re _ hp))
  all_goals exact (Evolves.refl s).mono (by simp)

theorem attachLoad_evolves (re : Bool) (s : State) : Evolves [] s (attachLoad re s) :=
  .ite (.ite (.refl s) (beginLoad_evolves ..)) (beginLoad_evolves ..)

theorem attachSlots_evolves (r : ReadResult) (s : State) : Evolves [] s (attachSlots r s) := by
  unfold attachSlots
  split
  · exact slotsTaken_evolves ..
  · exact (cbRead_evolves s).trans (.of_survey rfl rfl rfl rfl)

/-- The state in which the part enters RUNNING, before the work that follows. -/
def entered (re : Bool) (s : State) : State :=
  let s1 := { s with
    survey := { s.survey.retryResults with state := .running, cause := .none, phase := .idle, failedReads := 0 }
    delay := { s.delay with made := s.delay.made || !re }
    decks := { s.decks with deck := s.decks.deck.map (fun k => { k with writes := freeWrites k.writes }) }
    mirror := { s.mirror with due := true } }
  if re then s1 else monitorStarts s1

theorem retryResults_cameFrom (v : Survey) : v.retryResults.cameFrom = v.cameFrom := by rw [retryResults_only]

theorem retryResults_cbBase (v : Survey) : v.retryResults.cbBase = v.cbBase := by rw [retryResults_only]

theorem entered_evolves (re : Bool) {sec : Sec} {rest : List Sec} {s : State}
    (hp : s.survey.phase = .attachSect re sec rest) : Evolves [.survey] s (entered re s) := by
  have hdelay : Evolves [.survey, .part] s { s with delay := { s.delay with made := s.delay.made || !re } } :=
    Evolves.opened (.of_line fun _ h => ⟨h.capacity, h.bypass, h.fraction⟩)
  have hbase := retryResults_cbBase s.survey
  cases re
  case false =>
    refine Evolves.with_part (hdelay.trans (.of_part ?_)) fun h => ?_
    · simp only [State.reads, entered, monitorStarts, hbase]
      rfl
    · have hattach : s.survey.state = .attaching := by simpa [hp, SurveyPhase.fits] using h.phase
      have hoff : s.onProgramme = false := by simp [State.onProgramme, hattach]
      refine ⟨rfl, ?_, ?_, fun _ => rfl, fun _ => rfl, fun _ _ => rfl, fun _ => rfl⟩
      · show s.survey.retryResults.cameFrom.parked = true
        rw [retryResults_cameFrom]
        exact h.cameFrom
      · exact iff_of_false (by simp [entered, monitorStarts]) (by simp [entered, monitorStarts, State.onProgramme])
  case true =>
    refine Evolves.with_part (hdelay.trans (.of_part ?_)) fun h => ?_
    · simp only [State.reads, entered, hbase]
      rfl
    · have hdetached : s.survey.state = .detached := by simpa [hp, SurveyPhase.fits] using h.phase
      have hv : PartStateFits { s with survey := { s.survey.retryResults with
          state := .running, cause := .none, phase := .idle, failedReads := 0 } } :=
        h.withSurvey rfl (by rw [← h.cameFrom]; exact congrArg PartState.parked (retryResults_cameFrom _))
          (by simp [State.onProgramme, hdetached]) fun _ => rfl
      exact hv.of_reads rfl rfl rfl rfl rfl

theorem enterRunning_evolves (re : Bool) (slots : ReadResult) {sec : Sec} {rest : List Sec} {s : State}
    (hp : s.survey.phase = .attachSect re sec rest) : Evolves [.survey] s (enterRunning re slots s) := by
  have hrest : Evolves [] (entered re s) (enterRunning re slots s) :=
    (handLog_evolves ..).after ((attachSlots_evolves ..).after ((attachLoad_evolves ..).after (noteDemand_evolves _)))
  exact (entered_evolves re hp).trans (hrest.mono (by simp))

theorem attachOn_evolves (re : Bool) (rest : List Sec) (slots : ReadResult) {sec : Sec} {old : List Sec} {s : State}
    (hp : s.survey.phase = .attachSect re sec old) : Evolves [.survey] s (attachOn re rest slots s) := by
  cases rest
  case nil => exact enterRunning_evolves re slots hp
  case cons x xs =>
    exact .of_phase rfl rfl rfl fun h => by
      rw [hp] at h
      cases re <;> exact h

theorem attachSectionReadDone_evolves (r slots : ReadResult) (s : State) :
    Evolves [.survey] s (attachSectionReadDone r slots s) := by
  unfold attachSectionReadDone
  split
  · rename_i re sec rest hp
    have hon : ∀ {u}, Evolves [] s u → Evolves [.survey] s (attachOn re rest slots u) := fun {u} hu =>
      (hu.mono (by simp)).trans (attachOn_evolves re rest slots (hu.survey_phase.trans hp))
    split
    · exact hon (failSection_evolves ..)
    · exact hon (takeSection_evolves ..)
  all_goals exact (Evolves.refl s).mono (by simp)

/-! ## START (R3) -/

/-- Outside the programme no line is on air, so the default conference limit holds (R74, R84). -/
theorem defaultCopies_evolves (s : State) : Evolves [.callers] s (defaultCopies s) := by
  have h1 : Evolves [] s (putStation Station.default s) := putStation_evolves (by decide) s
  have h2 : Evolves [] s (if (putStation Station.default s).sections.locked then putStation Station.default s
      else usePolicy AlertSettings.default (putStation Station.default s)) :=
    .ite h1 (h1.trans (usePolicy_evolves ..))
  refine (h2.mono (by simp)).trans ⟨?_⟩
  rintro (_ | _ | _ | _ | _ | _ | _) hx
  case survey => rfl
  case callers => exact absurd (List.mem_singleton_self _) hx
  all_goals exact fun k => by apply k.of_reads <;> rfl

theorem defaultCopies_callers (s : State) : (defaultCopies s).callers = s.callers := by
  unfold defaultCopies
  dsimp only
  rw [putStation_only]
  split <;> rfl

theorem startAttach_evolves {s : State} (hparked : s.survey.state.parked = true) :
    Evolves [.survey, .callers] s (startAttach s) := by
  have h1 : Evolves [.survey] s { s with survey := { s.survey with
      state := .attaching, cameFrom := s.survey.state, refused := none, phase := .attachHeader false } } := by
    refine Evolves.with_part (.of_part rfl) fun h => h.withSurvey rfl hparked ?_ fun hw => ?_
    · cases hs : s.survey.state <;> simp_all [State.onProgramme, PartState.parked]
    · have := h.walks hw
      cases hs : s.survey.state <;> simp_all [State.running, PartState.parked]
  exact (h1.mono (by simp)).trans ((defaultCopies_evolves _).mono (by simp))

/-- A parked part has no line on air, so START keeps the callers. -/
theorem startAttach_callers {s : State} (hparked : s.survey.state.parked = true) (hp : PartStateFits s)
    (h : CallersFit s) : CallersFit (startAttach s) := by
  have hcallers : (startAttach s).callers = s.callers := defaultCopies_callers _
  have hnone : s.callers.onAir = [] := by
    by_contra hne
    have := hp.callers hne
    cases hs : s.survey.state <;> simp_all [State.onProgramme, PartState.parked]
  refine ⟨?_, fun n => ?_, ?_, fun n => ?_, ?_⟩
  · rw [hcallers]; exact h.queueOnce
  · rw [hcallers, State.line, hcallers]; exact h.queueHolds n
  · rw [hcallers]; exact h.airOnce
  · rw [hcallers, State.line, hcallers]; exact h.airHolds n
  · rw [hcallers, hnone]; exact Nat.zero_le _

end Sys2Proof.Machine


/-! # HALT, resets, the block boundary, and every command: what a step keeps -/

namespace Sys2Proof.Machine

open Sys2Proof

/-! ## HALT (R5) -/

theorem freshWrites_evolves (s : State) : Evolves [] s (freshWrites s) := .of_reads rfl

theorem giveUpSurvey_evolves (s : State) : Evolves [.survey, .part] s (giveUpSurvey s) := by
  unfold giveUpSurvey
  split
  · exact (Evolves.refl s).opened
  · exact (giveUp_evolves _ true s).opened.trans (.of_part rfl)

theorem enterHalted_evolves (s : State) : Evolves [.survey, .part] s (enterHalted s) := by
  have h1 : Evolves [.survey, .part] s { s with log := s.log.flush } :=
    Evolves.opened (.of_log rfl fun _ => flush_bounded _)
  exact h1.trans (.of_part rfl)

theorem monitorHalts_evolves (s : State) : Evolves [.survey, .part] s (monitorHalts s) := .of_part rfl

theorem haltProgramme_evolves (a b : DeckWrites) (s : State) : Evolves [.survey, .part] s (haltProgramme a b s) := by
  have h1 : Evolves [] s (delayHalt (holdAll .halt (stopRunOut (abandonDeck .b .halt b (abandonDeck .a .halt a s))))) :=
    (delayHalt_evolves _).after ((holdAll_evolves ..).after ((stopRunOut_evolves _).after
      ((abandonDeck_evolves ..).after (abandonDeck_evolves ..))))
  have h2 := h1.opened.trans (monitorHalts_evolves _)
  exact h2.trans ((storeHalt_evolves _).after (stopWalker_evolves _)).opened

theorem halt_evolves_open (a b : DeckWrites) (s : State) : Evolves [.survey, .part] s (halt a b s) := by
  have h1 : Evolves [.survey, .part] s (freshWrites s) := (freshWrites_evolves s).opened
  have h2 : Evolves [.survey, .part] s (if s.onProgramme then haltProgramme a b (freshWrites s) else freshWrites s) :=
    .ite (h1.trans (haltProgramme_evolves ..)) h1
  exact (h2.trans (giveUpSurvey_evolves _)).trans (enterHalted_evolves _)

/-- Nothing of the programme is left: what PartStateFits asks of a part state without it. -/
structure Stopped (s : State) : Prop where
  monitor : s.monitor.state = .inactive
  rescue : s.monitor.rescue = false
  walking : s.walker.walking = false
  decks : ∀ d, (s.deck d).state = .empty
  callers : s.callers.onAir = []

theorem PartStateFits.stopped {s : State} (h : PartStateFits s) (hoff : s.onProgramme = false) : Stopped s := by
  have hno : ¬ s.onProgramme = true := by simp [hoff]
  refine ⟨h.monitor.2 hoff, ?_, ?_, fun d => ?_, ?_⟩
  · exact Bool.eq_false_iff.2 fun hr => hno (h.rescue hr)
  · exact Bool.eq_false_iff.2 fun hw => hno (onProgramme_of_running (h.walks hw))
  · by_contra hd
    exact hno (h.decks d hd)
  · by_contra hc
    exact hno (h.callers hc)

theorem stopWalker_reads (s : State) : (stopWalker s).reads = { s.reads with walking := false } := by
  have hw : (stopWalker s).reads.walking = false := (stopWalker_stops s).1
  rw [stopWalker_only] at hw ⊢
  simp only [State.reads] at hw ⊢
  rw [hw]

theorem storeHalt_reads (s : State) : (storeHalt s).reads = s.reads := by
  unfold storeHalt
  split
  · dsimp only [silenceReaders]
    rw [abandonLoad_only]
    rfl
  · rfl

/-- Every line on air is held, so none is left (R87). -/
theorem holdAll_onAir (c : CallerCause) (s : State) : (holdAll c s).callers.onAir = [] := by
  rw [holdAll_callers]
  exact List.filter_eq_nil_iff.2 fun n hn => by simpa using hn

theorem holdAll_decks (c : CallerCause) (s : State) : (holdAll c s).decks = s.decks := by
  unfold holdAll
  rw [holdGroup_only]

theorem stopRunOut_deck (s : State) (d : DeckId) : (stopRunOut s).deck d = s.deck d := by
  unfold stopRunOut
  split <;> rfl

theorem haltProgramme_stopped (a b : DeckWrites) (s : State) : Stopped (haltProgramme a b s) := by
  unfold haltProgramme
  extract_lets s1
  have hdecks : ∀ d, (s1.deck d).state = .empty := by
    intro d
    cases d
    · exact (congrArg Deck.state (abandonDeck_deck_other .b .halt b (abandonDeck .a .halt a s))).trans
        (abandonDeck_deck_self .a .halt a s).1
    · exact (abandonDeck_deck_self .b .halt b _).1
  let u := monitorHalts (delayHalt (holdAll .halt (stopRunOut s1)))
  have hreads : (storeHalt (stopWalker u)).reads = { u.reads with walking := false } := by
    rw [storeHalt_reads, stopWalker_reads]
  have hu : ∀ d, u.deck d = s1.deck d := fun d => by
    show (holdAll .halt (stopRunOut s1)).decks.deck.get d = _
    rw [holdAll_decks]
    exact stopRunOut_deck s1 d
  refine ⟨?_, ?_, ?_, fun d => ?_, ?_⟩
  · exact congrArg (fun r => r.monitor.1) hreads
  · exact congrArg (fun r => r.monitor.2) hreads
  · exact congrArg Reads.walking hreads
  · rw [← hdecks d, ← hu d]
    exact deck_states_of_reads (by rw [hreads]) d
  · rw [← holdAll_onAir .halt (stopRunOut s1)]
    exact congrArg (fun r => r.callers.2.1) hreads

theorem enterHalted_fits {s : State} (h : Stopped s) (hfrom : s.survey.cameFrom.parked = true) :
    PartStateFits (enterHalted s) := by
  obtain ⟨hmonitor, hrescue, hwalking, hdecks, hcallers⟩ := h
  have hoff : (enterHalted s).onProgramme = false := rfl
  refine ⟨rfl, hfrom, iff_of_true hmonitor hoff, fun hr => ?_, fun hw => ?_, fun d hd => ?_, fun hc => ?_⟩
  · rw [show (enterHalted s).monitor.rescue = false from hrescue] at hr
    cases hr
  · rw [show (enterHalted s).walker.walking = false from hwalking] at hw
    cases hw
  · exact absurd (hdecks d) hd
  · exact absurd hcallers hc

theorem Stopped.of_giveUpSurvey {s : State} (h : Stopped s) : Stopped (giveUpSurvey s) := by
  obtain ⟨hmonitor, hrescue, hwalking, hdecks, hcallers⟩ := h
  rw [(giveUpSurvey_eq s).1]
  exact ⟨hmonitor, hrescue, hwalking, hdecks, hcallers⟩

theorem haltProgramme_cameFrom (a b : DeckWrites) (s : State) :
    (haltProgramme a b s).survey.cameFrom = s.survey.cameFrom := by
  unfold haltProgramme
  extract_lets s1
  have h1 : Evolves [] s (delayHalt (holdAll .halt (stopRunOut s1))) :=
    (delayHalt_evolves _).after ((holdAll_evolves ..).after ((stopRunOut_evolves _).after
      ((abandonDeck_evolves ..).after (abandonDeck_evolves ..))))
  have h2 : (storeHalt (stopWalker (monitorHalts (delayHalt (holdAll .halt (stopRunOut s1)))))).reads.survey =
      (delayHalt (holdAll .halt (stopRunOut s1))).reads.survey := by
    rw [storeHalt_reads, stopWalker_reads]
    rfl
  exact congrArg (fun x => x.2.2) (h2.trans (h1.keeps .survey (by simp)))

theorem halt_evolves (a b : DeckWrites) (s : State) : Evolves [.survey] s (halt a b s) := by
  refine (halt_evolves_open a b s).with_part fun h => ?_
  unfold halt
  extract_lets s1
  split
  · refine enterHalted_fits (haltProgramme_stopped a b s1).of_giveUpSurvey ?_
    rw [(giveUpSurvey_eq _).1]
    show (haltProgramme a b s1).survey.cameFrom.parked = true
    rw [haltProgramme_cameFrom]
    exact h.cameFrom
  · rename_i hoff
    have hs1 : PartStateFits s1 := (freshWrites_evolves s).keeps .part (by simp) h
    refine enterHalted_fits (hs1.stopped (Bool.eq_false_iff.2 hoff)).of_giveUpSurvey ?_
    rw [(giveUpSurvey_eq _).1]
    exact h.cameFrom

/-! ## Resets (R9, R10) -/

theorem resetDecks_evolves (a b : DeckWrites) (s : State) : Evolves [] s (resetDecks a b s) :=
  (stopRunOut_evolves _).after (.ite ((abandonDeck_evolves ..).after (abandonDeck_evolves ..))
    ((dropDeck_evolves ..).after (dropDeck_evolves ..)))

theorem programmeReset_evolves (a b : DeckWrites) (s : State) : Evolves [] s (programmeReset a b s) :=
  (handLog_evolves ..).after ((noteDemand_evolves _).after ((monitorReset_evolves _).after ((holdAll_evolves ..).after
    ((delayReset_evolves _).after ((setHead_evolves ..).after
      ((resetDecks_evolves ..).after (freshWrites_evolves s)))))))

/-! ## The block boundary (R26) -/

theorem completeRecordings_evolves (s : State) : Evolves [] s (completeRecordings s) := by
  unfold completeRecordings
  generalize places8 = l
  induction l generalizing s with
  | nil => exact .refl s
  | cons n l ih => exact (recordBlock_evolves n s).trans (ih _)

theorem completeBlock_evolves (s : State) : Evolves [] s (completeBlock s) := by
  have h1 : Evolves [] s (completeRecordings (completeAudio s)) :=
    (completeRecordings_evolves _).after (.of_reads rfl)
  have h2 := (h1.trans (noteLinkDown_evolves _)).trans (noteNoFill_evolves _)
  have h3 := h2.trans (airing_blockEnds_evolves _)
  refine h3.trans (Evolves.of_monitor ?_ ?_)
  · rw [(judge_state _ _).1]
  · rw [(judge_state _ _).2]
    exact .inl

theorem stepRamps_evolves (s : State) : Evolves [] s (stepRamps s) := by
  have h1 : Evolves [] s { s with airing := { s.airing with gain := s.airing.gain.tick } } := .of_reads rfl
  exact h1.trans (.of_reads rfl)

theorem logBegins_evolves (s : State) : Evolves [] s (logBegins s) := by
  have h1 : Evolves [] s (noticeBegins s) := .of_log rfl id
  have h2 : Evolves [] s { noticeBegins s with log := { (noticeBegins s).log with
      gapFailed := (noticeBegins s).log.gapFailed && !(noticeBegins s).running } } := h1.trans (.of_log rfl id)
  exact .ite h2 (h2.trans (pumpLog_evolves _))

theorem surveyBegins_evolves (s : State) : Evolves [] s (surveyBegins s) := .of_reads rfl

theorem takeInput_evolves (i : BlockInput) (s : State) : Evolves [] s (takeInput i s) := by
  have h1 : Evolves [] s { s with gpi := sampleLines s.time s.sections.station.gpi i.gpi s.gpi } :=
    .of_gpi fun h => sampleLines_count_le _ _ _ h
  exact h1.trans (.of_reads rfl)

theorem link_blockBegins_evolves (f : AirFlags) (s : State) :
    Evolves [] s { s with link := s.link.blockBegins f } := by
  refine .of_link fun h => ⟨h.1, fun p => ?_⟩
  simp [Link.blockBegins, Port.blockBegins]

theorem unitsBegin_evolves (f : AirFlags) (s : State) : Evolves [] s (unitsBegin f s) := by
  have h1 : Evolves [] s { s with clock := { s.clock with trim := s.sections.station.trim } } := .of_reads rfl
  have h2 := h1.trans (callers_blockBegins_evolves s.sections.callers.holdGain _)
  have h3 := h2.trans (delay_blockBegins_evolves _)
  have h4 := h3.trans (settled_evolves _)
  have h5 := h4.trans (airing_fadeBegins_evolves _)
  exact h5.trans (link_blockBegins_evolves f _)

theorem noteStarts_evolves (s : State) : Evolves [] s (noteStarts s) := by
  have h1 : Evolves [] s { s with time := s.beginsAt } := .of_reads rfl
  have h2 := (h1.trans (noteOwed_evolves .a _)).trans (noteOwed_evolves .b _)
  exact h2.trans (.of_reads rfl)

theorem switchBegins_evolves (s : State) : Evolves [] s (switchBegins s) :=
  (arbitrate_evolves _).after (.of_reads rfl)

theorem beginBlock_evolves (i : BlockInput) (f : AirFlags) (s : State) : Evolves [] s (beginBlock i f s) := by
  have h1 := ((stepRamps_evolves s).trans (runOutBegins_evolves _)).trans (readerBegins_evolves _)
  have h2 := ((h1.trans (walkerBlockBegins_evolves _)).trans (surveyBegins_evolves _)).trans (logBegins_evolves _)
  have h3 := (h2.trans (takeInput_evolves i _)).trans (unitsBegin_evolves f _)
  exact ((h3.trans (noteStarts_evolves _)).trans (workOutHold_evolves _)).trans (switchBegins_evolves _)

theorem blockBoundary_evolves (i : BlockInput) (s : State) :
    Evolves [] s (beginBlock i s.airBlockNow.flags (advanceTime (completeBlock s))) := by
  have h1 : Evolves [] s (advanceTime (completeBlock s)) := (completeBlock_evolves s).trans (.of_reads rfl)
  exact h1.trans (beginBlock_evolves ..)

/-! ## Every command -/

/-- What a command keeps. START alone needs the part state for the callers: it takes the conference limit back to its
default, which no line on air may pass. -/
structure Keeps (s t : State) : Prop where
  part : PartStateFits s → PartStateFits t
  callers : PartStateFits s → CallersFit s → CallersFit t
  alerts : AlertsFit s → AlertsFit t
  delay : DelayFits s → DelayFits t
  bounds : BoundsFit s → BoundsFit t

/-- A command's outcome keeps the invariants. -/
def OutKeeps (s : State) : Out → Prop
  | .next t => Keeps s t
  | _ => True

namespace Evolves

variable {s t u : State}

theorem keeps_all (h : Evolves [.survey] s t) : Keeps s t :=
  ⟨h.keeps .part (by simp), fun _ => h.keeps .callers (by simp), h.keeps .alerts (by simp), h.keeps .delay (by simp),
    h.keeps .bounds (by simp)⟩

theorem out (h : Evolves [] s t) : OutKeeps s (.next t) := (h.mono (by simp)).keeps_all

theorem outSurvey (h : Evolves [.survey] s t) : OutKeeps s (.next t) := h.keeps_all

/-- The switch alone changes, and follows the alert source. -/
theorem of_now (h : t.reads = { s.reads with now := t.reads.now })
    (hn : t.air.now = .alert ↔ s.airing.state.present = true) : Evolves [] s t := by
  refine ⟨?_⟩
  rintro (_ | _ | _ | _ | _ | _ | _) -
  case survey => exact (congrArg Reads.survey h :)
  case alerts =>
    intro k
    have ht : t.reads.table = s.reads.table := (congrArg Reads.table h :)
    have hs : t.airing.state = s.airing.state := congrArg (fun x => x.2.2.1) ht
    exact (alertsFit_iff t).2 ⟨((alertsFit_iff s).1 k).1.of_reads ht, by rw [hs]; exact hn⟩
  all_goals exact fun k => by apply k.of_reads <;> rw [h]

/-- A command acts when its condition holds, and is ignored else. -/
theorem outWhen {b : Prop} [Decidable b] (h : b → Evolves [] s t) : OutKeeps s (.next (if b then t else s)) := by
  refine out ?_
  split
  · rename_i hb
    exact h hb
  · exact .refl s

theorem outUnless {b : Prop} [Decidable b] (h : ¬b → Evolves [] s t) : OutKeeps s (.next (if b then s else t)) := by
  refine out ?_
  split
  · exact .refl s
  · rename_i hb
    exact h hb

end Evolves

theorem onRead_keeps (u : BusUser) {s : State} {f : State → State} (h : Evolves [.survey] s (f s)) :
    OutKeeps s (.next (onRead u s f)) := by
  refine Evolves.outSurvey ?_
  unfold onRead
  split
  · exact Evolves.mono (F := []) (.of_reads rfl) (by simp)
  · exact h

theorem takeAlone_keeps (r : Request) {owner : State → ResultCode × State} {s : State}
    (h : Evolves [] s (owner s).2) : OutKeeps s (takeAlone r owner s) := (takeAlone_evolves r h).out

/-! ### Commands whose bodies are not named -/

theorem execFrameSent_keeps (p : PortId) (s : State) : OutKeeps s (execFrameSent p s) := by
  refine Evolves.outWhen fun _ => ?_
  have h : Evolves [] s (s.setPort p { s.link.port.get p with sending := none }) := setPort_evolves p (.inr rfl)
  exact .ite (h.trans (considerSend_evolves ..)) h

theorem discardOldest_queue (s : State) : (discardOldest s).link.queue = s.link.queue.drop 1 := by
  unfold discardOldest
  dsimp only
  split
  · rw [raise_only]
  · rfl

/-- The completed air block joins the send queue, whose oldest has gone when it was full (R164). -/
theorem joinSend_evolves (b : AirBlock) {s u : State} (h : Evolves [] s u)
    (hq : BoundsFit s → u.link.queue.length < Config.sendQueue) :
    Evolves [] s { u with air := { u.air with block := none }, link := { u.link with queue := u.link.queue ++ [b] } } := by
  refine ⟨?_⟩
  intro a ha
  have h := h.keeps a ha
  cases a
  case survey => exact h
  case bounds =>
    intro k
    exact { h k with sendQueue := by simpa using hq k }
  all_goals exact fun k => by apply (h k).of_reads <;> rfl

theorem execProgrammeFrameFormed_keeps (s : State) : OutKeeps s (execProgrammeFrameFormed s) := by
  refine Evolves.out ?_
  split
  · exact .refl s
  · rename_i b _
    refine (considerSend_evolves ..).after (joinSend_evolves b ?_ fun k => ?_)
    · exact .ite (discardOldest_evolves s) (.refl s)
    · have := k.sendQueue
      split
      · rw [discardOldest_queue, List.length_drop]
        simp only [Config.sendQueue] at this ⊢
        omega
      · omega

theorem execFailover_keeps (s : State) : OutKeeps s (execFailover s) :=
  Evolves.outWhen fun _ => (workOutHold_evolves _).after ((clockPortChanged_evolves _).after
    ((raise_evolves ..).after (changePort_evolves ..)))

theorem execPendingLinkSwitch_keeps (s : State) : OutKeeps s (execPendingLinkSwitch s) := by
  refine Evolves.out ?_
  split
  · exact .refl s
  · exact .ite (.refl s) (.ite (portChange_evolves ..) (.of_link id))

theorem execHouseMarkMissing_keeps (now : Nat) (s : State) : OutKeeps s (execHouseMarkMissing now s) :=
  Evolves.outWhen fun _ => (badMark_evolves s).trans (.of_reads rfl)

theorem execLinkMarkMissing_keeps (now : Nat) (s : State) : OutKeeps s (execLinkMarkMissing now s) :=
  Evolves.outWhen fun _ => (badMark_evolves s).trans (.of_reads rfl)

theorem execClockSwitch_keeps (s : State) : OutKeeps s (execClockSwitch s) := by
  refine Evolves.out ?_
  split
  · exact .refl s
  · exact (logClock_evolves ..).after (.of_reads rfl)

theorem execSilenceTimeReached_keeps (s : State) : OutKeeps s (execSilenceTimeReached s) := by
  refine Evolves.outWhen fun hdead => ?_
  have h1 := silenceTimeReached_evolves hdead
  refine .ite (h1.trans (beginRescue_evolves ?_)) h1
  rw [raise_only]
  exact fun h => by cases h

theorem execRecovery_keeps (s : State) : OutKeeps s (execRecovery s) := by
  refine Evolves.outWhen fun hrecovers => ?_
  have hdead : s.monitor.state = .dead := by
    simp only [State.recovers, Bool.and_eq_true, beq_iff_eq] at hrecovers
    exact hrecovers.1
  extract_lets monitor s1
  have h1 : Evolves [] s s1 := recovery_evolves hdead
  split
  · rename_i hreturn
    refine h1.trans (.of_now rfl (iff_of_false (by simp) fun hp => ?_))
    rw [(topSource_eq_alert s1).2 hp] at hreturn
    cases hreturn.2.2
  · exact h1.trans (arbitrate_evolves s1)

theorem execRunOutStart_keeps (s : State) : OutKeeps s (execRunOutStart s) :=
  Evolves.outWhen fun _ => .of_reads rfl

theorem execFetchIssue_keeps (s : State) : OutKeeps s (execFetchIssue s) := by
  refine Evolves.out ?_
  split
  · exact issueFetch_evolves ..
  · exact .refl s

theorem execFetchReadDone_keeps (data : List Byte) (s : State) : OutKeeps s (execFetchReadDone data s) := by
  refine Evolves.out ?_
  split
  · exact .refl s
  · exact fetchReadDone_evolves data _ s

theorem execFetchReadFailed_keeps (s : State) : OutKeeps s (execFetchReadFailed s) := by
  refine Evolves.out ?_
  split
  · exact .refl s
  · rename_i r _
    dsimp only
    split
    · split
      · exact (idleEngine_evolves s).trans (deckFetchFailed_evolves ..)
      · exact (idleEngine_evolves s).trans (loadFailed_evolves ..)
    · exact idleEngine_evolves s

theorem execAlertTable_keeps (p : PortId) (s : State) :
    OutKeeps s (execAlertHeader p s) ∧ OutKeeps s (execAlertEndFrame p s) := by
  have htake : Evolves [] s (takeHanded p s) := setDecoder_evolves ..
  constructor <;> refine Evolves.out ?_ <;> split
  · exact .refl s
  · exact htake.trans (tableHeader_evolves ..)
  · exact .refl s
  · exact htake.trans (tableEnd_evolves ..)

theorem execRecordingEnd_keeps (n : EntryNo) (s : State) : OutKeeps s (execRecordingEnd n s) := by
  refine Evolves.outWhen fun h => ?_
  split
  · exact .refl s
  · exact endRecording_evolves _ _ _ h.1
  · exact endRecording_evolves _ _ _ h.1

theorem execRecordingFull_keeps (n : EntryNo) (s : State) : OutKeeps s (execRecordingFull n s) :=
  Evolves.outWhen fun h => .ite (endRecording_evolves _ _ _ h.1) (endRecording_evolves _ _ _ h.1)

theorem execAlertExpiry_keeps (n : EntryNo) (s : State) : OutKeeps s (execAlertExpiry n s) := by
  refine Evolves.outWhen fun h => expireEntry_evolves n ?_
  simp only [AlertEntry.expiresNow, Bool.and_eq_true] at h
  exact expires_ne_airing h.1.1

/-- An entry whose timer has passed is PENDING. -/
theorem timerPassed_pending {now : Time} {t : Option Time} {e : AlertEntry} (h : e.timerPassed now t = true) :
    e.state = .pending := by
  simp only [AlertEntry.timerPassed, Bool.and_eq_true, beq_iff_eq] at h
  exact h.1.1

theorem execHoldUntilPassed_keeps (n : EntryNo) (s : State) : OutKeeps s (execHoldUntilPassed n s) :=
  Evolves.outWhen fun h => enterQueued_evolves n _ (timerPassed_pending h)

theorem execManualDeadlinePassed_keeps (n : EntryNo) (s : State) : OutKeeps s (execManualDeadlinePassed n s) :=
  Evolves.outWhen fun h => (raise_evolves ..).after (enterQueued_evolves n _ (timerPassed_pending h))

theorem execAiringStart_keeps (s : State) : OutKeeps s (execAiringStart s) := by
  refine Evolves.outWhen fun h => checkAndStart_evolves ?_
  rcases h with h | h
  · rw [h]
    rfl
  · exact gapOver_idle h

theorem execToneEnd_keeps (s : State) : OutKeeps s (execToneEnd s) :=
  Evolves.outWhen fun h => .sameAiring rfl (by rw [h.1]; rfl) (by rw [h.1]; rfl)

/-! ### All of them -/

theorem fresh_keeps {s t : State} (h : t.reads = State.reset.reads) (hgood : Good State.reset) : Keeps s t :=
  ⟨fun _ => by apply hgood.part.of_reads <;> rw [h], fun _ _ => by apply hgood.callers.of_reads <;> rw [h],
    fun _ => by apply hgood.alerts.of_reads <;> rw [h], fun _ => by apply hgood.delay.of_reads <;> rw [h],
    fun _ => by apply hgood.bounds.of_reads <;> rw [h]⟩

theorem good_reset : Good State.reset := by
  have hentry : ∀ n, State.reset.entry n = AlertEntry.blank := fun n => by simp [State.entry, State.reset]
  have hline : ∀ n, State.reset.line n = Line.init := fun n => by simp [State.line, State.reset]
  have hdeck : ∀ d, State.reset.deck d = Deck.blank := fun d => by cases d <;> rfl
  refine ⟨⟨rfl, rfl, iff_of_true rfl rfl, ?rescue, ?walks, fun d hd => ?decks, fun hc => absurd rfl hc⟩,
    ⟨List.nodup_nil, fun n => ?queue, List.nodup_nil, fun n => ?air, Nat.zero_le _⟩,
    ⟨fun n => ?one, fun _ => rfl, ?some, ?onAir, List.nodup_nil, fun n => ?holds, fun m n _ _ => ?slots⟩,
    ⟨by decide, Nat.zero_le _, fun _ => rfl, by decide⟩,
    ⟨by decide, Nat.zero_le _, fun p => ?sent, Nat.zero_le _, fun n => ?count, by decide, fun _ => rfl, Nat.zero_le _⟩⟩
  case rescue => exact fun h => by cases h
  case walks => exact fun h => by cases h
  case decks => rw [hdeck] at hd; exact absurd rfl hd
  case queue => rw [hline]; exact iff_of_false List.not_mem_nil (by decide)
  case air => rw [hline]; exact iff_of_false List.not_mem_nil (by decide)
  case one => rw [hentry]; exact iff_of_false (by decide) fun h => by cases h.1
  case some => exact fun h => by cases h
  case onAir => exact iff_of_false (by decide) (by decide)
  case holds => rw [hentry]; exact iff_of_false List.not_mem_nil (by decide)
  case slots => rw [hentry]; rfl
  case sent => cases p <;> exact Nat.zero_le _
  case count => simp [State.reset, GpiLine.init]

theorem execStart_keeps (s : State) : OutKeeps s (execStart s) := by
  unfold execStart
  split
  · rename_i hparked
    split
    · exact Evolves.out (.of_survey rfl rfl rfl rfl)
    · have h := startAttach_evolves hparked
      exact ⟨h.keeps .part (by simp), fun hp hc => startAttach_callers hparked hp hc, h.keeps .alerts (by simp),
        h.keeps .delay (by simp), h.keeps .bounds (by simp)⟩
  · exact Evolves.out (.refl s)

theorem aligned_iff (a : Addr) : a &&& 0xFFF = 0 ↔ ∀ i, i < 12 → a.getLsbD i = false := by
  have hmask : ∀ i, (0xFFF : Addr).getLsbD i = decide (i < 12) := fun i => by
    have h : (0xFFF : Addr) = BitVec.setWidth 64 (BitVec.allOnes 12) := by decide
    rw [h, BitVec.getLsbD_setWidth, BitVec.getLsbD_allOnes]
    by_cases hi : i < 12
    · simp [hi]
      omega
    · simp [hi]
  constructor
  · intro h i hi
    have hbit : (a &&& 0xFFF).getLsbD i = false := by rw [h]; exact BitVec.getLsbD_zero
    rwa [BitVec.getLsbD_and, hmask, decide_eq_true hi, Bool.and_true] at hbit
  · intro h
    apply BitVec.eq_of_getLsbD_eq
    intro i _
    rw [BitVec.getLsbD_and, hmask]
    by_cases hi : i < 12
    · simp [h i hi]
    · simp [hi]

/-- The low 12 bits of CB_BASE stay zero (R1). -/
theorem writeBase_aligned (high : Bool) (v : Word) {a : Addr} (h : a &&& 0xFFF = 0) : writeBase high v a &&& 0xFFF = 0 := by
  rw [aligned_iff] at h ⊢
  intro i hi
  have hi32 : i < 32 := by omega
  unfold writeBase
  cases high
  · have hmask : ∀ j, j < 12 → (0xFFFFF000 : Word).getLsbD j = false := by decide
    show (BitVec.setWidth 32 (a >>> 32) ++ (v &&& 0xFFFFF000) : BitVec (32 + 32)).getLsbD i = false
    rw [BitVec.getLsbD_append, if_pos hi32, BitVec.getLsbD_and, hmask i hi, Bool.and_false]
  · show ((v : BitVec 32) ++ BitVec.setWidth 32 a : BitVec (32 + 32)).getLsbD i = false
    rw [BitVec.getLsbD_append, if_pos hi32, BitVec.getLsbD_setWidth, h i hi, Bool.and_false]

theorem execCbBaseWrite_keeps (high : Bool) (v : Word) (s : State) : OutKeeps s (execCbBaseWrite high v s) :=
  Evolves.outWhen fun _ => .of_bounds rfl fun k => { k with base := writeBase_aligned high v k.base }

theorem execSurveyPass_keeps (s : State) : OutKeeps s (execSurveyPass s) := by
  refine Evolves.outSurvey ?_
  split
  · rename_i h
    have hr : s.survey.state = .running := by
      simp only [Bool.and_eq_true, State.running, beq_iff_eq] at h
      exact h.1.1
    exact .of_phase rfl rfl rfl fun _ => by
      rw [hr]
      rfl
  · exact (Evolves.refl s).mono (by simp)

theorem execDetachedRetry_keeps (s : State) : OutKeeps s (execDetachedRetry s) := by
  refine Evolves.outSurvey ?_
  split
  · rename_i h
    exact .of_phase rfl rfl rfl fun _ => by
      rw [h.1]
      rfl
  · exact (Evolves.refl s).mono (by simp)

theorem execHalt_keeps (a b : DeckWrites) (s : State) : OutKeeps s (execHalt a b s) := by
  refine Evolves.outSurvey ?_
  split
  · exact (Evolves.refl s).mono (by simp)
  · exact halt_evolves a b s

theorem mirrorWriteDone_evolves (ok : Bool) (s : State) : Evolves [] s (mirrorWriteDone ok s) := by
  unfold mirrorWriteDone
  split
  · exact .refl s
  · split_ifs
    · exact (writeError_evolves ..).after (.of_reads rfl)
    all_goals exact .of_reads rfl

theorem execWalks_keep (s : State) : OutKeeps s (execWalkStart s) ∧ OutKeeps s (execWalkWaitExpired s) := by
  have hwalk : s.mayWalk = true → Evolves [] s (beginWalk s) := fun h => beginWalk_evolves (by
    simp only [State.mayWalk, Bool.and_eq_true] at h
    exact h.1.1.1)
  constructor <;> refine Evolves.outWhen fun h => hwalk ?_ <;> simp only [Bool.and_eq_true] at h
  · exact h.1
  · exact h.1.1

theorem execHardStart_keeps (d : DeckId) (s : State) : OutKeeps s (execHardStart d s) := by
  refine Evolves.outWhen fun h => hardStart_evolves d ?_
  simp only [State.firesNow, Bool.and_eq_true] at h
  exact h.1.1.1.1.1

theorem execPresence_keeps (n : LineNo) (s : State) :
    OutKeeps s (execPresenceRise n s) ∧ OutKeeps s (execPresenceFall n s) :=
  ⟨Evolves.outUnless fun _ => presenceRise_evolves n s, Evolves.outWhen fun _ => presenceFall_evolves n s⟩

/-- Every command keeps the invariants. -/
theorem exec_keeps (c : Instr) (s : State) : OutKeeps s (exec c s) := by
  cases c with
  | powerOn => exact fresh_keeps rfl good_reset
  | start => exact execStart_keeps s
  | halt a b => exact execHalt_keeps a b s
  | programmeReset a b => exact Evolves.outWhen fun _ => programmeReset_evolves a b s
  | fullReset => exact fresh_keeps rfl good_reset
  | cbBaseWrite high v => exact execCbBaseWrite_keeps high v s
  | registerWriteIgnored => exact (Evolves.refl s).out
  | attachHeaderReadDone r => exact onRead_keeps _ (attachHeaderReadDone_evolves r s)
  | attachSectionReadDone r slots => exact onRead_keeps _ (attachSectionReadDone_evolves r slots s)
  | blockBoundary i => exact (blockBoundary_evolves i s).out
  | surveyPass => exact execSurveyPass_keeps s
  | headerReadDone r => exact onRead_keeps _ (headerReadDone_evolves r s)
  | sectionReadDone r => exact onRead_keeps _ (sectionReadDone_evolves r s)
  | requestSlotsReadDone r => exact onRead_keeps _ (slotsReadDone_evolves r s)
  | unknownKind => exact takeAlone_keeps _ (.refl s)
  | resultWriteDone i ok => exact (onWrite_evolves _ _ ok (resultWriteDone_evolves i ok s)).out
  | heldResultRetry => exact Evolves.outWhen fun _ => heldResultRetry_evolves s
  | detachedRetry => exact execDetachedRetry_keeps s
  | mirrorRewrite => exact Evolves.outWhen fun _ => .of_reads rfl
  | mirrorWriteDone ok => exact (onWrite_evolves _ _ ok (mirrorWriteDone_evolves ok s)).out
  | clockSelect => exact takeAlone_keeps _ (clockSelect_evolves ..)
  | setTime => exact takeAlone_keeps _ (setTime_evolves ..)
  | setTimeApplied =>
    refine Evolves.out ?_
    split
    · exact .refl s
    · exact applyTime_evolves ..
  | houseMark => exact Evolves.outWhen fun _ => houseMark_evolves ..
  | houseMarkMissing now => exact execHouseMarkMissing_keeps now s
  | linkMarkMissing now => exact execLinkMarkMissing_keeps now s
  | clockSwitch => exact execClockSwitch_keeps s
  | gpiLevelAccepted => exact Evolves.outWhen fun _ => acceptLevel_evolves ..
  | walkStart => exact (execWalks_keep s).1
  | walkWaitExpired => exact (execWalks_keep s).2
  | recordReadDone r => exact (onRead_evolves _ (recordReadDone_evolves r s)).out
  | walkerWriteDone ok => exact (onWrite_evolves _ _ ok (walkerWriteDone_evolves ok s)).out
  | recordWriteDone d ok => exact (onWrite_evolves _ _ ok (recordWriteDone_evolves d ok s)).out
  | heldWriteRetry d => exact Evolves.outWhen fun _ => setDeck_evolves d id
  | fetchIssue => exact execFetchIssue_keeps s
  | fetchReadDone data => exact execFetchReadDone_keeps data s
  | fetchReadFailed => exact execFetchReadFailed_keeps s
  | segmentStart d => exact Evolves.outWhen fun h => startDeck_evolves d _ (ready_ne_empty h)
  | hardStart d => exact execHardStart_keeps d s
  | deckBlock d => exact Evolves.outWhen fun _ => deckBlock_evolves d s
  | durationComplete d => exact Evolves.outWhen fun _ => endAtBoundary_evolves ..
  | segmentEnd d => exact Evolves.outWhen fun _ => endAtBoundary_evolves ..
  | segmentSkip => exact takeAlone_keeps _ (segmentSkip_evolves ..)
  | runOutStart => exact execRunOutStart_keeps s
  | fillRecordReadDone r => exact (onRead_evolves _ (fillRecordReadDone_evolves r s)).out
  | presenceRise n => exact (execPresence_keeps n s).1
  | presenceFall n => exact (execPresence_keeps n s).2
  | framingLost n => exact Evolves.outWhen fun _ => framingLost_evolves n s
  | framingRegained n => exact Evolves.outUnless fun _ => framingRegained_evolves n s
  | clearingEnd n => exact Evolves.outWhen fun h => clearingEnd_evolves n h.1
  | callerHold => exact takeAlone_keeps _ (callerHold_evolves ..)
  | callerOnAir => exact takeAlone_keeps _ (callerOnAir_evolves ..)
  | callerTake => exact takeAlone_keeps _ (callerTake_evolves ..)
  | callerDrop => exact takeAlone_keeps _ (callerDrop_evolves ..)
  | callerQueue => exact takeAlone_keeps _ (callerQueue_evolves ..)
  | silenceTimeReached => exact execSilenceTimeReached_keeps s
  | rescueStart => exact Evolves.outWhen fun h => beginRescue_evolves (by rw [h.1]; decide)
  | recovery => exact execRecovery_keeps s
  | returnFadeEnd => exact Evolves.outWhen fun _ => .of_reads rfl
  | rescueStop => exact Evolves.outWhen fun _ => (arbitrate_evolves _).after (.of_monitor Iff.rfl fun hr => by cases hr)
  | delayBlock => exact Evolves.outWhen fun _ => delayBlock_evolves s
  | delayEngage => exact takeAlone_keeps _ (delayEngage_evolves s)
  | delayExit => exact takeAlone_keeps _ (delayExit_evolves s)
  | delayDump => exact takeAlone_keeps _ (dump_evolves ..)
  | goodCharacter p v arrival => exact (goodCharacter_evolves p v arrival s).out
  | framingError p => exact Evolves.outWhen fun _ => badFrame_evolves ..
  | breakCharacter p => exact (breakCharacter_evolves p s).out
  | alertFrameIdle p now => exact Evolves.outWhen fun _ => badFrame_evolves ..
  | alertHeader p => exact (execAlertTable_keeps p s).1
  | alertEndFrame p => exact (execAlertTable_keeps p s).2
  | recordingStart n => exact Evolves.outWhen fun _ => .sameEntry n _ ⟨rfl, rfl⟩
  | recordingEnd n => exact execRecordingEnd_keeps n s
  | recordingFull n => exact execRecordingFull_keeps n s
  | alertExpiry n => exact execAlertExpiry_keeps n s
  | holdUntilPassed n => exact execHoldUntilPassed_keeps n s
  | manualDeadlinePassed n => exact execManualDeadlinePassed_keeps n s
  | alertForward => exact takeAlone_keeps _ (alertForward_evolves ..)
  | alertCancel => exact takeAlone_keeps _ (alertCancel_evolves ..)
  | airingStart => exact execAiringStart_keeps s
  | toneEnd => exact execToneEnd_keeps s
  | airingEnd => exact Evolves.outWhen fun _ => closeAiring_evolves _ _ rfl
  | gapEnd => exact Evolves.outWhen fun h => gapEnd_evolves (gapOver_idle h)
  | cancelFadeEnd => exact Evolves.outWhen fun _ => closeAiring_evolves _ _ rfl
  | returnFrame p bs arrival => exact (returnFrame_evolves p bs arrival s).out
  | linkBreak p => exact Evolves.outUnless fun _ => portFalls_evolves ..
  | returnTimeout p => exact Evolves.outWhen fun _ => (workOutHold_evolves _).after (portFalls_evolves ..)
  | failover => exact execFailover_keeps s
  | linkSwitch => exact takeAlone_keeps _ (linkSwitch_evolves ..)
  | pendingLinkSwitch => exact execPendingLinkSwitch_keeps s
  | revert => exact Evolves.outWhen fun _ => portChange_evolves ..
  | programmeFrameFormed => exact execProgrammeFrameFormed_keeps s
  | frameSent p => exact execFrameSent_keeps p s
  | keepaliveDue p => exact Evolves.outWhen fun _ => setPort_evolves p (.inr rfl)
  | faultAck => exact takeAlone_keeps _ (faultAck_evolves ..)
  | logWriteDone ok => exact (onWrite_evolves _ _ ok (logWriteDone_evolves ok s)).out
  | logGap => exact Evolves.outWhen fun _ => .of_log rfl id
  | noticeWrite => exact Evolves.outWhen fun _ => (pumpLog_evolves _).after (.of_log rfl id)
  | noticeWriteDone ok => exact (onWrite_evolves _ _ ok (noticeWriteDone_evolves ok s)).out

/-- A step keeps what its command keeps: the queue of commands is none of what the invariants read. -/
theorem step_keeps {s t : State} (h : step s = .next t) : Keeps s t := by
  unfold step at h
  split at h
  · rw [Host.Outcome.next.inj h]
    exact ((Evolves.refl t).mono (by simp)).keeps_all
  · rename_i c rest _
    have hpop : Evolves [] s { s with pending := rest } := .of_reads rfl
    have hexec := exec_keeps c { s with pending := rest }
    rw [h] at hexec
    obtain ⟨hpart, hcallers, halerts, hdelay, hbounds⟩ := hexec
    have hp := hpop.keeps .part (by simp)
    exact ⟨fun k => hpart (hp k), fun k kc => hcallers (hp k) (hpop.keeps .callers (by simp) kc),
      fun k => halerts (hpop.keeps .alerts (by simp) k), fun k => hdelay (hpop.keeps .delay (by simp) k),
      fun k => hbounds (hpop.keeps .bounds (by simp) k)⟩

/-- Settles O55: each conjunct of the invariant, read off the reset state. -/
theorem resetStateIsGood : Obligations.ResetStateIsGood := good_reset

/-- Settles O56: the part state's aspect is kept by each command. -/
theorem everyStepKeepsPartState : Obligations.EveryStepKeepsPartState := by
  intro s t hpart h
  exact (step_keeps h).part hpart

/-- Settles O57: the callers' aspect is kept by each command where the part state fits. -/
theorem everyStepKeepsTheCallers : Obligations.EveryStepKeepsTheCallers := by
  intro s t hpart hcallers h
  exact (step_keeps h).callers hpart hcallers

/-- Settles O58: the alerts' aspect is kept by each command. -/
theorem everyStepKeepsTheFirstLaw : Obligations.EveryStepKeepsTheFirstLaw := by
  intro s t halerts h
  exact (step_keeps h).alerts halerts

/-- Settles O59: the delay line's aspect is kept by each command. -/
theorem everyStepKeepsTheDelay : Obligations.EveryStepKeepsTheDelay := by
  intro s t hdelay h
  exact (step_keeps h).delay hdelay

/-- Settles O60: the bounds' aspect is kept by each command. -/
theorem everyStepKeepsTheBounds : Obligations.EveryStepKeepsTheBounds := by
  intro s t hbounds h
  exact (step_keeps h).bounds hbounds

end Sys2Proof.Machine


/-! # The queue of commands, reset, the register window and START (R1, R3, R5, R9, R10). -/

namespace Sys2Proof.Machine

open Sys2Proof

/-! ## The queue of commands -/

/-- Settles O1: `step` by the two forms of the queue. -/
theorem stepRunsTheFrontCommand : Obligations.StepRunsTheFrontCommand := by
  unfold Obligations.StepRunsTheFrontCommand
  refine ⟨fun c rest s h => ?_, fun s h => ?_⟩
  · rw [step, h]
  · rw [step, h]

/-! ## Reset (R10) -/

theorem completes_powerOn (s : State) : Completes .powerOn s { State.reset with pending := s.pending } := rfl

theorem completes_fullReset (s : State) : Completes .fullReset s (fullReset s) := rfl

/-- What FULL_RESET leaves outstanding on the bus is given up quietly (log entry 8). -/
theorem fullReset_stale_quiet (s : State) : ∀ o ∈ (fullReset s).bus.stale, o.quiet = true := by
  intro o ho
  rcases List.mem_append.1 ho with h | h
  · obtain ⟨x, -, rfl⟩ := List.mem_map.1 h
    rfl
  · obtain ⟨u, -, rfl⟩ := List.mem_map.1 h
    rfl

theorem fullReset_fetch_dead (s : State) : ∀ r, (fullReset s).fetch.inFlight = some r → r.live = false := by
  intro r hr
  obtain ⟨x, -, rfl⟩ := Option.map_eq_some_iff.1 hr
  rfl

@[simp] theorem reset_line (n : LineNo) : State.reset.line n = Line.init := Four.get_ofFn _ _

@[simp] theorem reset_entry (n : EntryNo) : State.reset.entry n = AlertEntry.blank := Eight.get_ofFn _ _

@[simp] theorem reset_gpi (n : GpiNo) : State.reset.gpi.get n = GpiLine.init := Eight.get_ofFn _ _

@[simp] theorem reset_deck (d : DeckId) : State.reset.deck d = Deck.blank := by cases d <;> rfl

@[simp] theorem reset_decoder (p : PortId) : State.reset.decoder.get p = Decoder.init := by cases p <;> rfl

theorem reset_port (p : PortId) : State.reset.link.port.get p = State.reset.link.port.a := by cases p <;> rfl

/-- Settles O2: FULL_RESET gives every unit its reset value, quietly, and the reset state's fields are read off. -/
theorem resetLeavesTheStatedValues : Obligations.ResetLeavesTheStatedValues := by
  unfold Obligations.ResetLeavesTheStatedValues
  refine ⟨fun s => ⟨completes_powerOn s, fullReset s, completes_fullReset s, rfl, rfl, fullReset_stale_quiet s,
    fullReset_fetch_dead s⟩, ?window, ?time, ⟨rfl, rfl, rfl, rfl⟩, ?decks, ⟨fun n => ?lines, rfl, rfl⟩, ⟨rfl, rfl, rfl⟩,
    ⟨rfl, rfl, rfl, rfl⟩, ⟨rfl, rfl, rfl, rfl, rfl, rfl, rfl⟩,
    ⟨fun p => ?decoder, fun n => ?entry, rfl, rfl, rfl, rfl⟩,
    ⟨fun p => ?port, rfl, rfl, rfl, rfl, rfl, rfl, rfl, rfl, rfl, rfl⟩, ⟨rfl, rfl, rfl, rfl⟩,
    rfl, rfl, rfl, rfl, rfl, rfl, rfl, rfl⟩
  case window => exact ⟨rfl, rfl, rfl, rfl, rfl, rfl, rfl, rfl, rfl, rfl, rfl, rfl, rfl, rfl, rfl, rfl⟩
  case time => exact ⟨rfl, rfl, rfl, rfl, rfl, rfl, rfl, fun n => by rw [reset_gpi]; rfl⟩
  case decks => exact ⟨fun d => by rw [reset_deck]; exact ⟨rfl, rfl, rfl⟩, rfl, rfl, rfl, rfl, rfl⟩
  case lines => rw [reset_line]; exact ⟨rfl, rfl, rfl, rfl, rfl, rfl, rfl, rfl, rfl⟩
  case decoder => rw [reset_decoder]; exact ⟨rfl, rfl, rfl⟩
  case entry => rw [reset_entry]; rfl
  case port => rw [reset_port]; exact ⟨rfl, rfl, rfl, rfl, rfl, rfl, rfl⟩

/-! ## The register window (R1) -/

/-- The low half of two words joined. -/
theorem append_low (x y : Word) : (x ++ y : Addr).setWidth 32 = y := by
  apply BitVec.eq_of_getLsbD_eq
  intro i hi
  show (BitVec.setWidth 32 (x ++ y : BitVec (32 + 32))).getLsbD i = y.getLsbD i
  rw [BitVec.getLsbD_setWidth, BitVec.getLsbD_append]
  simp [hi]

/-- The high half of two words joined. -/
theorem append_high (x y : Word) : ((x ++ y : Addr) >>> 32).setWidth 32 = x := by
  apply BitVec.eq_of_getLsbD_eq
  intro i hi
  show (BitVec.setWidth 32 ((x ++ y : BitVec (32 + 32)) >>> 32)).getLsbD i = x.getLsbD i
  rw [BitVec.getLsbD_setWidth, BitVec.getLsbD_ushiftRight, BitVec.getLsbD_append]
  simp [hi]

theorem completes_cbBaseWrite {s : State} (high : Bool) (v : Word) (h : s.survey.state.parked = true) :
    Completes (.cbBaseWrite high v) s
      { s with survey := { s.survey with cbBase := writeBase high v s.survey.cbBase } } := by
  unfold Completes
  show execCbBaseWrite high v s = _
  rw [execCbBaseWrite, if_pos h]

theorem parked_iff (p : PartState) : p.parked = true ↔ p = .standby ∨ p = .halted := by cases p <;> simp [PartState.parked]

theorem not_parked_iff (p : PartState) : p.parked = false ↔ p = .attaching ∨ p = .running ∨ p = .detached := by
  cases p <;> simp [PartState.parked]

/-- The two halves of CB_BASE after a write to the low one. -/
theorem writeBase_low (v : Word) (a : Addr) :
    (writeBase false v a).setWidth 32 = v &&& 0xFFFFF000 ∧
      ((writeBase false v a) >>> 32).setWidth 32 = (a >>> 32).setWidth 32 :=
  ⟨append_low .., append_high ..⟩

/-- The two halves of CB_BASE after a write to the high one. -/
theorem writeBase_high (v : Word) (a : Addr) :
    ((writeBase true v a) >>> 32).setWidth 32 = v ∧ (writeBase true v a).setWidth 32 = a.setWidth 32 :=
  ⟨append_high .., append_low ..⟩

theorem ignored_cbBaseWrite {s : State} (h : s.survey.state.parked = false) (high : Bool) (v : Word) :
    Ignored (.cbBaseWrite high v) s := by
  unfold Ignored
  show execCbBaseWrite high v s = _
  rw [execCbBaseWrite, h, if_neg (by simp)]

theorem ignored_start {s : State} (h : s.survey.state.parked = false) : Ignored .start s := by
  unfold Ignored
  show execStart s = _
  rw [execStart, h, if_neg (by simp)]

theorem ignored_halt {s : State} (h : s.survey.state.parked = true) (a b : DeckWrites) : Ignored (.halt a b) s := by
  unfold Ignored
  show execHalt a b s = _
  rw [execHalt, if_pos h]

theorem ignored_programmeReset {s : State} (h : s.survey.state.resets = false) (a b : DeckWrites) :
    Ignored (.programmeReset a b) s := by
  unfold Ignored
  show execProgrammeReset a b s = _
  rw [execProgrammeReset, h, if_neg (by simp)]

theorem ignored_registerWriteIgnored (o : Byte) (v : Word) (s : State) : Ignored (.registerWriteIgnored o v) s := rfl

/-- An ignored write is to IDENT or STATE, or to COMMAND with a value that names no command (R1). -/
theorem ignoredWrite_iff (o : Byte) (v : Word) :
    ignoredWrite o v = true ↔
      o = 0x00 ∨ o = 0x08 ∨ (o = 0x04 ∧ v ≠ 1 ∧ v ≠ 2 ∧ v ≠ 3 ∧ v ≠ 0xA5) := by
  simp [ignoredWrite, or_assoc]

/-- A value that names no command is ignored (R1). -/
theorem commandWritten_undefined {v : Word} (a b : DeckWrites) (h1 : v ≠ 1) (h2 : v ≠ 2) (h3 : v ≠ 3) (hA5 : v ≠ 0xA5) :
    commandWritten v a b = .registerWriteIgnored 0x04 v := by
  have hn : ∀ n : Nat, v.toNat = n → v = BitVec.ofNat 32 n := fun n h => by rw [← h, BitVec.ofNat_toNat, BitVec.setWidth_eq]
  unfold commandWritten
  split
  · exact absurd (hn 1 (by assumption)) h1
  · exact absurd (hn 2 (by assumption)) h2
  · exact absurd (hn 3 (by assumption)) h3
  · exact absurd (hn 0xA5 (by assumption)) hA5
  · rfl

theorem windowWrite_ignored {o : Byte} {v : Word} (a b : DeckWrites) (h : ignoredWrite o v = true) :
    windowWrite o v a b = some (.registerWriteIgnored o v) := by
  rcases (ignoredWrite_iff o v).1 h with rfl | rfl | ⟨rfl, h1, h2, h3, hA5⟩
  · rfl
  · rfl
  · exact congrArg some (commandWritten_undefined a b h1 h2 h3 hA5)

/-- Settles O4: the halves of CB_BASE by `writeBase_low` and `writeBase_high`, the commands by their offsets, and the
writes ignored by part state. -/
theorem windowWritesAreTakenOrIgnored : Obligations.WindowWritesAreTakenOrIgnored := by
  unfold Obligations.WindowWritesAreTakenOrIgnored
  refine ⟨fun s v h => ?base, fun a b => ⟨⟨rfl, rfl, rfl, rfl⟩, fun v => ⟨rfl, rfl⟩, fun o v h => windowWrite_ignored a b h⟩,
    fun o v s _ => ignored_registerWriteIgnored o v s, fun s => ⟨fun h => ?parked, fun h => ?halt, fun h => ?reset⟩⟩
  case base =>
    have hp := (parked_iff _).2 h
    obtain ⟨hlow, hlowHi⟩ := writeBase_low v s.survey.cbBase
    obtain ⟨hhigh, hhighLo⟩ := writeBase_high v s.survey.cbBase
    exact ⟨⟨_, completes_cbBaseWrite false v hp, rfl, hlow, hlowHi⟩, ⟨_, completes_cbBaseWrite true v hp, rfl, hhigh, hhighLo⟩⟩
  case parked =>
    have hp := (not_parked_iff _).2 h
    exact ⟨ignored_cbBaseWrite hp, ignored_start hp⟩
  case halt => exact ignored_halt ((parked_iff _).2 h)
  case reset =>
    refine ignored_programmeReset ?_
    rcases h with h | h <;> rw [h] <;> rfl

/-! ## START (R3) -/

theorem completes_start {s : State} (h : s.survey.state.parked = true) :
    Completes .start s (if s.survey.cbBase = 0 then { s with survey := { s.survey with cause := .noBase } }
      else startAttach s) := by
  unfold Completes
  show execStart s = _
  rw [execStart, if_pos h]

/-- The default copies reach the station section's and the alert settings' units; the lock stays with what it locks
(R3, R14, R29). -/
theorem defaultCopies_only (s : State) :
    defaultCopies s = { s with
      sections := { Sections.default with
        policy := if s.sections.locked then s.sections.policy else AlertSettings.default, locked := s.sections.locked }
      mixer := (defaultCopies s).mixer, delay := (defaultCopies s).delay, airing := (defaultCopies s).airing
      log := (putStation Station.default s).log } := by
  unfold defaultCopies
  rw [putStation_only]
  dsimp only
  cases hl : s.sections.locked
  · rfl
  · rfl

/-- Settles O5: START by its base, with `defaultCopies_only` for what the default copies leave. -/
theorem startAnswersByItsBase : Obligations.StartAnswersByItsBase := by
  unfold Obligations.StartAnswersByItsBase
  refine ⟨fun s h hb => ?noBase, fun s h hb => ?attach⟩
  case noBase =>
    have hc := completes_start ((parked_iff _).2 h)
    rwa [if_pos hb] at hc
  case attach =>
    have hc := completes_start ((parked_iff _).2 h)
    rw [if_neg hb] at hc
    refine ⟨_, hc, ?_⟩
    unfold startAttach
    rw [defaultCopies_only]
    exact ⟨rfl, rfl, rfl, rfl, rfl, rfl, rfl, rfl, putStation_head .., rfl, rfl, rfl, rfl⟩

end Sys2Proof.Machine


/-! # BLOCK_BOUNDARY: what it makes of each unit's record (R26, R98), and the mirror's turn (R17). -/

namespace Sys2Proof.Machine

open Sys2Proof

theorem completes_blockBoundary (i : BlockInput) (s : State) :
    Completes (.blockBoundary i) s (beginBlock i s.airBlockNow.flags (advanceTime (completeBlock s))) := rfl

/-! ## The block in progress is completed -/

@[simp] theorem overlay_length (s : State) (p : List Frame) : (s.overlay p).length = 240 := makeBlock_length _

/-- Whatever the switch says, the air block is a whole one. -/
@[simp] theorem airFrames_length (s : State) : s.airFrames.length = 240 := by
  unfold State.airFrames
  split
  · exact makeBlock_length _
  · split
    · exact overlay_length ..
    · exact makeBlock_length _

theorem completeBlock_mixer (s : State) : (completeBlock s).mixer = { s.mixer with
    output := s.mixBlock, returns := Four.ofFn (fun n => s.returnOf s.airFrames n) } := by
  unfold completeBlock completeCounts
  dsimp only
  rw [noteNoFill_only, noteLinkDown_only, completeRecordings_only]
  rfl

theorem completeBlock_air (s : State) : (completeBlock s).air = { s.air with block := some s.airBlockNow } := by
  unfold completeBlock completeCounts
  dsimp only
  rw [noteNoFill_only, noteLinkDown_only, completeRecordings_only]
  rfl

theorem recordBlock_queue (n : EntryNo) (s : State) : (recordBlock n s).alerts.queue = s.alerts.queue := by
  unfold recordBlock
  dsimp only
  split
  · rfl
  · split <;> rfl

theorem completeRecordings_queue (s : State) : (completeRecordings s).alerts.queue = s.alerts.queue := by
  unfold completeRecordings
  generalize places8 = l
  induction l generalizing s with
  | nil => rfl
  | cons n l ih =>
    rw [List.foldl_cons, ih, recordBlock_queue]

theorem noteLinkDown_queue (s : State) : (noteLinkDown s).alerts.queue = s.alerts.queue := by
  unfold noteLinkDown
  split
  · rfl
  · split <;> rfl

theorem completeBlock_queue (s : State) : (completeBlock s).alerts.queue = s.alerts.queue := by
  unfold completeBlock completeCounts
  dsimp only
  rw [noteNoFill_only]
  exact (noteLinkDown_queue _).trans (completeRecordings_queue _)

/-! ## The next block begins -/

/-- The steps before the log writer's change five units' records alone. -/
theorem stepsBegin_only (s : State) :
    surveyBegins (walkerBlockBegins (readerBegins (runOutBegins (stepRamps s)))) =
      { s with
        survey := (surveyBegins s).survey, mirror := { s.mirror with tried := false }
        walker := (walkerBlockBegins s).walker, airing := { s.airing with gain := s.airing.gain.tick }
        air := { s.air with fade := s.air.fade.tick }
        decks := (runOutBegins (stepRamps s)).decks, mixer := (runOutBegins (stepRamps s)).mixer
        monitor := (readerBegins (runOutBegins (stepRamps s))).monitor } := by
  rw [readerBegins_only]
  generalize (readerBegins (runOutBegins (stepRamps s))).monitor = m
  have h : runOutBegins (stepRamps s) = { s with
      decks := (runOutBegins (stepRamps s)).decks, mixer := (runOutBegins (stepRamps s)).mixer
      airing := { s.airing with gain := s.airing.gain.tick }
      air := { s.air with fade := s.air.fade.tick } } := by
    rw [runOutBegins_only]
    rfl
  generalize runOutBegins (stepRamps s) = u at h ⊢
  rw [h]
  rfl

/-- The link's revert hold reads the time, the section copies and the link alone (R175). -/
theorem workOutHold_link_eq {s t : State} (hl : t.link = s.link) (ht : t.time = s.time) (hs : t.sections = s.sections) :
    (workOutHold t).link = (workOutHold s).link := by
  unfold workOutHold State.revertWanted
  rw [hl, ht, hs]

theorem noteStarts_only (s : State) : noteStarts s = { s with decks := (noteStarts s).decks } := by
  unfold noteStarts
  rw [noteOwed_only, noteOwed_only]

/-- What a boundary makes of each record, but for the decks', the mixer's, the monitor's and the air switch's own part. -/
theorem beginBlock_only (i : BlockInput) (f : AirFlags) (s : State) :
    beginBlock i f s = { s with
      survey := (surveyBegins s).survey, mirror := { s.mirror with tried := false }
      clock := { s.clock with trim := s.sections.station.trim }
      gpi := sampleLines s.time s.sections.station.gpi i.gpi s.gpi
      walker := (walkerBlockBegins s).walker, decks := (beginBlock i f s).decks
      callers := s.callers.blockBegins s.sections.callers.holdGain
      mixer := { (runOutBegins (stepRamps s)).mixer with input := i }
      monitor := (readerBegins (runOutBegins (stepRamps s))).monitor
      delay := s.delay.blockBegins, alerts := s.alerts.settled
      airing := { s.airing with gain := s.airing.gain.tick }.fadeBegins
      link := (workOutHold { s with link := s.link.blockBegins f }).link
      air := (beginBlock i f s).air, log := (logBegins s).log } := by
  let u := surveyBegins (walkerBlockBegins (readerBegins (runOutBegins (stepRamps s))))
  let v := unitsBegin f (takeInput i (logBegins u))
  have hdecks : (beginBlock i f s).decks = (noteStarts v).decks := rfl
  have hlink : (workOutHold (noteStarts v)).link = (workOutHold { s with link := s.link.blockBegins f }).link := by
    refine workOutHold_link_eq ?_ ?_ ?_ <;> (rw [noteStarts_only]; simp only [v, u]; rw [logBegins_only, stepsBegin_only]; rfl)
  have hlog : (logBegins u).log = (logBegins s).log := by
    obtain ⟨hl, hr, hs, ht, -⟩ := beforeLog_keeps s
    exact logBegins_log_eq hl hr hs ht
  have hv : v = unitsBegin f (takeInput i { u with log := (logBegins s).log }) := by
    rw [← hlog, ← logBegins_only]
  have hall : beginBlock i f s = { v with
      decks := (noteStarts v).decks, link := (workOutHold (noteStarts v)).link, air := (beginBlock i f s).air } :=
    switchBegins_only v
  rw [hall, hlink]
  generalize (noteStarts v).decks = D
  generalize (beginBlock i f s).air = A
  rw [hv]
  simp only [u]
  rw [stepsBegin_only]
  rfl

/-- The air switch as a block begins takes no other block and leaves the return fade's overlay (R95, R96, R98). -/
theorem beginBlock_airBlock (i : BlockInput) (f : AirFlags) (s : State) : (beginBlock i f s).air.block = s.air.block := by
  let u := surveyBegins (walkerBlockBegins (readerBegins (runOutBegins (stepRamps s))))
  let v := unitsBegin f (takeInput i (logBegins u))
  have h : (beginBlock i f s).air.block = v.air.block := by
    show (switchBegins (workOutHold (noteStarts v))).air.block = _
    rw [noteStarts_only]
    rfl
  rw [h]
  show (logBegins u).air.block = _
  rw [logBegins_only]
  simp only [u]
  rw [stepsBegin_only]

/-- A boundary's block made and station time raised, in what the units read of it. -/
theorem boundary_only (s : State) :
    advanceTime (completeBlock s) = { s with
      time := nextTime s.time
      mixer := (completeBlock s).mixer, air := (completeBlock s).air, alerts := (completeBlock s).alerts
      decks := { s.decks with noFill := (completeBlock s).decks.noFill }
      airing := (completeBlock s).airing, monitor := (completeBlock s).monitor } := by
  unfold advanceTime
  rw [completeBlock_only]

theorem settled_queue (a : Alerts) : a.settled.queue = a.queue := rfl

theorem runOutBegins_output (s : State) : (runOutBegins s).mixer.output = s.mixer.output := by
  unfold runOutBegins
  split
  · rfl
  · split
    · split <;> rfl
    · rfl

/-- Settles O20: each unit's record after the boundary is that of `beginBlock_only` on the state of `boundary_only`. -/
theorem boundaryRaisesStationTime : Obligations.BoundaryRaisesStationTime := by
  unfold Obligations.BoundaryRaisesStationTime
  intro s i
  have hblock := beginBlock_airBlock i s.airBlockNow.flags (advanceTime (completeBlock s))
  have hair : (advanceTime (completeBlock s)).air.block = some s.airBlockNow :=
    congrArg Air.block (completeBlock_air s)
  have hout : (runOutBegins (stepRamps (advanceTime (completeBlock s)))).mixer.output = s.mixBlock := by
    rw [runOutBegins_output]
    exact congrArg Mixer.output (completeBlock_mixer s)
  have hqueue : (advanceTime (completeBlock s)).alerts.queue = s.alerts.queue := completeBlock_queue s
  refine ⟨_, completes_blockBoundary i s, ?_⟩
  rw [beginBlock_only]
  refine ⟨?time, ?pending, ⟨s.airBlockNow, hblock.trans hair, rfl, airFrames_length s, rfl⟩, ?output, rfl, ?part, ?applied,
    ?sections, ?ptr, ?faults, ?mem, ?delay, hqueue, ?callers, ?onAir, ?sendQueue, ?nextSeq⟩
  case output => exact (congrArg List.length hout).trans (makeBlock_length _)
  all_goals rw [boundary_only] <;> rfl

/-! ## The status mirror (R17) -/

theorem mirrorDue_iff (s : State) :
    s.mirrorDue = true ↔ s.mirror.due = true ∨ mirrorCompared s.mirror.written ≠ mirrorContents s := by
  simp [State.mirrorDue]

theorem running_iff (s : State) : s.running = true ↔ s.survey.state = .running := by simp [State.running]

/-- When MIRROR_REWRITE is not ignored (R17). -/
theorem mirrorRewrite_iff (s : State) :
    (s.running && s.mirror.writing.isNone && !s.mirror.tried && s.mirrorDue) = true ↔
      s.survey.state = .running ∧ s.mirror.writing = none ∧ s.mirror.tried = false ∧
        (s.mirror.due = true ∨ mirrorCompared s.mirror.written ≠ mirrorContents s) := by
  rw [Bool.and_eq_true, Bool.and_eq_true, Bool.and_eq_true, running_iff, Option.isNone_iff_eq_none, Bool.not_eq_true',
    mirrorDue_iff, and_assoc, and_assoc]

theorem completes_mirrorRewrite (s : State) : Completes .mirrorRewrite s
    (if s.running && s.mirror.writing.isNone && !s.mirror.tried && s.mirrorDue then
      { s with mirror := { s.mirror with writing := some (mirrorBytes s, .first), tried := true } }
    else s) := rfl

theorem completes_mirrorWriteDone {s : State} (hf : s.fresh .mirror) (ok : Bool) :
    Completes (.mirrorWriteDone ok) s (mirrorWriteDone ok s) := by
  unfold Completes
  show execMirrorWriteDone ok s = _
  rw [execMirrorWriteDone, onWrite_fresh _ _ _ hf]

/-- A write of a mirror that fails raises WRITE_ERROR and owes a full rewrite (R17). -/
theorem mirrorWriteDone_failed {s : State} {x : List Byte × WritePhase} (h : s.mirror.writing = some x) :
    mirrorWriteDone false s =
      { writeError .surveyUnit s with mirror := { s.mirror with writing := none, due := true } } := by
  have hr : writeError .surveyUnit (mirrorFailed s) =
      { mirrorFailed s with faults := (writeError .surveyUnit s).faults, log := (writeError .surveyUnit s).log } :=
    raise_eq _ rfl rfl rfl rfl rfl
  simp only [mirrorWriteDone, h]
  rw [if_pos (by rfl), hr, writeError_only .surveyUnit s]
  rfl

/-- Stamp, contents and station time are the runs of a rewrite. -/
theorem mirrorBytes_stamp (s : State) : (mirrorBytes s).take 4 = leBytes 4 (s.mirror.stamp + 1).toNat := by
  simp [mirrorBytes, List.append_assoc]

theorem mirrorCompared_mirrorBytes (s : State) : mirrorCompared (mirrorBytes s) = mirrorContents s := by
  have hpart := mirrorPart_length s
  unfold mirrorCompared mirrorBytes mirrorContents
  simp only [List.append_assoc]
  congr 1
  · rw [slice_append_right _ _ _ _ (by simp), slice_append_left _ _ _ _ (by simp [hpart])]
    exact slice_whole _ _ hpart
  · rw [← List.append_assoc, ← List.append_assoc, List.drop_left']
    simp [hpart]

/-- Settles O14: the rewrite's condition by `mirrorRewrite_iff`, its bytes by their runs, and its completions by phase. -/
theorem mirrorStampCountsCompleteRewrites : Obligations.MirrorStampCountsCompleteRewrites := by
  unfold Obligations.MirrorStampCountsCompleteRewrites
  intro s differs
  refine ⟨fun hrun hidle htried hdue => ?rewrite, fun h => ?ignored, mirrorBytes_stamp s, mirrorCompared_mirrorBytes s,
    fun now => rfl, fun i => ?boundary, fun bs hf hrun hw => ?first, fun bs hf hw => ?last, fun x hf hw => ?failed,
    fun bs base => ⟨fun hw => ?bus, fun hw => ?stamp⟩⟩
  case rewrite =>
    have hc := completes_mirrorRewrite s
    rwa [if_pos ((mirrorRewrite_iff s).2 ⟨hrun, hidle, htried, hdue⟩)] at hc
  case ignored =>
    have hc := completes_mirrorRewrite s
    rwa [if_neg] at hc
    rw [mirrorRewrite_iff]
    rintro ⟨hrun, hidle, htried, hdue⟩
    rcases h with h | h | h | ⟨hnot, hsame⟩
    · exact h hrun
    · exact h hidle
    · rw [htried] at h
      cases h
    · rcases hdue with hdue | hdiffers
      · rw [hnot] at hdue
        cases hdue
      · exact hsame hdiffers
  case boundary =>
    refine ⟨_, completes_blockBoundary i s, ?_⟩
    rw [beginBlock_only, boundary_only]
  case first =>
    have hc := completes_mirrorWriteDone hf true
    simp only [mirrorWriteDone, hw, (running_iff s).2 hrun] at hc
    exact hc
  case last =>
    have hc := completes_mirrorWriteDone hf true
    simp only [mirrorWriteDone, hw] at hc
    exact hc
  case failed => exact mirrorWriteDone_failed hw ▸ completes_mirrorWriteDone hf false
  case bus => rw [Mirror.onBus, hw]; rfl
  case stamp => rw [Mirror.onBus, hw]; rfl

end Sys2Proof.Machine


/-! # Gain ramps, policies, the air queue's order and the request commands (R15, R16, R90, R135, R151). -/

namespace Sys2Proof.Machine

open Sys2Proof

/-! ## Gain ramps (R90) -/

/-- A step goes up by the quotient of the distance, or down by it. -/
theorem stepGain_up {g target : Nat} (m : Nat) (h : g ≤ target) : stepGain g target m = g + (target - g) / m := by
  have hd : (target : Int) - g = ((target - g : Nat) : Int) := by omega
  have hq : (((target - g : Nat) : Int)).tdiv (m : Int) = (((target - g) / m : Nat) : Int) := Int.ofNat_tdiv ..
  rw [stepGain, hd, hq]
  generalize (target - g) / m = q
  omega

theorem stepGain_down {g target : Nat} (m : Nat) (h : target ≤ g) : stepGain g target m = g - (g - target) / m := by
  have hd : (target : Int) - g = -((g - target : Nat) : Int) := by omega
  have hq : (-((g - target : Nat) : Int)).tdiv (m : Int) = -(((g - target) / m : Nat) : Int) := by
    rw [Int.neg_tdiv, ← Int.ofNat_tdiv]
  have hle := Nat.div_le_self (g - target) m
  rw [stepGain, hd, hq]
  generalize (g - target) / m = q at hle ⊢
  omega

/-- A step stays between the gain and the target. -/
theorem stepGain_between (g target m : Nat) :
    min g target ≤ stepGain g target m ∧ stepGain g target m ≤ max g target := by
  rcases Nat.le_total g target with h | h
  · have hq := Nat.div_le_self (target - g) m
    rw [stepGain_up m h]
    generalize (target - g) / m = q at hq ⊢
    omega
  · have hq := Nat.div_le_self (g - target) m
    rw [stepGain_down m h]
    generalize (g - target) / m = q at hq ⊢
    omega

/-- The last step lands. -/
theorem stepGain_one (g target : Nat) : stepGain g target 1 = target := by
  rcases Nat.le_total g target with h | h
  · rw [stepGain_up 1 h, Nat.div_one]
    omega
  · rw [stepGain_down 1 h, Nat.div_one]
    omega

theorem tick_target (r : Ramp) : r.tick.target = r.target := by unfold Ramp.tick; split <;> rfl

theorem tick_between (r : Ramp) : min r.g r.target ≤ r.tick.g ∧ r.tick.g ≤ max r.g r.target := by
  unfold Ramp.tick
  split
  · exact ⟨min_le_left .., le_max_left ..⟩
  · exact stepGain_between ..

/-- However many boundaries pass, the gain is between the first one and the target. -/
theorem ticks_between (k : Nat) (r : Ramp) :
    min r.g r.target ≤ (Ramp.tick^[k] r).g ∧ (Ramp.tick^[k] r).g ≤ max r.g r.target := by
  induction k generalizing r with
  | zero => exact ⟨min_le_left .., le_max_left ..⟩
  | succ k ih =>
    rw [Function.iterate_succ_apply]
    have hrest := ih r.tick
    have hstep := tick_between r
    rw [tick_target] at hrest
    omega

/-- With n + 1 steps to go, the (n + 1)-th lands on the target. -/
theorem ticks_land (n : Nat) (r : Ramp) (h : r.m = n + 1) :
    (Ramp.tick^[n + 1] r).g = r.target ∧ (Ramp.tick^[n + 1] r).blk = r.target ∧ (Ramp.tick^[n + 1] r).m = 0 ∧
      (Ramp.tick^[n + 1] r).complete = false := by
  induction n generalizing r with
  | zero =>
    have hstep : r.tick = ⟨stepGain r.g r.target 1, r.target, 0, stepGain r.g r.target 1, r.g, false⟩ := by
      simp [Ramp.tick, h]
    rw [Function.iterate_one, hstep, stepGain_one]
    exact ⟨rfl, rfl, rfl, rfl⟩
  | succ n ih =>
    have hm : r.tick.m = n + 1 := by simp [Ramp.tick, h]
    rw [Function.iterate_succ_apply, ← tick_target r]
    exact ih r.tick hm

/-- A ramp with no steps to go is complete a boundary later. -/
theorem tick_complete {r : Ramp} (h : r.m = 0) : r.tick.complete = true := by simp [Ramp.tick, h]

/-- Settles O22: `ticks_land` and `ticks_between` of the ramp just started. -/
theorem rampLandsOnItsTarget : Obligations.RampLandsOnItsTarget := by
  unfold Obligations.RampLandsOnItsTarget
  intro r target n hn
  obtain ⟨n, rfl⟩ := Nat.exists_eq_succ_of_ne_zero (Nat.pos_iff_ne_zero.1 hn)
  have hstart : r.start target (n + 1) = { r with target := target, m := n + 1, complete := false } := by
    simp [Ramp.start]
  obtain ⟨hg, hblk, hm, hc⟩ := ticks_land n (r.start target (n + 1)) (by rw [hstart])
  have ht : (r.start target (n + 1)).target = target := by rw [hstart]
  rw [ht] at hg hblk
  refine ⟨hg, hblk, hc, ?_, fun k => ?_⟩
  · rw [Function.iterate_succ_apply']
    exact tick_complete hm
  · have h := ticks_between k (r.start target (n + 1))
    rw [ht] at h
    have hs : (r.start target (n + 1)).g = r.g := by rw [hstart]
    rwa [hs] at h

/-! ## Policies (R135) -/

/-- Settles O43: each step of `resolve` decides where the ones before it do not. -/
theorem policyIsResolvedInOrder : Obligations.PolicyIsResolvedInOrder := by
  unfold Obligations.PolicyIsResolvedInOrder
  intro p cls ev sender areas r
  refine ⟨fun hcls htests => ?test, fun htest => ⟨fun hlist hsender => ?unlisted, fun hsender => ⟨fun harea => ?noArea,
    fun harea => ⟨fun x hx => ?table, fun hnone => ?default⟩⟩⟩⟩
  case test => simp [r, resolve, hcls, htests]
  all_goals
    have hno : ¬ (cls = 0x54 ∧ (!p.airTests) = true) := by
      rintro ⟨hcls, htests⟩
      rcases htest with h | h
      · exact h hcls
      · simp [h] at htests
  case unlisted => simp only [r, resolve]; rw [if_neg hno]; simp [hlist, hsender]
  all_goals
    have hon : (!p.authority.isEmpty && !p.authority.contains sender) = false := by
      rcases hsender with h | h <;> simp [h]
    simp only [r, resolve]
    rw [if_neg hno, hon]
  case noArea => simp [harea]
  case table => simp [harea, hx]
  case default =>
    have hfind : p.events.find? (fun e => e.code == ev) = none := by simpa using hnone
    simp [harea, hfind]

/-! ## The air queue (R151) -/

theorem keyBefore_iff (x y : Nat × Nat × Nat) : keyBefore x y = true ↔
    (x.1 < y.1 ∨ (x.1 = y.1 ∧ (x.2.1 < y.2.1 ∨ (x.2.1 = y.2.1 ∧ x.2.2 < y.2.2)))) := by
  simp [keyBefore]

/-- Which of two queued entries airs first. -/
def State.airsBefore (s : State) (x y : Queued) : Prop := keyBefore (s.queueKey x) (s.queueKey y) = true

theorem airsBefore_iff (s : State) (x y : Queued) :
    s.airsBefore x y ↔
      (classRank (s.entry x.entry).originClass < classRank (s.entry y.entry).originClass ∨
        (classRank (s.entry x.entry).originClass = classRank (s.entry y.entry).originClass ∧
          (x.time.toNat < y.time.toNat ∨ (x.time = y.time ∧ x.entry < y.entry)))) := by
  rw [State.airsBefore, keyBefore_iff, ← BitVec.toNat_inj]
  exact Iff.rfl

theorem airsBefore_trans {s : State} {x y z : Queued} (h1 : s.airsBefore x y) (h2 : s.airsBefore y z) :
    s.airsBefore x z := by
  rw [airsBefore_iff] at *
  simp only [← BitVec.toNat_inj, Fin.lt_def] at *
  omega

/-- Of two different entries one airs before the other. -/
theorem airsBefore_of_not {s : State} {x y : Queued} (hne : x ≠ y) (h : ¬ s.airsBefore x y) : s.airsBefore y x := by
  rw [airsBefore_iff] at *
  have hdiff : x.time = y.time → x.entry ≠ y.entry := fun ht he => hne (by cases x; cases y; simp_all)
  have hrank : x.entry = y.entry →
      classRank (s.entry x.entry).originClass = classRank (s.entry y.entry).originClass := fun he => by rw [he]
  simp only [← BitVec.toNat_inj, Fin.lt_def, ne_eq, Fin.ext_iff] at *
  omega

theorem placeQueued_pairwise {s : State} {q : Queued} {l : List Queued} (hl : l.Pairwise s.airsBefore) (hq : q ∉ l) :
    (s.placeQueued q l).Pairwise s.airsBefore := by
  induction l with
  | nil => exact List.pairwise_singleton ..
  | cons x xs ih =>
    obtain ⟨hx, hxs⟩ := List.pairwise_cons.1 hl
    obtain ⟨hqx, hqxs⟩ := not_or.1 (List.mem_cons.not.1 hq)
    unfold State.placeQueued
    split
    · rename_i hbefore
      refine List.pairwise_cons.2 ⟨fun y hy => ?_, hl⟩
      rcases List.mem_cons.1 hy with rfl | hy
      · exact hbefore
      · exact airsBefore_trans hbefore (hx y hy)
    · rename_i hnot
      refine List.pairwise_cons.2 ⟨fun y hy => ?_, ih hxs hqxs⟩
      rcases List.mem_cons.1 ((placeQueued_perm s q xs).mem_iff.1 hy) with rfl | hy
      · exact airsBefore_of_not hqx hnot
      · exact hx y hy

/-- Settles O47: `before` is the order of the keys, `airsBefore_iff`. -/
theorem airQueueIsOrderedByKey : Obligations.AirQueueIsOrderedByKey := by
  unfold Obligations.AirQueueIsOrderedByKey
  intro s q l rank before hl hq
  have hiff : before = s.airsBefore := by
    funext x y
    exact propext (airsBefore_iff s x y).symm
  rw [hiff] at hl ⊢
  exact ⟨placeQueued_pairwise hl hq, placeQueued_perm s q l⟩

/-! ## Requests taken alone (R15, R16) -/

theorem takes_of_running {s : State} {i : SlotNo} (hrun : s.survey.state = .running) (hfree : s.outstanding i = false) :
    s.takes i = true := by simp [State.takes, State.running, hrun, hfree]

/-- A request taken alone has its owner act, and the answer follows. -/
theorem takeAlone_taken {s : State} {r : Request} (h : s.takes r.slot = true) (owner : State → ResultCode × State) :
    takeAlone r owner s = .next (answer r (owner s)) := by rw [takeAlone, if_pos h]

/-- The answer in full: the counter, the result, and one REQUEST entry (R15, R16). -/
theorem answer_eq (r : Request) (code : ResultCode) (t : State) :
    answer r (code, t) = handLog
      ⟨.request, .surveyUnit, 0, t.time, BitVec.ofNat 16 r.kind.toNat, BitVec.ofNat 64 r.slot.val, r.seq,
        BitVec.ofNat 32 code.code⟩
      { t with survey := { t.survey with
        counter := r.seq, results := t.survey.results ++ [resultOf r code t.time t.running] } } := by
  have hseq : BitVec.ofNat 32 r.seq.toNat = r.seq := by rw [BitVec.ofNat_toNat, BitVec.setWidth_eq]
  rw [answer, requestEntry, entryOf, hseq]
  rfl

/-- Settles O16: each request command is its owner's `takeAlone`. -/
theorem requestsReachTheirOwners : Obligations.RequestsReachTheirOwners := by
  unfold Obligations.RequestsReachTheirOwners
  intro s i q a b c hrun hfree
  have htakes := takes_of_running hrun hfree
  have htaken : ∀ (kind : Nat) (w0 w1 w2 : Word) (owner : State → ResultCode × State),
      takeAlone (requestOf i q kind w0 w1 w2) owner s = .next (answer (requestOf i q kind w0 w1 w2) (owner s)) :=
    fun kind w0 w1 w2 owner => takeAlone_taken htakes owner
  exact ⟨htaken 1 a 0 0 _, htaken 2 a 0 0 _, htaken 3 a 0 0 _, htaken 4 a 0 0 _, htaken 5 0 0 0 _, htaken 6 a b 0 _,
    htaken 7 0 0 0 _, htaken 8 0 0 0 _, htaken 9 0 0 0 _, htaken 10 a b c _, htaken 11 a b c _, htaken 12 a 0 0 _,
    htaken 13 a 0 0 _, htaken 14 a b 0 _, htaken 15 a 0 0 _, fun r code t => answer_eq r code t⟩

end Sys2Proof.Machine


/-! # The sample clock and station time: selecting and switching, marks, SET_TIME (R19 to R25, R27, R28). -/

namespace Sys2Proof.Machine

open Sys2Proof

/-! ## Selecting a source (R21) -/

/-- Away from ON_EXTERNAL with no switch pending a new state is entered at once. -/
theorem selectState_atOnce {s : State} {st : ClockState} (hp : s.clock.pending = none)
    (he : s.clock.state.external = false) (hne : s.clock.state ≠ st) :
    selectState st s = handLog (clockEntry s.clock.state st .request s.time) { s with clock := s.clock.enter st } := by
  have hst : (s.clock.enter st).state = st := by cases st <;> rfl
  rw [selectState, he, hp, if_neg (by simp), logClock]
  show (if s.clock.state = (s.clock.enter st).state then _ else _) = _
  rw [hst, if_neg hne]

/-- In ON_EXTERNAL, or with a switch pending, it waits for the boundary. -/
theorem selectState_pends {s : State} (st : ClockState)
    (h : s.clock.state.external = true ∨ s.clock.pending.isSome = true) :
    selectState st s = { s with clock := { s.clock with pending := some (.requested st) } } := by
  rw [selectState, if_pos (by rcases h with h | h <;> simp [h])]

theorem clockSelect_source {w : Word} {x : ClockSource} (h : (w = 1 ∧ x = .house) ∨ (w = 2 ∧ x = .link)) (s : State) :
    clockSelect w s = selectSource x s := by
  rcases h with ⟨rfl, rfl⟩ | ⟨rfl, rfl⟩ <;> rfl

theorem clockSelect_undefined {w : Word} (h : 2 < w.toNat) (s : State) : clockSelect w s = (.badArgument, s) := by
  have hne : ∀ n : Nat, n ≤ 2 → w ≠ BitVec.ofNat 32 n := by
    rintro n hn rfl
    rw [BitVec.toNat_ofNat, Nat.mod_eq_of_lt (by omega)] at h
    omega
  have h0 : w ≠ 0 := hne 0 (by decide)
  have h1 : w ≠ 1 := hne 1 (by decide)
  have h2 : w ≠ 2 := hne 2 (by decide)
  rw [clockSelect, if_neg h0, if_neg h1, if_neg h2]

theorem clockSelect_internal_kept {s : State} (h : s.clockBasis = .onInternal) : clockSelect 0 s = (.done, s) := by
  rw [clockSelect, if_pos rfl, selectInternal, h]

theorem clockSelect_internal_taken {s : State} (h : s.clockBasis ≠ .onInternal) :
    clockSelect 0 s = (.done, selectState .onInternal s) := by
  rw [clockSelect, if_pos rfl, selectInternal]
  cases hb : s.clockBasis
  case onInternal => exact absurd hb h
  all_goals rfl

theorem selectSource_cancels {s : State} {x : ClockSource} (hst : s.clock.state = .onExternal x)
    (hp : s.clock.pending.isSome = true) (hl : s.clock.lost = false) :
    selectSource x s = (.done, { s with clock := { s.clock with pending := none } }) := by
  rw [selectSource, if_pos ⟨hst, by simp [Clock.leaves, hp, hl]⟩]

section
variable {s : State} {x : ClockSource} (hstay : ¬ (s.clock.state = .onExternal x ∧ s.clock.leaves = true))
include hstay

theorem selectSource_kept (hb : s.clockBasis = .onExternal x ∨ s.clockBasis = .qualifying x) :
    selectSource x s = (.done, s) := by rw [selectSource, if_neg hstay, if_pos hb]

theorem selectSource_refused (hb : ¬ (s.clockBasis = .onExternal x ∨ s.clockBasis = .qualifying x))
    (hu : ¬ (x = .house ∨ s.link.activePort.state = .up)) : selectSource x s = (.portDown, s) := by
  have hlink : x = .link := by
    cases x
    · exact absurd (.inl rfl) hu
    · rfl
  rw [selectSource, if_neg hstay, if_neg hb, if_pos ⟨hlink, fun hup => hu (.inr hup)⟩]

theorem selectSource_taken (hb : ¬ (s.clockBasis = .onExternal x ∨ s.clockBasis = .qualifying x))
    (hu : x = .house ∨ s.link.activePort.state = .up) :
    selectSource x s = (.done, selectState (.qualifying x) s) := by
  rw [selectSource, if_neg hstay, if_neg hb, if_neg]
  rintro ⟨rfl, hdown⟩
  exact hdown (hu.resolve_left (by simp))

end

/-! ## The pending switch (R22, R23, R25) -/

theorem completes_clockSwitch {s : State} {p : PendingClock} (hp : s.clock.pending = some p) :
    Completes .clockSwitch s (logClock p.cause s { s with clock := s.clock.enter (p.brings s.sections.station.autoReturn) }) := by
  unfold Completes
  show execClockSwitch s = _
  rw [execClockSwitch, hp]

/-- What a change of state leaves of the clock. -/
theorem enter_says (st : ClockState) (c : Clock) :
    (c.enter st).state = st ∧ (c.enter st).good = 0 ∧ (c.enter st).badRun = 0 ∧ (c.enter st).pending = none ∧
      (c.enter st).trim = c.trim ∧ ((c.enter st).mark = none ∨ ∃ x, st = .onExternal x ∧ (c.enter st).mark = c.mark) := by
  cases st with
  | onExternal x => exact ⟨rfl, rfl, rfl, rfl, rfl, .inr ⟨x, rfl, rfl⟩⟩
  | onInternal => exact ⟨rfl, rfl, rfl, rfl, rfl, .inl rfl⟩
  | qualifying x => exact ⟨rfl, rfl, rfl, rfl, rfl, .inl rfl⟩

theorem logClock_same {cause : ClockCause} {old s : State} (h : old.clock.state = s.clock.state) :
    logClock cause old s = s := by rw [logClock, if_pos h]

theorem logClock_changed {cause : ClockCause} {old s : State} (h : old.clock.state ≠ s.clock.state) :
    logClock cause old s = handLog (clockEntry old.clock.state s.clock.state cause s.time) s := by rw [logClock, if_neg h]

/-- Settles O15: CLOCK_SELECT by what it is decided against, and CLOCK_SWITCH by `enter_says`. -/
theorem clockSwitchesByRequest : Obligations.ClockSwitchesByRequest := by
  unfold Obligations.ClockSwitchesByRequest
  refine ⟨fun s w h => clockSelect_undefined h s, fun s w x hw => ?select, fun s p hp => ?switch⟩
  case select =>
    intro atOnce pends usable
    rw [clockSelect_source hw]
    refine ⟨fun hp => ?now, fun p hp => ?pending⟩
    case now =>
      have hbasis : s.clockBasis = s.clock.state := by rw [State.clockBasis, hp]
      have hstay : ¬ (s.clock.state = .onExternal x ∧ s.clock.leaves = true) := by simp [Clock.leaves, hp]
      refine ⟨fun hst => ?internal, fun y hst => ?qualifying, fun y hst => ?external⟩
      case internal =>
        have hno : ¬ (s.clockBasis = .onExternal x ∨ s.clockBasis = .qualifying x) := by simp [hbasis, hst]
        refine ⟨clockSelect_internal_kept (hbasis.trans hst), fun hu => ?_, selectSource_refused hstay hno⟩
        rw [selectSource_taken hstay hno hu, selectState_atOnce hp (by rw [hst]; rfl) (by simp [hst])]
        rfl
      case qualifying =>
        have hno : y ≠ x → ¬ (s.clockBasis = .onExternal x ∨ s.clockBasis = .qualifying x) := by
          intro hy
          simp [hbasis, hst, hy]
        refine ⟨?_, fun hy => selectSource_kept hstay (.inr (by rw [hbasis, hst, hy])), fun hy hu => ?_,
          fun hy => selectSource_refused hstay (hno hy)⟩
        · rw [clockSelect_internal_taken (by simp [hbasis, hst]),
            selectState_atOnce hp (by rw [hst]; rfl) (by simp [hst])]
          rfl
        · rw [selectSource_taken hstay (hno hy) hu, selectState_atOnce hp (by rw [hst]; rfl) (by simp [hst, hy])]
          rfl
      case external =>
        have hno : y ≠ x → ¬ (s.clockBasis = .onExternal x ∨ s.clockBasis = .qualifying x) := by
          intro hy
          simp [hbasis, hst, hy]
        have hpends : ∀ st, selectState st s = pends st := fun st => selectState_pends st (.inl (by rw [hst]; rfl))
        refine ⟨?_, fun hy => selectSource_kept hstay (.inl (by rw [hbasis, hst, hy])), fun hy hu => ?_,
          fun hy => selectSource_refused hstay (hno hy)⟩
        · rw [clockSelect_internal_taken (by simp [hbasis, hst]), hpends]
        · rw [selectSource_taken hstay (hno hy) hu, hpends]
    case pending =>
      intro brings
      have hbasis : s.clockBasis = brings := by
        rw [State.clockBasis, hp]
        cases p <;> rfl
      have hsome : s.clock.pending.isSome = true := by rw [hp]; rfl
      have hpends : ∀ st, selectState st s = pends st := fun st => selectState_pends st (.inr hsome)
      refine ⟨fun h => clockSelect_internal_kept (hbasis.trans h), fun h => ?_, fun hst hl => selectSource_cancels hst hsome hl,
        fun hnot => ?_⟩
      · rw [clockSelect_internal_taken (by rwa [hbasis]), hpends]
      · have hstay : ¬ (s.clock.state = .onExternal x ∧ s.clock.leaves = true) := by
          rintro ⟨hst, hl⟩
          rcases hnot with h | h
          · exact h hst
          · simp [Clock.leaves, h] at hl
        refine ⟨fun h => selectSource_kept hstay (by rw [hbasis]; exact h.symm), fun hq he => ?_⟩
        have hno : ¬ (s.clockBasis = .onExternal x ∨ s.clockBasis = .qualifying x) := by
          rw [hbasis]
          exact not_or.2 ⟨he, hq⟩
        refine ⟨fun hu => ?_, selectSource_refused hstay hno⟩
        rw [selectSource_taken hstay hno hu, hpends]
  case switch =>
    intro st why
    have hst : p.brings s.sections.station.autoReturn = st := by cases p <;> rfl
    have hwhy : p.cause = why := by cases p <;> rfl
    have hc := completes_clockSwitch hp
    rw [hst, hwhy] at hc
    obtain ⟨hstate, hgood, hbad, hpending, htrim, hmark⟩ := enter_says st s.clock
    refine ⟨s.clock.enter st, hstate, hgood, hbad, hpending, htrim, hmark, fun h => ?_, fun h => ?_⟩
    · rwa [logClock_same (by rw [hstate, h])] at hc
    · rw [logClock_changed (by rw [hstate]; exact h.symm)] at hc
      dsimp only at hc
      rwa [hstate] at hc

/-! ## SET_TIME (R27, R28) -/

theorem setTime_refused {low high : Word} (h : 65536 ≤ high.toNat) (s : State) :
    setTime low high s = (.badArgument, s) := by
  have hne : high >>> 16 ≠ 0 := by
    intro h0
    have hz := congrArg BitVec.toNat h0
    rw [BitVec.toNat_ushiftRight, Nat.shiftRight_eq_div_pow] at hz
    simp at hz
    omega
  rw [setTime, if_pos hne]

theorem setTime_taken {low high : Word} (h : high.toNat < 65536) (s : State) :
    setTime low high s = (.done, { s with pendingTime := some (timeOf low high) }) := by
  have heq : high >>> 16 = 0 := by
    apply BitVec.eq_of_toNat_eq
    rw [BitVec.toNat_ushiftRight, Nat.shiftRight_eq_div_pow]
    exact Nat.div_eq_of_lt h
  rw [setTime, if_neg (not_not.2 heq)]

theorem timeOf_toNat {low high : Word} (h : high.toNat < 65536) :
    (timeOf low high).toNat = low.toNat + 4294967296 * high.toNat := by
  have hlow := low.isLt
  rw [timeOf, BitVec.toNat_ofNat, Nat.mod_eq_of_lt (by omega), show 2 ^ 32 = 4294967296 by decide]

theorem completes_setTimeApplied {s : State} {new : Time} (h : s.pendingTime = some new) :
    Completes .setTimeApplied s (applyTime new s) := by
  unfold Completes
  show execSetTimeApplied s = _
  rw [execSetTimeApplied, h]

/-- A timer moved with station time keeps what remains of it (R28). -/
theorem shifted_remains (t old new : Time) : t + (new - old) - new = t - old := by ring

theorem shifted_remains_map (o : Option Time) (old new : Time) :
    (o.map (· + (new - old))).map (· - new) = o.map (· - old) := by
  cases o with
  | none => rfl
  | some t => exact congrArg some (shifted_remains t old new)

theorem shift_inUse {e : AlertEntry} (h : e.state ≠ .free) (dt : Time) :
    e.shift dt = { e with
      expiry := e.expiry + dt, holdUntil := e.holdUntil.map (· + dt), deadline := e.deadline.map (· + dt) } := by
  rw [AlertEntry.shift, if_neg h]

/-- The two words of TIME_SET's new value. -/
theorem timeSet_words (new : Time) :
    (BitVec.ofNat 32 (new.toNat % 2 ^ 32)).toNat + 4294967296 * (BitVec.ofNat 32 (new.toNat / 2 ^ 32)).toNat = new.toNat := by
  have hlt := new.isLt
  rw [BitVec.toNat_ofNat, BitVec.toNat_ofNat]
  omega

theorem timeSet_subject (old : Time) : (BitVec.ofNat 64 old.toNat).toNat = old.toNat := by
  have hlt := old.isLt
  rw [BitVec.toNat_ofNat]
  omega

/-- Settles O17: `setTime` by the high half of its second word, and `applyTime` with `shifted_remains` for each timer. -/
theorem setTimeIsAppliedAtTheBoundary : Obligations.SetTimeIsAppliedAtTheBoundary := by
  unfold Obligations.SetTimeIsAppliedAtTheBoundary
  refine ⟨fun s low high => ⟨fun h => ⟨_, timeOf_toNat h, setTime_taken h s⟩, fun h => setTime_refused h s⟩,
    fun s new hp => ?_⟩
  refine ⟨_, _, completes_setTimeApplied hp, ⟨rfl, rfl, rfl, timeSet_subject s.time, timeSet_words new⟩, rfl, rfl,
    fun n hn => ?entries, shifted_remains_map .., shifted_remains_map .., rfl, fun n hn => ?lines, rfl, rfl⟩
  case entries =>
    have hentry : (s.alerts.entry.map (AlertEntry.shift (new - s.time))).get n = (s.entry n).shift (new - s.time) :=
      Eight.get_map ..
    unfold State.entry
    dsimp only
    rw [hentry, shift_inUse hn]
    exact ⟨shifted_remains .., shifted_remains_map .., shifted_remains_map .., rfl, rfl, rfl⟩
  case lines =>
    show (s.gpi.map (GpiLine.restamp new)).get n = _
    rw [Eight.get_map, GpiLine.restamp, if_neg hn]

/-! ## Marks (R19, R20, R22, R23) -/

theorem goodMark_qualifying {s : State} {x : ClockSource} (h : s.clock.state = .qualifying x) (hp : s.clock.pending = none) :
    goodMark s = { s with clock := { s.clock with
      good := s.clock.good + 1, pending := if 200 ≤ s.clock.good + 1 then some (.qualified x) else none } } := by
  simp only [goodMark, h, hp, Config.qualifyMarks]
  rw [if_neg (by simp)]
  split
  · rfl
  · rw [← hp]

theorem badMark_qualifying {s : State} {x : ClockSource} (h : s.clock.state = .qualifying x) (hp : s.clock.pending = none) :
    badMark s = { s with clock := { s.clock with good := 0 } } := by
  simp only [badMark, h, hp]
  rw [if_neg (by simp)]

theorem goodMark_onExternal {s : State} {x : ClockSource} (h : s.clock.state = .onExternal x) :
    goodMark s = { s with clock := { s.clock with badRun := 0 } } := by
  simp only [goodMark, h]

/-- A mark's judging reads the clock alone. -/
theorem goodMark_clock_eq {s t : State} (h : t.clock = s.clock) : (goodMark t).clock = (goodMark s).clock := by
  unfold goodMark
  rw [h]
  split
  · exact h
  · split
    · exact h
    · split <;> rfl
  · rfl

theorem badMark_clock_eq {s t : State} (h : t.clock = s.clock) : (badMark t).clock = (badMark s).clock := by
  unfold badMark
  rw [h]
  split
  · exact h
  · split
    · exact h
    · rfl
  · split
    · exact h
    · dsimp only
      split
      · rw [loseClock_eq, loseClock_eq]
      · rfl

theorem linkMark_clock_eq {s t : State} (c : Word) (a : Nat) (h : t.clock = s.clock) :
    (linkMark c a t).clock = (linkMark c a s).clock := by
  have hset : ∀ u v : State, u.clock = v.clock → (setMark a c u).clock = (setMark a c v).clock := fun u v huv => by
    rw [setMark, setMark, huv]
  unfold linkMark
  rw [h]
  split
  · exact h
  · split
    · exact hset t s h
    · dsimp only
      split
      · exact h
      · split
        · exact hset _ _ (goodMark_clock_eq h)
        · exact hset _ _ (badMark_clock_eq h)

/-- A source's mark at a position is taken by the clock unit: HOUSE_MARK, or a good return of the active port (R19, R20). -/
def MarkTaken (x : ClockSource) (arrival : Nat) (count : Word) (s t : State) : Prop :=
  match x with
  | .house => Completes (.houseMark arrival) s t
  | .link => linkMark count arrival s = t

/-- The count a source's mark brings: HOUSE has none. -/
def markCount (x : ClockSource) (count : Word) : Word :=
  match x with
  | .house => 0
  | .link => count

/-- The marks whose distance d and advance n lie in a source's window, and those judged bad (spec/02, Reference marks). -/
def MarkInWindow (x : ClockSource) (d n : Nat) : Prop :=
  match x with
  | .house => 245515 ≤ d ∧ d ≤ 246005
  | .link => 1 ≤ n ∧ n ≤ 16 ∧ n * (245760 - 245) ≤ d ∧ d ≤ n * (245760 + 245)

def MarkOutside (x : ClockSource) (d n : Nat) : Prop :=
  match x with
  | .house => d < 245515
  | .link => 16 < n ∨ (1 ≤ n ∧ (d < n * (245760 - 245) ∨ n * (245760 + 245) < d))

theorem withinBlocks_iff (n d : Nat) :
    withinBlocks n d = true ↔ n * (245760 - 245) ≤ d ∧ d ≤ n * (245760 + 245) := by
  simp only [withinBlocks, Config.blockUnits, Config.toleranceUnits, Bool.and_eq_true, decide_eq_true_eq]
  omega

theorem judges_iff (c : Clock) (x : ClockSource) :
    c.judges x = true ↔ c.state = .qualifying x ∨ c.state = .onExternal x := by simp [Clock.judges]

/-- A source that is not judged is left alone. -/
theorem markTaken_unjudged {x : ClockSource} {s : State} (arrival : Nat) (count : Word) (h : s.clock.judges x = false) :
    MarkTaken x arrival count s s := by
  cases x with
  | house =>
    show execHouseMark arrival s = _
    rw [execHouseMark, h, if_neg (by simp)]
  | link =>
    show linkMark count arrival s = s
    rw [linkMark, h, if_pos (by rfl)]

section
variable {x : ClockSource} {s : State} (hj : s.clock.judges x = true)
include hj

theorem markTaken_first (arrival : Nat) (count : Word) (h : s.clock.mark = none) :
    MarkTaken x arrival count s (setMark arrival (markCount x count) s) := by
  cases x with
  | house =>
    show execHouseMark arrival s = _
    rw [execHouseMark, if_pos hj, houseMark, h]
    rfl
  | link =>
    show linkMark count arrival s = _
    rw [linkMark, hj, if_neg (by simp), h]
    rfl

variable {m : Mark} (hm : s.clock.mark = some m)
include hm

theorem markTaken_good {arrival : Nat} {count : Word}
    (h : MarkInWindow x (arrival - m.pos) (count - m.count).toNat) :
    MarkTaken x arrival count s (setMark arrival (markCount x count) (goodMark s)) := by
  cases x with
  | house =>
    have hw : withinBlocks 1 (arrival - m.pos) = true := (withinBlocks_iff 1 _).2 h
    show execHouseMark arrival s = _
    rw [execHouseMark, if_pos hj, houseMark, hm]
    dsimp only
    rw [if_pos hw]
    rfl
  | link =>
    obtain ⟨hpos, hle, hlow, hhigh⟩ := h
    have hw := (withinBlocks_iff _ _).2 ⟨hlow, hhigh⟩
    show linkMark count arrival s = _
    rw [linkMark, hj, if_neg (by simp), hm]
    dsimp only
    rw [if_neg (by omega), hw, decide_eq_true hle, if_pos (by rfl)]
    rfl

theorem markTaken_bad {arrival : Nat} {count : Word}
    (h : MarkOutside x (arrival - m.pos) (count - m.count).toNat) :
    MarkTaken x arrival count s (setMark arrival (markCount x count) (badMark s)) := by
  cases x with
  | house =>
    have hlt : arrival - m.pos < 245515 := h
    have hw : ¬ withinBlocks 1 (arrival - m.pos) = true := by
      rw [withinBlocks_iff]
      omega
    show execHouseMark arrival s = _
    rw [execHouseMark, if_pos hj, houseMark, hm]
    dsimp only
    rw [if_neg hw]
    rfl
  | link =>
    have h : 16 < (count - m.count).toNat ∨ (1 ≤ (count - m.count).toNat ∧
      (arrival - m.pos < (count - m.count).toNat * (245760 - 245) ∨
        (count - m.count).toNat * (245760 + 245) < arrival - m.pos)) := h
    have hw : ¬ (decide ((count - m.count).toNat ≤ 16) && withinBlocks (count - m.count).toNat (arrival - m.pos)) = true := by
      rw [Bool.and_eq_true, decide_eq_true_eq, withinBlocks_iff]
      omega
    show linkMark count arrival s = _
    rw [linkMark, hj, if_neg (by simp), hm]
    dsimp only
    rw [if_neg (by omega), if_neg hw]
    rfl

end

/-- A LINK frame with an advance of 0 is no mark (R20). -/
theorem linkMark_same {s : State} {m : Mark} {count : Word} (arrival : Nat) (hm : s.clock.mark = some m)
    (h : (count - m.count).toNat = 0) : linkMark count arrival s = s := by
  unfold linkMark
  split
  · rfl
  · rw [hm]
    dsimp only
    rw [if_pos h]

/-- A mark due at a running-clock position has not come: HOUSE_MARK_MISSING or LINK_MARK_MISSING (R19, R20). -/
def MarkMissed (x : ClockSource) (now : Nat) (s t : State) : Prop :=
  match x with
  | .house => Completes (.houseMarkMissing now) s t
  | .link => Completes (.linkMarkMissing now) s t

/-- When a source's mark is missing. -/
def MarkLate (x : ClockSource) (m : Mark) (missed now : Nat) : Prop :=
  match x with
  | .house => m.pos + 246005 ≤ now
  | .link => m.pos + (2 + missed) * 245760 + 245 < now

/-- What a missing mark leaves of the mark point: HOUSE moves it a block on, LINK counts (R19, R20). -/
def Clock.missing (x : ClockSource) (m : Mark) (c : Clock) : Clock :=
  match x with
  | .house => { c with mark := some { m with pos := m.pos + 245760 } }
  | .link => { c with missed := c.missed + 1 }

theorem badMark_mark (s : State) : (badMark s).clock.mark = s.clock.mark := by
  unfold badMark
  split
  · rfl
  · split <;> rfl
  · split
    · rfl
    · dsimp only
      split
      · rw [loseClock_eq]
      · rfl

section
variable {x : ClockSource} {s : State} {m : Mark} (hm : s.clock.mark = some m) {now : Nat}
include hm

theorem markMissed_early (h : ¬ MarkLate x m s.clock.missed now) : MarkMissed x now s s := by
  cases x with
  | house =>
    have hl : ¬ s.clock.houseLate now = true := by
      simp only [Clock.houseLate, hm, Option.any_some, Bool.and_eq_true, decide_eq_true_eq, Config.blockUnits,
        Config.toleranceUnits]
      rintro ⟨-, hl⟩
      exact h hl
    show execHouseMarkMissing now s = _
    rw [execHouseMarkMissing, if_neg hl]
  | link =>
    have hl : ¬ s.clock.linkLate now = true := by
      simp only [Clock.linkLate, hm, Option.any_some, Bool.and_eq_true, decide_eq_true_eq, Config.blockUnits,
        Config.toleranceUnits]
      rintro ⟨-, hl⟩
      exact h hl
    show execLinkMarkMissing now s = _
    rw [execLinkMarkMissing, if_neg hl]

theorem markMissed_late (hj : s.clock.judges x = true) (h : MarkLate x m s.clock.missed now) :
    MarkMissed x now s { badMark s with clock := (badMark s).clock.missing x m } := by
  cases x with
  | house =>
    have hl : s.clock.houseLate now = true := by
      simp only [Clock.houseLate, hj, hm, Option.any_some, Bool.true_and, decide_eq_true_eq]
      exact h
    show execHouseMarkMissing now s = _
    rw [execHouseMarkMissing, if_pos hl]
    dsimp only
    rw [badMark_mark, hm]
    rfl
  | link =>
    have hl : s.clock.linkLate now = true := by
      simp only [Clock.linkLate, hj, hm, Option.any_some, Bool.true_and, decide_eq_true_eq]
      exact h
    show execLinkMarkMissing now s = _
    rw [execLinkMarkMissing, if_pos hl]
    rfl

end

theorem raisePort_clock (k : FaultKind) (p : PortId) (s : State) : (raisePort k p s).clock = s.clock := by
  unfold raisePort
  rw [raise_only]

theorem noteTelemetry_clock (p : PortId) (bs : List Byte) (s : State) : (noteTelemetry p bs s).clock = s.clock := by
  unfold noteTelemetry
  dsimp only
  split
  · exact raisePort_clock ..
  · rfl

theorem noteLatency_clock (bs : List Byte) (s : State) : (noteLatency bs s).clock = s.clock := by
  unfold noteLatency
  dsimp only
  split <;> rfl

/-- A good return gives the clock unit its mark on the active port alone (R20). -/
theorem goodReturn_clock (p : PortId) (bs : List Byte) (arrival : Nat) (s : State) :
    (goodReturn p bs arrival s).clock =
      if p = s.link.active then (linkMark (returnMarks bs) arrival s).clock else s.clock := by
  have h1 : (noteTelemetry p bs (portGood p bs s)).clock = s.clock := by rw [noteTelemetry_clock, portGood_only]
  unfold goodReturn
  dsimp only
  split
  · rw [considerSend_only]
    show (noteLatency bs _).clock = _
    rw [noteLatency_clock]
    exact linkMark_clock_eq _ _ h1
  · exact h1

theorem completes_returnFrame_good {p : PortId} {bs : List Byte} {s : State} (arrival : Nat) (h : returnFrameRight bs = true)
    (hsite : returnSite bs = s.sections.station.siteAddress) :
    Completes (.returnFrame p bs arrival) s (goodReturn p bs arrival s) := by
  unfold Completes
  show execReturnFrame p bs arrival s = _
  rw [execReturnFrame, returnFrame, h, if_neg (by simp), if_neg (not_not.2 hsite)]

/-- Settles O18: a mark's window picks `goodMark` or `badMark`, whose counts are those of R22 and R23. -/
theorem referenceMarksAreJudged : Obligations.ReferenceMarksAreJudged := by
  unfold Obligations.ReferenceMarksAreJudged
  refine ⟨fun s x arrival count => ?marks, fun s x m now hm => ?missing, fun s p bs arrival hright hsite => ?link⟩
  case marks =>
    intro after moved
    have hafter : after = MarkTaken x arrival count s := by cases x <;> rfl
    have hmoved : ∀ u : State, setMark arrival (markCount x count) u = { u with clock := moved u.clock } := by
      cases x <;> exact fun u => rfl
    rw [hafter]
    refine ⟨fun hm hst => ?first, fun hq he => ?other, fun m hm _ => ?judged⟩
    case first => exact hmoved s ▸ markTaken_first ((judges_iff _ _).2 hst) arrival count hm
    case other =>
      refine markTaken_unjudged arrival count ?_
      rw [Bool.eq_false_iff, Ne, judges_iff]
      exact not_or.2 ⟨hq, he⟩
    case judged =>
      intro d n inWindow outside
      have hin : inWindow = MarkInWindow x d n := by cases x <;> rfl
      have hout : outside = MarkOutside x d n := by cases x <;> rfl
      rw [hin, hout]
      refine ⟨fun hx hn => ?_, fun hst hp => ⟨fun hw => ?_, fun hw => ?_⟩, fun hst => ⟨fun hw => ?_, fun hw => ?_⟩⟩
      · subst hx
        exact linkMark_same arrival hm hn
      · have h := markTaken_good ((judges_iff _ _).2 (.inl hst)) hm hw
        rwa [goodMark_qualifying hst hp, hmoved] at h
      · have h := markTaken_bad ((judges_iff _ _).2 (.inl hst)) hm hw
        rwa [badMark_qualifying hst hp, hmoved] at h
      · have h := markTaken_good ((judges_iff _ _).2 (.inr hst)) hm hw
        rwa [goodMark_onExternal hst, hmoved] at h
      · have h := markTaken_bad ((judges_iff _ _).2 (.inr hst)) hm hw
        rw [hmoved] at h
        obtain ⟨hcount, hloses, hdone⟩ := badMark_onExternal x s hst
        refine ⟨fun hl hr => ?_, fun hl hr => ?_, fun hl => ?_⟩
        · rwa [hcount hl hr] at h
        · rwa [hloses hl hr] at h
        · rwa [hdone hl] at h
  case missing =>
    intro after missed late
    have hafter : after = MarkMissed x now s := by cases x <;> rfl
    have hmissed : missed = Clock.missing x m := by cases x <;> rfl
    have hlate : late = MarkLate x m s.clock.missed now := by cases x <;> rfl
    rw [hafter, hmissed, hlate]
    refine ⟨markMissed_early hm, fun hl => ⟨fun hst hp => ?_, fun hst => ?_⟩⟩
    · have h := markMissed_late hm ((judges_iff _ _).2 (.inl hst)) hl
      rwa [badMark_qualifying hst hp] at h
    · have h := markMissed_late hm ((judges_iff _ _).2 (.inr hst)) hl
      obtain ⟨hcount, hloses, hdone⟩ := badMark_onExternal x s hst
      refine ⟨fun hn hr => ?_, fun hn hr => ?_, fun hn => ?_⟩
      · rwa [hcount hn hr] at h
      · rwa [hloses hn hr] at h
      · rwa [hdone hn] at h
  case link =>
    refine ⟨_, completes_returnFrame_good arrival hright hsite, fun hp => ?_, fun hp => ?_⟩
    · rw [goodReturn_clock, if_pos hp]
    · rw [goodReturn_clock, if_neg hp]

end Sys2Proof.Machine


/-! # The link: return frames, port supervision, changes of the active port and sending (R162 to R175). -/

namespace Sys2Proof.Machine

open Sys2Proof

/-! ## What replacing the link leaves of a log entry and of a raising -/

theorem handLog_setLink (e : LogEntry) (l : Link) (s : State) :
    handLog e { s with link := l } = { handLog e s with link := l } := rfl

theorem raise_setLink (r : Raising) (l : Link) (s : State) : raise r { s with link := l } = { raise r s with link := l } := by
  rw [raise_eq r (s := s) (t := { s with link := l }) rfl rfl rfl rfl rfl]
  conv_rhs => rw [raise_only]

/-! ## Sending (R165 to R168) -/

/-- The head of the send queue has left through the active port (R166, R167). -/
def headSent (b : AirBlock) (rest : List AirBlock) (s : State) : State :=
  { s with link := { s.link with
    queue := rest
    nextSeq := s.link.nextSeq + 1
    port := s.link.port.set s.link.active { s.link.activePort with
      sending := some (programmeFrame s.sections.station.siteAddress s.link.nextSeq b)
      sent := s.link.activePort.sent + 1
      keepalive := 0 } } }

theorem considerSend_sends {boundary : Bool} {s : State} {b : AirBlock} {rest : List AirBlock}
    (hq : s.link.queue = b :: rest) (hm : s.maySend boundary = true) : considerSend boundary s = headSent b rest s := by
  unfold considerSend
  rw [hq]
  dsimp only
  rw [if_pos hm]
  rfl

theorem considerSend_waits {boundary : Bool} {s : State} (hm : s.maySend boundary = false) :
    considerSend boundary s = s := by
  unfold considerSend
  split
  · rfl
  · rw [hm, if_neg (by simp)]

theorem considerSend_cases (boundary : Bool) (s : State) :
    considerSend boundary s = s ∨ ∃ b rest, considerSend boundary s = headSent b rest s := by
  cases hq : s.link.queue with
  | nil => exact .inl (by rw [considerSend, hq])
  | cons b rest =>
    cases hm : s.maySend boundary
    · exact .inl (considerSend_waits hm)
    · exact .inr ⟨b, rest, considerSend_sends hq hm⟩

section
variable (b : AirBlock) (rest : List AirBlock) (s : State)

/-- The frame that leaves takes the next sequence (R165). -/
theorem headSent_activePort : (headSent b rest s).link.activePort = { s.link.activePort with
    sending := some (programmeFrame s.sections.station.siteAddress s.link.nextSeq b)
    sent := s.link.activePort.sent + 1
    keepalive := 0 } := Two.get_set_self ..

theorem headSent_otherPort : (headSent b rest s).link.port.get s.link.active.other = s.link.port.get s.link.active.other :=
  Two.get_set_other ..

/-- Sending keeps what a port has received (R163). -/
theorem headSent_received (p : PortId) :
    ((headSent b rest s).link.port.get p).age = (s.link.port.get p).age ∧
      ((headSent b rest s).link.port.get p).latest = (s.link.port.get p).latest := by
  rcases Side.eq_or_other s.link.active p with rfl | rfl
  · rw [show (headSent b rest s).link.port.get s.link.active = _ from headSent_activePort b rest s]
    exact ⟨rfl, rfl⟩
  · rw [headSent_otherPort]
    exact ⟨rfl, rfl⟩

end

/-- A port that is not UP sends blind at a boundary, once (R167). -/
theorem maySend_blind {s : State} (hdown : s.link.activePort.state ≠ .up) (hidle : s.link.activePort.sending = none)
    (hsent : s.link.activePort.sent = 0) : s.maySend true = true := by
  simp [State.maySend, hdown, hidle, hsent]

/-- An UP port sends within its window, at most three frames in a block (R166). -/
theorem maySend_up {s : State} {bs : List Byte} (boundary : Bool) (hup : s.link.activePort.state = .up)
    (hidle : s.link.activePort.sending = none) (hlatest : s.link.activePort.latest = some bs) :
    s.maySend boundary = true ↔
      s.link.activePort.sent < 3 ∧ (s.link.nextSeq - returnAck bs).toNat ≤ returnRoom bs := by
  unfold State.maySend
  dsimp only
  rw [hidle, hup, if_pos rfl, Link.windowOpen, hlatest]
  simp only [Option.isNone_none, Bool.true_and, Bool.and_eq_true, decide_eq_true_eq]

theorem maySend_busy {s : State} (boundary : Bool) (h : s.link.activePort.sending.isSome = true) :
    s.maySend boundary = false := by
  have hnone : s.link.activePort.sending.isNone = false := by
    rw [← Option.not_isSome, h]
    rfl
  unfold State.maySend
  dsimp only
  rw [hnone, Bool.false_and]

/-- The air block has joined the tail of the send queue (R164). -/
def blockQueued (b : AirBlock) (s : State) : State :=
  { s with air := { s.air with block := none }, link := { s.link with queue := s.link.queue ++ [b] } }

theorem completes_programmeFrameFormed_room {s : State} {b : AirBlock} (hb : s.air.block = some b)
    (hroom : s.link.queue.length < 16) : Completes .programmeFrameFormed s (considerSend true (blockQueued b s)) := by
  unfold Completes
  show execProgrammeFrameFormed s = _
  rw [execProgrammeFrameFormed, hb]
  dsimp only
  rw [if_neg (Nat.not_le.2 hroom)]
  rfl

theorem completes_programmeFrameFormed_full {s : State} {b : AirBlock} (hb : s.air.block = some b)
    (hfull : 16 ≤ s.link.queue.length) :
    Completes .programmeFrameFormed s (considerSend true (blockQueued b (discardOldest s))) := by
  unfold Completes
  show execProgrammeFrameFormed s = _
  rw [execProgrammeFrameFormed, hb]
  dsimp only
  rw [if_pos hfull]
  rfl

/-- What a discard leaves of the link: the oldest frame gone, and at a slip its time (R164). -/
theorem discardOldest_link (s : State) : (discardOldest s).link = { s.link with
    queue := s.link.queue.drop 1, discards := satInc Config.max32 s.link.discards
    slip := if s.slipDue then some s.time else s.link.slip } := by
  unfold discardOldest
  dsimp only
  split
  · rw [raise_setLink]
  · rfl

theorem discardOldest_slips {s : State} (h : s.link.slip = none) :
    (discardOldest s).faults = (raise ⟨.linkSlip, .linkUnit, 0, 0, 0, zeros16⟩ s).faults := by
  unfold discardOldest
  rw [State.slipDue, h]
  dsimp only
  rw [if_pos rfl, raise_setLink]
  rfl

theorem completes_frameSent_active {s : State} (h : s.link.activePort.sending.isSome = true) :
    Completes (.frameSent s.link.active) s
      (considerSend false (s.setPort s.link.active { s.link.activePort with sending := none })) := by
  unfold Completes
  show execFrameSent s.link.active s = _
  rw [execFrameSent]
  dsimp only
  rw [if_pos (show (s.link.port.get s.link.active).sending.isSome = true from h), if_pos rfl]
  rfl

theorem completes_frameSent_other {s : State} {p : PortId} (hp : p ≠ s.link.active)
    (h : (s.link.port.get p).sending.isSome = true) :
    Completes (.frameSent p) s (s.setPort p { s.link.port.get p with sending := none }) := by
  unfold Completes
  show execFrameSent p s = _
  rw [execFrameSent]
  dsimp only
  rw [if_pos h, if_neg hp]

theorem completes_keepaliveDue {s : State} {p : PortId} (hk : 20 ≤ (s.link.port.get p).keepalive)
    (h : (s.link.port.get p).sending = none) :
    Completes (.keepaliveDue p) s (s.setPort p { s.link.port.get p with
      sending := some (keepaliveFrame s), keepalive := 0 }) := by
  unfold Completes
  show execKeepaliveDue p s = _
  rw [execKeepaliveDue]
  dsimp only
  rw [if_pos ⟨hk, by rw [h]; rfl⟩]

/-- Settles O51: what may be sent is `maySend`, and what sending leaves is `headSent`. -/
theorem framesLeaveInSequence : Obligations.FramesLeaveInSequence := by
  unfold Obligations.FramesLeaveInSequence
  intro s
  refine ⟨fun b hb hdown hidle hsent hempty => ?blind, fun b bs hup hlatest => ?window, fun b hb hbusy hfull => ?full,
    fun p hp hbusy => completes_frameSent_other hp hbusy,
    fun p hk hidle => ⟨_, completes_keepaliveDue hk hidle, rfl, rfl, rfl, rfl, rfl⟩⟩
  case blind =>
    have hq : (blockQueued b s).link.queue = b :: [] := by simp [blockQueued, hempty]
    have hm : (blockQueued b s).maySend true = true := maySend_blind hdown hidle hsent
    have hc := completes_programmeFrameFormed_room hb (by simp [hempty])
    rw [considerSend_sends hq hm] at hc
    have hport : (headSent b [] (blockQueued b s)).link.activePort = _ := headSent_activePort ..
    refine ⟨_, _, hc, rfl, rfl, by rw [hport], rfl, rfl, rfl, rfl, ?_, by rw [hport], rfl, headSent_otherPort .., rfl, rfl⟩
    rw [hport]
    exact congrArg (· + 1) hsent
  case window =>
    intro isOpen sends
    have hsends : ∀ (u : State) (rest : List AirBlock), u.link.nextSeq = s.link.nextSeq →
        u.link.activePort.sent = s.link.activePort.sent → sends (headSent b rest u) := by
      intro u rest hseq hsent
      have hport : (headSent b rest u).link.activePort = _ := headSent_activePort ..
      refine ⟨congrArg (· + 1) hseq, ?_, by rw [hport], _, by rw [hport], hseq, rfl, rfl, rfl⟩
      rw [hport]
      exact congrArg (· + 1) hsent
    refine ⟨fun hb hidle hempty => ?formed, fun rest hbusy hq => ?sent⟩
    case formed =>
      have hq : (blockQueued b s).link.queue = b :: [] := by simp [blockQueued, hempty]
      have hm : (blockQueued b s).maySend true = true ↔ isOpen := maySend_up true hup hidle hlatest
      have hc := completes_programmeFrameFormed_room hb (by simp [hempty])
      by_cases hopen : isOpen
      · rw [considerSend_sends hq (hm.2 hopen)] at hc
        exact ⟨_, hc, rfl, rfl, fun _ => ⟨rfl, hsends _ _ rfl rfl⟩, fun h => absurd hopen h⟩
      · rw [considerSend_waits (Bool.eq_false_iff.2 (hm.not.2 hopen))] at hc
        exact ⟨_, hc, rfl, rfl, fun h => absurd h hopen, fun _ => ⟨hq, rfl, rfl⟩⟩
    case sent =>
      let u := s.setPort s.link.active { s.link.activePort with sending := none }
      have hport : u.link.activePort = { s.link.activePort with sending := none } := Two.get_set_self ..
      have hm : u.maySend false = true ↔ isOpen := by
        rw [maySend_up false (by rw [hport]; exact hup) (by rw [hport]) (by rw [hport]; exact hlatest), hport]
        exact Iff.rfl
      have hc := completes_frameSent_active hbusy
      by_cases hopen : isOpen
      · rw [considerSend_sends (s := u) hq (hm.2 hopen)] at hc
        exact ⟨_, hc, rfl, fun _ => ⟨rfl, hsends _ _ rfl (by rw [hport])⟩, fun h => absurd hopen h⟩
      · rw [considerSend_waits (s := u) (Bool.eq_false_iff.2 (hm.not.2 hopen))] at hc
        exact ⟨_, hc, rfl, fun h => absurd h hopen, fun _ => ⟨rfl, rfl, by rw [hport]⟩⟩
  case full =>
    have hlink := discardOldest_link s
    have hbusy' : (blockQueued b (discardOldest s)).link.activePort.sending.isSome = true := by
      show ((discardOldest s).link.port.get (discardOldest s).link.active).sending.isSome = true
      rw [hlink]
      exact hbusy
    have hc := completes_programmeFrameFormed_full hb (Nat.le_of_eq hfull.symm)
    rw [considerSend_waits (maySend_busy true hbusy')] at hc
    refine ⟨_, hc, ?_, ?_, ?_, fun hslip => ⟨discardOldest_slips hslip, ?_⟩⟩
    · exact congrArg (fun l : Link => l.queue ++ [b]) hlink
    · exact congrArg Link.discards hlink
    · have hseq := congrArg Link.nextSeq hlink
      exact hseq
    · have hdue : s.slipDue = true := by rw [State.slipDue, hslip]
      exact (congrArg Link.slip hlink).trans (if_pos hdue)

/-! ## Returns (R162, R163, R170, R171) -/

theorem completes_returnFrame_bad {p : PortId} {bs : List Byte} {s : State} (arrival : Nat)
    (h : returnFrameRight bs = false) : Completes (.returnFrame p bs arrival) s (badReturn p s) := by
  unfold Completes
  show execReturnFrame p bs arrival s = _
  rw [execReturnFrame, returnFrame, h, if_pos (by rfl)]

theorem ignored_returnFrame_otherSite {p : PortId} {bs : List Byte} {s : State} (arrival : Nat)
    (h : returnFrameRight bs = true) (hsite : returnSite bs ≠ s.sections.station.siteAddress) :
    Ignored (.returnFrame p bs arrival) s := by
  unfold Ignored
  show execReturnFrame p bs arrival s = _
  rw [execReturnFrame, returnFrame, h, if_neg (by simp), if_pos hsite]

/-- What a good return makes of its port, whatever the state (R162, R163). -/
theorem good_age_latest (bs : List Byte) (x : Port) : (x.good bs).age = 0 ∧ (x.good bs).latest = some (keptReturn bs) := by
  unfold Port.good
  dsimp only
  split
  · exact ⟨rfl, rfl⟩
  · split <;> exact ⟨rfl, rfl⟩
  · exact ⟨rfl, rfl⟩

/-- The state and the training count after a good return (R163). -/
theorem good_trains (bs : List Byte) (x : Port) :
    (x.state = .down → (x.good bs).state = .training ∧ (x.good bs).training = 1) ∧
    (x.state = .training → x.training < 7 → (x.good bs).state = .training ∧ (x.good bs).training = x.training + 1) ∧
    (x.state = .training → 7 ≤ x.training → (x.good bs).state = .up) ∧ (x.state = .up → (x.good bs).state = .up) := by
  refine ⟨fun h => ?down, fun h hlt => ?counts, fun h hle => ?trained, fun h => ?up⟩
  case down => simp [Port.good, h]
  case counts => simp [Port.good, h, Config.trainReturns, show ¬ 8 ≤ x.training + 1 by omega]
  case trained => simp [Port.good, h, Config.trainReturns, show 8 ≤ x.training + 1 by omega]
  case up => simp [Port.good, h]

theorem portGood_link (p : PortId) (bs : List Byte) (s : State) : (portGood p bs s).link = { s.link with
    port := s.link.port.set p ((s.link.port.get p).good bs)
    downCond := if p = s.link.active ∧ ((s.link.port.get p).good bs).state = .up then false else s.link.downCond } := by
  unfold portGood
  extract_lets x y s1 l s2
  have h2 : s2.link = { s.link with
      port := s.link.port.set p y, downCond := if p = s.link.active ∧ y.state = .up then false else s.link.downCond } := by
    simp only [s2]
    split <;> rfl
  split
  · exact h2
  · exact h2

theorem raisePort_only (k : FaultKind) (p : PortId) (s : State) :
    raisePort k p s = { s with faults := (raisePort k p s).faults, log := (raisePort k p s).log } := raise_only ..

theorem noteTelemetry_link (p : PortId) (bs : List Byte) (s : State) : (noteTelemetry p bs s).link = { s.link with
    telemetry := some (returnTelemetry p bs), carrier := if returnCarrierOn bs then .on else .off } := by
  unfold noteTelemetry
  dsimp only
  split
  · rw [raisePort_only]
  · rfl

theorem noteTelemetry_only (p : PortId) (bs : List Byte) (s : State) :
    noteTelemetry p bs s = { s with
      link := (noteTelemetry p bs s).link, faults := (noteTelemetry p bs s).faults, log := (noteTelemetry p bs s).log } := by
  unfold noteTelemetry
  dsimp only
  split
  · rw [raisePort_only]
  · rfl

/-- TX_CARRIER is raised exactly when ON becomes OFF (R171). -/
theorem noteTelemetry_faults (p : PortId) (bs : List Byte) (s : State) :
    (noteTelemetry p bs s).faults = if s.link.carrier = .on ∧ returnCarrierOn bs = false then
      (raise ⟨.txCarrier, .linkUnit, BitVec.ofNat 64 (sideCode p), 0, 0, zeros16⟩ s).faults else s.faults := by
  unfold noteTelemetry
  dsimp only
  by_cases h : s.link.carrier = .on ∧ returnCarrierOn bs = false
  · rw [if_pos h, if_pos (show s.link.carrier = .on ∧ (!returnCarrierOn bs) = true from ⟨h.1, by simp [h.2]⟩)]
    rw [raisePort, raise_setLink]
    rfl
  · rw [if_neg h, if_neg (show ¬ (s.link.carrier = .on ∧ (!returnCarrierOn bs) = true) from
      fun h' => h ⟨h'.1, by simpa using h'.2⟩)]

theorem noteLatency_link (bs : List Byte) (s : State) : (noteLatency bs s).link = { s.link with
    latency := if (returnEcho bs - s.link.base).toNat ≤ (s.time - s.link.base).toNat then
      some (s.time - returnEcho bs).toNat else s.link.latency } := by
  unfold noteLatency
  dsimp only
  split <;> rfl

theorem noteLatency_only (bs : List Byte) (s : State) : noteLatency bs s = { s with link := (noteLatency bs s).link } := by
  unfold noteLatency
  dsimp only
  split <;> rfl

theorem linkMark_only (c : Word) (a : Nat) (s : State) : linkMark c a s = { s with
    clock := (linkMark c a s).clock, faults := (linkMark c a s).faults, log := (linkMark c a s).log } := by
  unfold linkMark
  split
  · rfl
  · split
    · rfl
    · dsimp only
      split
      · rfl
      · split
        · rw [goodMark_only]
          rfl
        · rw [badMark_only]
          rfl

/-- Away from ON_EXTERNAL LINK a LINK mark raises nothing (R20, R23). -/
theorem linkMark_quiet (c : Word) (a : Nat) {s : State} (h : s.clock.state ≠ .onExternal .link) :
    (linkMark c a s).faults = s.faults := by
  have hbad : s.clock.judges .link = true → (badMark s).faults = s.faults := by
    intro hj
    have hq := ((judges_iff _ _).1 hj).resolve_right h
    unfold badMark
    rw [hq]
    dsimp only
    split <;> rfl
  unfold linkMark
  split
  · rfl
  · rename_i hj
    split
    · rfl
    · dsimp only
      split
      · rfl
      · split
        · rw [goodMark_only]
          rfl
        · exact hbad (by simpa using hj)

/-- A good return on the port that is not active acts on that port and the telemetry alone (R162). -/
theorem goodReturn_inactive {p : PortId} {s : State} (hp : p ≠ s.link.active) (bs : List Byte) (arrival : Nat) :
    goodReturn p bs arrival s = noteTelemetry p bs (portGood p bs s) := by
  rw [goodReturn]
  exact if_neg hp

theorem goodReturn_active {p : PortId} {s : State} (hp : p = s.link.active) (bs : List Byte) (arrival : Nat) :
    goodReturn p bs arrival s =
      considerSend false (noteLatency bs (linkMark (returnMarks bs) arrival (noteTelemetry p bs (portGood p bs s)))) := by
  rw [goodReturn]
  exact if_pos hp

/-- The link once the telemetry is noted. -/
theorem telemetry_portGood_link (p : PortId) (bs : List Byte) (s : State) :
    (noteTelemetry p bs (portGood p bs s)).link = { s.link with
      port := s.link.port.set p ((s.link.port.get p).good bs)
      downCond := if p = s.link.active ∧ ((s.link.port.get p).good bs).state = .up then false else s.link.downCond
      telemetry := some (returnTelemetry p bs), carrier := if returnCarrierOn bs then .on else .off } := by
  rw [noteTelemetry_link, portGood_link]

theorem telemetry_portGood_only (p : PortId) (bs : List Byte) (s : State) :
    noteTelemetry p bs (portGood p bs s) = { s with
      link := (noteTelemetry p bs (portGood p bs s)).link, faults := (noteTelemetry p bs (portGood p bs s)).faults
      log := (noteTelemetry p bs (portGood p bs s)).log } := by
  rw [noteTelemetry_only]
  generalize (noteTelemetry p bs (portGood p bs s)).link = l
  generalize (noteTelemetry p bs (portGood p bs s)).faults = f
  generalize (noteTelemetry p bs (portGood p bs s)).log = g
  rw [portGood_only]

theorem telemetry_portGood_faults (p : PortId) (bs : List Byte) (s : State) :
    (noteTelemetry p bs (portGood p bs s)).faults = if s.link.carrier = .on ∧ returnCarrierOn bs = false then
      (raise ⟨.txCarrier, .linkUnit, BitVec.ofNat 64 (sideCode p), 0, 0, zeros16⟩ s).faults else s.faults := by
  have hc : (portGood p bs s).link.carrier = s.link.carrier := by rw [portGood_link]
  have hf : (portGood p bs s).faults = s.faults := by rw [portGood_only]
  have hr : (raise ⟨.txCarrier, .linkUnit, BitVec.ofNat 64 (sideCode p), 0, 0, zeros16⟩ (portGood p bs s)).faults =
      (raise ⟨.txCarrier, .linkUnit, BitVec.ofNat 64 (sideCode p), 0, 0, zeros16⟩ s).faults := by
    rw [raise_faults, raise_faults, portGood_only]
  rw [noteTelemetry_faults, hc, hf, hr]

/-- What considering a send keeps of the link. -/
theorem considerSend_keeps (boundary : Bool) (s : State) :
    (∀ p, ((considerSend boundary s).link.port.get p).age = (s.link.port.get p).age ∧
      ((considerSend boundary s).link.port.get p).latest = (s.link.port.get p).latest) ∧
    (considerSend boundary s).link.telemetry = s.link.telemetry ∧
    (considerSend boundary s).link.carrier = s.link.carrier ∧ (considerSend boundary s).link.latency = s.link.latency ∧
    (considerSend boundary s).link.base = s.link.base ∧ (considerSend boundary s).link.active = s.link.active := by
  rcases considerSend_cases boundary s with h | ⟨b, rest, h⟩
  · rw [h]
    exact ⟨fun p => ⟨rfl, rfl⟩, rfl, rfl, rfl, rfl, rfl⟩
  · rw [h]
    exact ⟨headSent_received b rest s, rfl, rfl, rfl, rfl, rfl⟩

/-- What a good return makes of the link, on either port; the active port's latency is its echo's when the echo is no
older than the base (R162, R170, R171). -/
theorem goodReturn_link (p : PortId) (bs : List Byte) (arrival : Nat) (s : State) :
    let t := goodReturn p bs arrival s
    (t.link.port.get p).age = 0 ∧ (t.link.port.get p).latest = some (keptReturn bs) ∧
      t.link.telemetry = some (returnTelemetry p bs) ∧
      t.link.carrier = (if returnCarrierOn bs then .on else .off) ∧
      t.link.latency = (if p = s.link.active ∧
        (returnEcho bs - s.link.base).toNat ≤ (s.time - s.link.base).toNat then some (s.time - returnEcho bs).toNat
        else s.link.latency) ∧
      t.link.base = s.link.base ∧ t.link.active = s.link.active := by
  intro t
  have hlink := telemetry_portGood_link p bs s
  have hport : ((noteTelemetry p bs (portGood p bs s)).link.port.get p) = (s.link.port.get p).good bs := by
    rw [hlink]
    exact Two.get_set_self ..
  obtain ⟨hage, hlatest⟩ := good_age_latest bs (s.link.port.get p)
  by_cases hp : p = s.link.active
  · have ht : t = _ := goodReturn_active hp bs arrival
    have htime : (linkMark (returnMarks bs) arrival (noteTelemetry p bs (portGood p bs s))).time = s.time := by
      rw [linkMark_only, telemetry_portGood_only]
    have hmark : (linkMark (returnMarks bs) arrival (noteTelemetry p bs (portGood p bs s))).link =
        (noteTelemetry p bs (portGood p bs s)).link := by rw [linkMark_only]
    have hl := noteLatency_link bs (linkMark (returnMarks bs) arrival (noteTelemetry p bs (portGood p bs s)))
    rw [htime, hmark] at hl
    obtain ⟨hports, htel, hcar, hlat, hbase, hact⟩ := considerSend_keeps false
      (noteLatency bs (linkMark (returnMarks bs) arrival (noteTelemetry p bs (portGood p bs s))))
    rw [ht, (hports p).1, (hports p).2, htel, hcar, hlat, hbase, hact, hl]
    dsimp only
    rw [hport, hage, hlatest, hlink]
    refine ⟨rfl, rfl, rfl, rfl, ?_, rfl, rfl⟩
    dsimp only
    simp only [hp, true_and]
  · have ht : t = _ := goodReturn_inactive hp bs arrival
    rw [ht, hport, hage, hlatest, hlink]
    exact ⟨rfl, rfl, rfl, rfl, (if_neg (fun h => hp h.1)).symm, rfl, rfl⟩

theorem goodReturn_only (p : PortId) (bs : List Byte) (arrival : Nat) (s : State) :
    goodReturn p bs arrival s = { s with
      link := (goodReturn p bs arrival s).link, clock := (goodReturn p bs arrival s).clock
      faults := (goodReturn p bs arrival s).faults, log := (goodReturn p bs arrival s).log } := by
  by_cases hp : p = s.link.active
  · rw [goodReturn_active hp, considerSend_only, noteLatency_only, linkMark_only, telemetry_portGood_only]
  · rw [goodReturn_inactive hp, telemetry_portGood_only]

/-- Unless it gives a clock ON_EXTERNAL LINK its mark, a good return raises TX_CARRIER alone (R171). -/
theorem goodReturn_faults {p : PortId} {s : State} (bs : List Byte) (arrival : Nat)
    (h : p ≠ s.link.active ∨ s.clock.state ≠ .onExternal .link) :
    (goodReturn p bs arrival s).faults = (noteTelemetry p bs (portGood p bs s)).faults := by
  by_cases hp : p = s.link.active
  · have hc : (noteTelemetry p bs (portGood p bs s)).clock.state ≠ .onExternal .link := by
      rw [telemetry_portGood_only]
      exact h.resolve_left (not_not.2 hp)
    rw [goodReturn_active hp, considerSend_only, noteLatency_only]
    exact linkMark_quiet _ _ hc
  · rw [goodReturn_inactive hp]

/-- Settles O37: the link by `goodReturn_link`, the fault unit by `telemetry_portGood_faults`. -/
theorem returnsCarryTelemetryAndLatency : Obligations.ReturnsCarryTelemetryAndLatency := by
  unfold Obligations.ReturnsCarryTelemetryAndLatency
  intro s p bs arrival hright hsite flags echo reaches
  obtain ⟨hage, hlatest, htel, hcar, hlat, hbase, hact⟩ := goodReturn_link p bs arrival s
  refine ⟨_, completes_returnFrame_good arrival hright hsite, hage, hlatest, htel, hcar, fun hp => ?_,
    fun hp => ⟨fun hr => ?_, fun hr => ?_⟩, fun hclock => ?_, hbase, hact, goodReturn_only ..⟩
  · exact hlat.trans (if_neg fun h => hp h.1)
  · exact hlat.trans (if_pos ⟨hp, hr⟩)
  · exact hlat.trans (if_neg fun h => hr h.2)
  · rw [goodReturn_faults bs arrival hclock, telemetry_portGood_faults]
    refine ⟨fun hon hoff => if_pos ⟨hon, hoff⟩, fun h => if_neg ?_⟩
    rintro ⟨hon, hoff⟩
    rcases h with h | h
    · exact h hon
    · have hoff : flags.getLsbD 0 = false := hoff
      rw [hoff] at h
      cases h

/-! ## Ports that fall (R163, R173) -/

theorem completes_linkBreak {s : State} {p : PortId} (h : (s.link.port.get p).state ≠ .down) :
    Completes (.linkBreak p) s (portFalls p .lineBreak s) := by
  unfold Completes
  show execLinkBreak p s = _
  rw [execLinkBreak, if_neg h]

theorem timedOut_iff (s : State) (p : PortId) : s.timedOut p = true ↔
    (s.link.port.get p).state ≠ .down ∧ s.sections.station.returnTimeout ≤ (s.link.port.get p).age := by
  simp [State.timedOut]

theorem completes_returnTimeout {s : State} {p : PortId} (h : s.timedOut p = true) :
    Completes (.returnTimeout p) s (workOutHold (portFalls p .timeout s)) := by
  unfold Completes
  show execReturnTimeout p s = _
  rw [execReturnTimeout, if_pos h]

theorem ignored_returnTimeout {s : State} {p : PortId} (h : (s.link.port.get p).age < s.sections.station.returnTimeout) :
    Ignored (.returnTimeout p) s := by
  unfold Ignored
  show execReturnTimeout p s = _
  rw [execReturnTimeout, if_neg]
  rw [timedOut_iff]
  omega

/-- When the fall of a port makes the LINK_DOWN condition hold (R173, R179). -/
def State.linkFalls (s : State) (p : PortId) : Prop :=
  p = s.link.active ∧ (s.link.port.get p.other).state ≠ .up ∧ s.link.downCond = false

/-- A port DOWN by a fall, before the LINK_DOWN condition is noted (R163). -/
def portDown (p : PortId) (s : State) : State :=
  { s with link := { s.link with
    port := s.link.port.set p { s.link.port.get p with state := .down, training := 0 }
    notUp := if p = s.link.active then true else s.link.notUp } }

theorem portFalls_eq (p : PortId) (c : LinkCause) (s : State) :
    portFalls p c s = noteDown p (handLog (linkEntry p (s.link.port.get p).state c (portDown p s)) (portDown p s)) := by
  have h : (if p = s.link.active then
      { s.setPort p { s.link.port.get p with state := .down, training := 0 } with
        link := { (s.setPort p { s.link.port.get p with state := .down, training := 0 }).link with notUp := true } }
      else s.setPort p { s.link.port.get p with state := .down, training := 0 }) = portDown p s := by
    unfold portDown
    split <;> rfl
  rw [← h]
  rfl

/-- Noting the fall raises LINK_DOWN once for the condition (R173, R179). -/
theorem noteDown_falls {p : PortId} {s : State} (h : s.linkFalls p) : noteDown p s =
    { raise ⟨.linkDown, .linkUnit, BitVec.ofNat 64 (sideCode p), 0, 0, zeros16⟩ s with
      link := { s.link with downCond := true } } := by
  obtain ⟨hact, hother, hcond⟩ := h
  rw [noteDown, if_pos ⟨hact, hother, by rw [hcond]; rfl⟩]
  exact raise_setLink ..

theorem noteDown_stays {p : PortId} {s : State} (h : ¬ s.linkFalls p) : noteDown p s = s := by
  rw [noteDown, if_neg]
  rintro ⟨hact, hother, hcond⟩
  exact h ⟨hact, hother, by simpa using hcond⟩

/-- What a fall makes of the link, and of the fault unit (R163, R173). -/
theorem portFalls_says (p : PortId) (c : LinkCause) (s : State) :
    (portFalls p c s).link = { (portDown p s).link with
      downCond := (portFalls p c s).link.downCond } ∧
      (s.linkFalls p →
        (portFalls p c s).faults = (raise ⟨.linkDown, .linkUnit, BitVec.ofNat 64 (sideCode p), 0, 0, zeros16⟩ s).faults ∧
        (portFalls p c s).link.downCond = true) ∧
      (¬ s.linkFalls p → (portFalls p c s).faults = s.faults) := by
  let u := handLog (linkEntry p (s.link.port.get p).state c (portDown p s)) (portDown p s)
  have hother : u.link.port.get p.other = s.link.port.get p.other := Two.get_set_other ..
  have hiff : u.linkFalls p ↔ s.linkFalls p := by
    unfold State.linkFalls
    rw [hother]
    exact Iff.rfl
  rw [portFalls_eq]
  by_cases h : s.linkFalls p
  · have hn := noteDown_falls (hiff.2 h)
    simp only [u] at hn
    rw [hn]
    refine ⟨rfl, fun _ => ⟨?_, rfl⟩, fun h' => absurd h h'⟩
    dsimp only
    rw [raise_faults, raise_faults]
    rfl
  · have hn := noteDown_stays (hiff.not.2 h)
    simp only [u] at hn
    rw [hn]
    exact ⟨rfl, fun h' => absurd h' h, fun _ => rfl⟩

theorem portDown_port (p : PortId) (s : State) :
    (portDown p s).link.port.get p = { s.link.port.get p with state := .down, training := 0 } ∧
      (portDown p s).link.port.get p.other = s.link.port.get p.other := ⟨Two.get_set_self .., Two.get_set_other ..⟩

/-- Settles O49: a good return trains by `good_trains`, and a fall is `portFalls_says`. -/
theorem portsTrainAndFall : Obligations.PortsTrainAndFall := by
  unfold Obligations.PortsTrainAndFall
  refine ⟨fun s p bs arrival => ⟨completes_returnFrame_bad arrival, ignored_returnFrame_otherSite arrival,
    fun hright hsite hp => ?good⟩, fun s p hdown => ⟨?breaks, fun hage => ?timeout, ignored_returnTimeout⟩⟩
  case good =>
    have hport : (goodReturn p bs arrival s).link.port.get p = (s.link.port.get p).good bs := by
      rw [goodReturn_inactive hp, telemetry_portGood_link]
      exact Two.get_set_self ..
    obtain ⟨hfirst, hcounts, htrained, hup⟩ := good_trains bs (s.link.port.get p)
    refine ⟨_, completes_returnFrame_good arrival hright hsite, ?_⟩
    rw [hport]
    refine ⟨(good_age_latest bs _).1, hfirst, hcounts, htrained, hup, ?_⟩
    rw [goodReturn_inactive hp, telemetry_portGood_only, telemetry_portGood_link]
    exact ⟨Two.get_set_other .., rfl, rfl, rfl⟩
  case breaks =>
    obtain ⟨hlink, hfalls, hstays⟩ := portFalls_says p .lineBreak s
    obtain ⟨hself, hother⟩ := portDown_port p s
    refine ⟨_, completes_linkBreak hdown, ?_, ?_, ?_, ?_, fun hact hup hcond => hfalls ⟨hact, hup, hcond⟩, fun h => ?_,
      portFalls_only ..⟩
    · rw [hlink, hself]
    · rw [hlink, hself]
    · rw [hlink, hother]
    · rw [hlink]
      rfl
    · refine hstays ?_
      rintro ⟨hact, -, hcond⟩
      rcases h with h | h
      · exact h hact
      · rw [hcond] at h
        cases h
  case timeout =>
    obtain ⟨hlink, -⟩ := portFalls_says p .timeout s
    obtain ⟨hself, hother⟩ := portDown_port p s
    have hw : ∀ u : State, (workOutHold u).link.port = u.link.port ∧ (workOutHold u).link.queue = u.link.queue :=
      fun u => ⟨rfl, rfl⟩
    refine ⟨_, completes_returnTimeout ((timedOut_iff s p).2 ⟨hdown, hage⟩), ?_, ?_, ?_, ?_⟩
    · rw [(hw _).1, hlink, hself]
    · rw [(hw _).1, hlink, hother]
    · rw [(hw _).2, hlink]
      rfl
    · rw [workOutHold_only, portFalls_only]

/-! ## Changes of the active port (R172, R174, R175) -/

/-- The clock once the active port has changed (R24). -/
def Clock.portMoved (c : Clock) : Clock :=
  match c.state with
  | .onExternal .link => { c with
      mark := none, missed := 0, lost := true, pending := if c.lost then c.pending else some (.lost .link) }
  | .qualifying .link => { c with
      good := 0, mark := none, missed := 0
      pending := if c.pending = some (.qualified .link) then none else c.pending }
  | .onInternal | .qualifying .house | .onExternal .house => c

/-- CLOCK_LOSS of a change of the active port, once (R24, R179). -/
def State.linkLost (s : State) : Prop := s.clock.state = .onExternal .link ∧ s.clock.lost = false

theorem clockPortChanged_loses {s : State} (h : s.linkLost) : clockPortChanged s =
    { raise ⟨.clockLoss, .stationClock, 2, 0, 0, zeros16⟩ s with clock := s.clock.portMoved } := by
  obtain ⟨hst, hl⟩ := h
  have hcode : BitVec.ofNat 64 ClockSource.link.code = 2 := rfl
  unfold clockPortChanged Clock.portMoved
  rw [hst]
  dsimp only
  rw [hl, if_neg (by simp), if_neg (by simp), loseClock_eq, raise_setClock, hcode]
  simp only [hst]

theorem clockPortChanged_quiet {s : State} (h : ¬ s.linkLost) :
    clockPortChanged s = { s with clock := s.clock.portMoved } := by
  unfold clockPortChanged Clock.portMoved
  split
  · rename_i hst
    have hl : s.clock.lost = true := by
      by_contra hl
      exact h ⟨hst, by simpa using hl⟩
    simp only [hst, hl, if_true]
  · rename_i hst
    simp only [hst]
  all_goals
    rename_i hst
    simp only [hst]

/-- CLOCK_LOSS where the change of the active port loses the reference (R24). -/
def lossRaised (u : State) : State :=
  if u.clock.state = .onExternal .link ∧ u.clock.lost = false then
    raise ⟨.clockLoss, .stationClock, 2, 0, 0, zeros16⟩ u else u

theorem lossRaised_setLink (l : Link) (u : State) :
    lossRaised { u with link := l } = { lossRaised u with link := l } := by
  unfold lossRaised
  split
  · exact raise_setLink ..
  · rfl

theorem lossRaised_only (u : State) :
    lossRaised u = { u with faults := (lossRaised u).faults, log := (lossRaised u).log } := by
  unfold lossRaised
  split
  · exact raise_only ..
  · rfl

theorem clockPortChanged_eq (u : State) :
    clockPortChanged u = { lossRaised u with clock := u.clock.portMoved } := by
  by_cases h : u.linkLost
  · have hl : lossRaised u = raise ⟨.clockLoss, .stationClock, 2, 0, 0, zeros16⟩ u := if_pos h
    rw [clockPortChanged_loses h, hl]
  · have hl : lossRaised u = u := if_neg h
    rw [clockPortChanged_quiet h, hl]

/-- The link with a port newly active (R172). -/
def Link.moved (p : PortId) (l : Link) : Link :=
  { l with active := p, pendingSwitch := none, downCond := false, notUp := false }

theorem changePort_eq {p : PortId} {c : LinkCause} {s : State} (hup : (s.link.port.get p).state = .up) :
    changePort p c s = { handLog (linkEntry p .up c { s with link := s.link.moved p }) s with link := s.link.moved p } := by
  unfold changePort
  rw [hup]
  rfl

/-- The state once a port has become active and the clock and the hold have followed (R24, R172, R175). -/
theorem portMoves_says (l : Link) (u : State) :
    let t := workOutHold (clockPortChanged { u with link := l })
    t.link = { l with hold := (workOutHold { u with link := l }).link.hold } ∧ t.time = u.time ∧
      t = { lossRaised u with link := t.link, clock := u.clock.portMoved } := by
  intro t
  have hc : clockPortChanged { u with link := l } = { lossRaised u with link := l, clock := u.clock.portMoved } := by
    rw [clockPortChanged_eq, lossRaised_setLink]
  have hloss := lossRaised_only u
  have hl : t.link = { l with hold := (workOutHold { u with link := l }).link.hold } := by
    have h : t.link = (workOutHold { u with link := l }).link := by
      refine workOutHold_link_eq ?_ ?_ ?_ <;> (rw [hc, hloss])
    rw [h]
    rfl
  refine ⟨hl, ?_, ?_⟩
  · show (workOutHold (clockPortChanged { u with link := l })).time = _
    have htime : (lossRaised u).time = u.time := by rw [hloss]
    rw [workOutHold_only, hc]
    exact htime
  · have hkeeps : ∀ v : State, v = { lossRaised u with link := l, clock := u.clock.portMoved } →
        workOutHold v = { lossRaised u with link := (workOutHold v).link, clock := u.clock.portMoved } := by
      intro v hv
      rw [workOutHold_only]
      generalize (workOutHold v).link = L
      rw [hv]
    exact hkeeps _ hc

/-- On the preferred port no hold runs (R175). -/
theorem workOutHold_preferred {u : State} (h : u.link.active = u.sections.station.preferred) :
    (workOutHold u).link.hold = none := by
  have hw : u.revertWanted = false := by simp [State.revertWanted, h]
  simp [workOutHold, hw]

/-- The entry of a change reads the active port, the ports and the next sequence of the link, and the time. -/
theorem linkEntry_eq {p : PortId} {o : PortState} {c : LinkCause} {s t : State} (ht : t.time = s.time)
    (hport : t.link.port = s.link.port) (hact : t.link.active = s.link.active) (hseq : t.link.nextSeq = s.link.nextSeq) :
    linkEntry p o c t = linkEntry p o c s := by
  unfold linkEntry
  rw [ht, hport, hact, hseq]

theorem failoverDue_iff (s : State) : s.failoverDue = true ↔
    (s.link.port.get s.link.active).state = .down ∧ (s.link.port.get s.link.active.other).state = .up := by
  simp [State.failoverDue, Link.activePort]

theorem completes_failover {s : State} (h : s.failoverDue = true) : Completes .failover s
    (workOutHold (clockPortChanged (raisePort .linkFailover s.link.active.other
      (changePort s.link.active.other .failover s)))) := by
  unfold Completes
  show execFailover s = _
  rw [execFailover, if_pos h]

section
variable {s : State} (hup : (s.link.port.get s.link.active).state ≠ .down)
include hup

theorem not_failoverDue : ¬ s.failoverDue = true := by
  rw [failoverDue_iff]
  exact fun h => hup h.1

theorem completes_pendingLinkSwitch_made {p : PortId} (hp : s.link.pendingSwitch = some p)
    (hport : (s.link.port.get p).state = .up) (hne : p ≠ s.link.active) :
    Completes .pendingLinkSwitch s (workOutHold (clockPortChanged (changePort p .switch s))) := by
  unfold Completes
  show execPendingLinkSwitch s = _
  rw [execPendingLinkSwitch, hp]
  dsimp only
  rw [if_neg (not_failoverDue hup), if_pos (by simp [State.switchable, hport, hne])]

theorem completes_pendingLinkSwitch_cleared {p : PortId} (hp : s.link.pendingSwitch = some p)
    (hport : (s.link.port.get p).state ≠ .up) :
    Completes .pendingLinkSwitch s { s with link := { s.link with pendingSwitch := none } } := by
  unfold Completes
  show execPendingLinkSwitch s = _
  rw [execPendingLinkSwitch, hp]
  dsimp only
  rw [if_neg (not_failoverDue hup), if_neg (by simp [State.switchable, hport])]

theorem completes_revert {h : Time} (hp : s.link.pendingSwitch = none) (hw : s.revertWanted = true)
    (hh : s.link.hold = some h) (hr : reached s.time h = true) : Completes .revert s
      (workOutHold (clockPortChanged (changePort s.sections.station.preferred .revert s))) := by
  have hdue : s.revertDue = true := by
    rw [State.revertDue, hw, hh, hp, Bool.eq_false_iff.2 (not_failoverDue hup)]
    simpa using hr
  unfold Completes
  show execRevert s = _
  rw [execRevert, if_pos hdue]

end

theorem linkSwitch_undefined {w : Word} (h : 1 < w.toNat) (s : State) : linkSwitch w s = (.badArgument, s) := by
  have h0 : w ≠ 0 := by rintro rfl; simp at h
  have h1 : w ≠ 1 := by rintro rfl; simp at h
  rw [linkSwitch, if_neg h0, if_neg h1]

theorem linkSwitch_port {w : Word} {p : PortId} (h : (w = 0 ∧ p = .a) ∨ (w = 1 ∧ p = .b)) (s : State) :
    linkSwitch w s = if p = s.link.active then (.done, { s with link := { s.link with pendingSwitch := none } })
      else if (s.link.port.get p).state ≠ .up then (.portDown, s)
      else (.done, { s with link := { s.link with pendingSwitch := some p } }) := by
  rcases h with ⟨rfl, rfl⟩ | ⟨rfl, rfl⟩ <;> rfl

/-- Settles O50: each change is `changePort` with the clock by `clockPortChanged_eq` and the hold worked out again. -/
theorem activePortChanges : Obligations.ActivePortChanges := by
  unfold Obligations.ActivePortChanges
  refine ⟨fun s => ?changes, fun s => ⟨fun w h => linkSwitch_undefined h s, fun w p hw => ?answers⟩⟩
  case changes =>
    intro clock loss goesOn
    have hclock : clock = s.clock.portMoved := rfl
    have hmoves : ∀ (p : PortId) (c : LinkCause) (g : LogEntry → State), (∀ e, (g e).time = s.time) →
        (∀ e, (g e).clock = s.clock) → (∀ e, (g e).sections = s.sections) →
        let t := workOutHold (clockPortChanged
          { g (linkEntry p .up c { s with link := s.link.moved p }) with link := s.link.moved p })
        goesOn p t ∧ t = { loss (g (linkEntry p .up c t)) with link := t.link, clock := clock } ∧
          (s.sections.station.preferred = p → t.link.hold = none) := by
      intro p c g htime hc hs t
      obtain ⟨hlink, ht, hall⟩ := portMoves_says (s.link.moved p) (g (linkEntry p .up c { s with link := s.link.moved p }))
      have hlink : t.link = _ := hlink
      have ht : t.time = s.time := ht.trans (htime _)
      have hentry : linkEntry p .up c t = linkEntry p .up c { s with link := s.link.moved p } :=
        linkEntry_eq ht (by rw [hlink]) (by rw [hlink]) (by rw [hlink])
      refine ⟨?_, ?_, fun hp => ?_⟩
      · simp only [goesOn]
        rw [hlink]
        exact ⟨rfl, rfl, rfl, rfl, rfl⟩
      · have hloss : ∀ e, loss (g e) = lossRaised (g e) := fun e => by
          unfold lossRaised
          rw [hc]
        rw [hentry, hloss, hclock]
        exact hall.trans (congrArg
          (fun k : Clock => { lossRaised (g (linkEntry p .up c { s with link := s.link.moved p })) with
            link := t.link, clock := k.portMoved }) (hc _))
      · rw [hlink]
        exact workOutHold_preferred (by rw [hs]; exact hp.symm)
    refine ⟨fun hdown hup => ?failover, fun p hact hp => ⟨fun hup hne => ?switch, fun hport => ?cleared⟩,
      fun h hact hp hauto hpref hup hh hr => ?revert⟩
    case failover =>
      intro p
      have hc := completes_failover ((failoverDue_iff s).2 ⟨hdown, hup⟩)
      rw [changePort_eq hup, raisePort, raise_setLink] at hc
      obtain ⟨hgoes, hall, -⟩ := hmoves p .failover (fun e =>
        raise ⟨.linkFailover, .linkUnit, BitVec.ofNat 64 (sideCode p), 0, 0, zeros16⟩ (handLog e s))
        (by simp) (by simp) (by simp)
      exact ⟨_, hc, hgoes, hall⟩
    case switch =>
      have hc := completes_pendingLinkSwitch_made hact hp hup hne
      rw [changePort_eq hup] at hc
      obtain ⟨hgoes, hall, -⟩ := hmoves p .switch (fun e => handLog e s) (fun _ => rfl) (fun _ => rfl) (fun _ => rfl)
      exact ⟨_, hc, hgoes, hall⟩
    case cleared => exact completes_pendingLinkSwitch_cleared hact hp hport
    case revert =>
      intro p
      have hw : s.revertWanted = true := by simp [State.revertWanted, Link.port', hauto, hpref, hup]
      have hc := completes_revert hact hp hw hh hr
      rw [changePort_eq hup] at hc
      obtain ⟨hgoes, hall, hhold⟩ := hmoves p .revert (fun e => handLog e s) (fun _ => rfl) (fun _ => rfl) (fun _ => rfl)
      exact ⟨_, hc, hgoes, hhold rfl, hall⟩
  case answers =>
    rw [linkSwitch_port hw]
    exact ⟨fun hp => if_pos hp, fun hp hd => by rw [if_neg hp, if_pos hd], fun hp hu => by
      rw [if_neg hp, if_neg (not_not.2 hu)]⟩

end Sys2Proof.Machine


/-! # Faults: raising and acknowledging (R35, R178 to R181, R186). -/

namespace Sys2Proof.Machine

open Sys2Proof

/-! ## Raising (R178, R180) -/

/-- Setting a kind that is set changes nothing. -/
theorem setKind_of_set {w : BitVec 18} {k : FaultKind} (h : w.getLsbD k.code = true) : setKind w k = w := by
  apply BitVec.eq_of_getLsbD_eq
  intro i hi
  rw [getLsbD_setKind w k hi]
  by_cases hik : i = k.code
  · rw [hik, h, Bool.true_or]
  · simp [hik]

theorem raise_masked {s : State} {r : Raising} (h : s.sections.station.mask.getLsbD r.kind.code = true) :
    raise r s = { s with faults := { s.faults with status := setKind s.faults.status r.kind } } := by
  have hn : s.newFault r.kind = false := by simp [State.newFault, h]
  simp [raise, hn, Faults.take, h]

theorem raise_repeated {s : State} {r : Raising} (hm : s.sections.station.mask.getLsbD r.kind.code = false)
    (hs : s.faults.status.getLsbD r.kind.code = true) :
    raise r s = { s with faults := { s.faults with repeated := setKind s.faults.repeated r.kind } } := by
  have hn : s.newFault r.kind = false := by simp [State.newFault, hs]
  simp [raise, hn, Faults.take, hm, hs]

section
variable {s : State} {r : Raising} (hm : s.sections.station.mask.getLsbD r.kind.code = false)
  (hs : s.faults.status.getLsbD r.kind.code = false)
include hm hs

/-- A new unmasked raising takes a free first-fault record (R178, R180). -/
theorem raise_new_free (hf : s.faults.first = none) : (raise r s).faults = { s.faults with
    status := setKind s.faults.status r.kind
    first := some ⟨r.kind, s.time, r.raisedBy, r.subject, r.message, r.snapshot⟩ } := by
  rw [raise_faults, Faults.take, hm, hs, if_neg (by simp), if_neg (by simp), hf]

/-- With the record held it sets the multiple flag (R178, R180). -/
theorem raise_new_held {f : FirstFault} (hf : s.faults.first = some f) : (raise r s).faults = { s.faults with
    status := setKind s.faults.status r.kind, multiple := true } := by
  rw [raise_faults, Faults.take, hm, hs, if_neg (by simp), if_neg (by simp)]
  split
  · rename_i hnone
    rw [hf] at hnone
    cases hnone
  · rfl

/-- The log writer after a new unmasked raising of an ON_AIR kind (R178, R186). -/
theorem raise_new_onAir_log (hc : s.classOf r.kind = .onAir) :
    (raise r s).log = (handLog (faultEntry s r s.faults.first.isNone) s).log.urge s.notices
      (faultEntry s r s.faults.first.isNone) := by
  have hn : s.newFault r.kind = true := by simp [State.newFault, hm, hs]
  unfold raise
  dsimp only
  rw [if_pos hn, if_pos hc]
  rfl

end

theorem notices_iff (s : State) :
    s.notices = true ↔ s.survey.state = .running ∧ s.sections.station.noticeAddr ≠ 0 := by
  simp [State.notices, State.running]

theorem not_notices {s : State} (h : s.survey.state ≠ .running ∨ s.sections.station.noticeAddr = 0) : s.notices = false := by
  rw [Bool.eq_false_iff, Ne, notices_iff]
  rintro ⟨hrun, haddr⟩
  exact h.elim (· hrun) haddr

/-- Settles O52: the three answers of the fault unit are `raise_masked`, `raise_repeated`, and `raise_new_free`
or `raise_new_held`. -/
theorem raisingIsRecordedOnce : Obligations.RaisingIsRecordedOnce := by
  unfold Obligations.RaisingIsRecordedOnce
  intro s r
  refine ⟨?status, fun hm => ?masked, fun hm => ⟨fun hs => ?repeated, fun hs => ?new⟩, raise_only r s⟩
  case status =>
    show _ = setKind s.faults.status r.kind
    cases hm : s.sections.station.mask.getLsbD r.kind.code
    · cases hs : s.faults.status.getLsbD r.kind.code
      · cases hf : s.faults.first with
        | none => rw [raise_new_free hm hs hf]
        | some f => rw [raise_new_held hm hs hf]
      · rw [raise_repeated hm hs, setKind_of_set hs]
    · rw [raise_masked hm]
  case masked =>
    rw [raise_masked hm]
    exact ⟨rfl, rfl, rfl, rfl⟩
  case repeated =>
    rw [raise_repeated hm hs]
    exact ⟨rfl, rfl⟩
  case new =>
    refine ⟨?_, fun hfirst => ?_, fun f hfirst => ?_, fun hc => ?_⟩
    · cases hf : s.faults.first with
      | none => rw [raise_new_free hm hs hf]
      | some f => rw [raise_new_held hm hs hf]
    · rw [raise_new_free hm hs hfirst]
      exact ⟨rfl, rfl⟩
    · rw [raise_new_held hm hs hfirst]
      exact ⟨hfirst, rfl⟩
    · rw [raise_new_onAir_log hm hs hc]
      refine ⟨rfl, fun hrun haddr => ?_, fun hno hcons => ?_⟩
      · simp [LogWriter.urge, (notices_iff s).2 ⟨hrun, haddr⟩]
      · have hkept : (handLog (faultEntry s r s.faults.first.isNone) s).log.considers = false :=
          hand_considers _ _ _ _ _ _ hcons
        simp [LogWriter.urge, hkept, not_notices hno]

/-! ## Acknowledging (R181) -/

theorem faultAck_refused {w : Word} (h : 2 ^ 18 ≤ w.toNat) (s : State) : faultAck w s = (.badArgument, s) := by
  have hne : w >>> 18 ≠ 0 := by
    intro h0
    have hz := congrArg BitVec.toNat h0
    rw [BitVec.toNat_ushiftRight, Nat.shiftRight_eq_div_pow] at hz
    have hpos : 0 < w.toNat / 2 ^ 18 := Nat.div_pos h (by decide)
    rw [hz] at hpos
    exact absurd hpos (by decide)
  rw [faultAck, if_pos hne]

theorem faultAck_taken {w : Word} (h : w.toNat < 2 ^ 18) (s : State) :
    faultAck w s = (.done, { s with faults := s.faults.ack (w.setWidth 18) }) := by
  have heq : w >>> 18 = 0 := by
    apply BitVec.eq_of_toNat_eq
    rw [BitVec.toNat_ushiftRight, Nat.shiftRight_eq_div_pow]
    exact Nat.div_eq_of_lt h
  rw [faultAck, if_neg (not_not.2 heq)]

/-- The bits of the status and repeat flags after an acknowledgement. -/
theorem ack_bits (f : Faults) (w : Word) {k : Nat} (hk : k < 18) :
    (f.ack (w.setWidth 18)).status.getLsbD k = (f.status.getLsbD k && !w.getLsbD k) ∧
      (f.ack (w.setWidth 18)).repeated.getLsbD k = (f.repeated.getLsbD k && !w.getLsbD k) := by
  constructor <;> simp [Faults.ack, hk]

/-- The record is freed, with the multiple flag, exactly when its kind is named. -/
theorem ack_first {f : Faults} {x : FirstFault} (hx : f.first = some x) (kinds : BitVec 18) :
    (kinds.getLsbD x.kind.code = true → (f.ack kinds).first = none ∧ (f.ack kinds).multiple = false) ∧
      (kinds.getLsbD x.kind.code = false → (f.ack kinds).first = some x ∧ (f.ack kinds).multiple = f.multiple) := by
  constructor <;> (intro h; simp [Faults.ack, hx, h])

theorem ack_none (f : Faults) : f.ack 0 = f := by
  have hheld : f.first.any (fun r => (0 : BitVec 18).getLsbD r.kind.code) = false := by
    cases f.first <;> simp
  have hand : ∀ w : BitVec 18, w &&& ~~~0 = w := fun w => BitVec.and_allOnes
  rw [Faults.ack, hheld, hand, hand, if_neg (by simp), if_neg (by simp)]

/-- STATION_FAULT is lit by an unmasked ON_AIR kind whose status is set (R35). -/
theorem stationFault_iff (s : State) : s.stationFault = true ↔ ∃ k, s.classOf k = .onAir ∧
    s.sections.station.mask.getLsbD k.code = false ∧ s.faults.status.getLsbD k.code = true := by
  have hall : ∀ k : FaultKind, k ∈ faultKinds := by intro k; cases k <;> decide
  simp [State.stationFault, hall, and_assoc]

/-- Settles O53: FAULT_ACK is taken by `takeAlone_taken`, and what it clears is `ack_bits` and `ack_first`. -/
theorem acknowledgedFaultsAreCleared : Obligations.AcknowledgedFaultsAreCleared := by
  unfold Obligations.AcknowledgedFaultsAreCleared
  intro s i q w hrun hfree
  have htaken : exec (.faultAck i q w) s = .next (answer (requestOf i q 15 w 0 0) (faultAck w s)) :=
    takeAlone_taken (r := requestOf i q 15 w 0 0) (takes_of_running hrun hfree) _
  refine ⟨fun h => ?refused, fun h => ?taken, fun c t => ?answered⟩
  case refused => rw [Completes, htaken, faultAck_refused h]
  case taken =>
    refine ⟨s.faults.ack (w.setWidth 18), ?_, fun k hk => ack_bits s.faults w hk, fun x hx => ?_, fun h0 => ?_,
      stationFault_iff _⟩
    · rw [Completes, htaken, faultAck_taken h]
    · have hbit : (w.setWidth 18).getLsbD x.kind.code = w.getLsbD x.kind.code := by
        rw [BitVec.getLsbD_setWidth, decide_eq_true x.kind.code_lt, Bool.true_and]
      have hfirst := ack_first hx (w.setWidth 18)
      rwa [hbit] at hfirst
    · rw [h0]
      exact ack_none _
  case answered =>
    have hresult : resultOf (requestOf i q 15 w 0 0) c t.time t.running =
        ⟨i, c, t.time.setWidth 32, if t.survey.state = .running then .first else .held⟩ := by
      unfold resultOf
      by_cases hr : t.survey.state = .running
      · rw [if_pos hr, if_pos ((running_iff t).2 hr)]
        rfl
      · rw [if_neg hr, if_neg (fun h => hr ((running_iff t).1 h))]
        rfl
    rw [answer]
    dsimp only
    rw [hresult]
    rfl

end Sys2Proof.Machine


/-! # The log writer and its notices (R183 to R187). -/

namespace Sys2Proof.Machine

open Sys2Proof

/-! ## What taking, handing and raising leave of the log writer -/

/-- Taking entries changes the queue, the write in flight, the dropped count and the consideration alone. -/
theorem takeNext_only (set : LogSettings) (now : Time) (q : List LogEntry) (l : LogWriter) :
    LogWriter.takeNext set now q l = { l with
      queue := (LogWriter.takeNext set now q l).queue, writing := (LogWriter.takeNext set now q l).writing
      dropped := (LogWriter.takeNext set now q l).dropped
      considers := (LogWriter.takeNext set now q l).considers } := by
  induction q generalizing l with
  | nil => rfl
  | cons e q ih =>
    unfold LogWriter.takeNext
    split
    · split
      · rfl
      · split <;> rfl
    · rw [ih]
      rfl

theorem pump_only (running : Bool) (set : LogSettings) (notice : Addr) (now : Time) (l : LogWriter) :
    l.pump running set notice now = { l with
      queue := (l.pump running set notice now).queue, writing := (l.pump running set notice now).writing
      dropped := (l.pump running set notice now).dropped
      considers := (l.pump running set notice now).considers } := by
  unfold LogWriter.pump
  split
  · exact takeNext_only ..
  · rfl

theorem hand_only (running : Bool) (set : LogSettings) (notice : Addr) (now : Time) (e : LogEntry) (l : LogWriter) :
    l.hand running set notice now e = { l with
      queue := (l.hand running set notice now e).queue, writing := (l.hand running set notice now e).writing
      dropped := (l.hand running set notice now e).dropped
      considers := (l.hand running set notice now e).considers } := by
  unfold LogWriter.hand
  split
  · rw [pump_only]
  · rfl

theorem handLog_log_only (e : LogEntry) (s : State) : (handLog e s).log = { s.log with
    queue := (handLog e s).log.queue, writing := (handLog e s).log.writing, dropped := (handLog e s).log.dropped
    considers := (handLog e s).log.considers } := hand_only ..

/-- The log writer after a raising: the FAULT entry of a new fault, urgent for an ON_AIR kind (R178, R186). -/
theorem raise_log (r : Raising) (s : State) : (raise r s).log =
    if s.newFault r.kind then
      if s.classOf r.kind = .onAir then
        (handLog (faultEntry s r s.faults.first.isNone) s).log.urge s.notices (faultEntry s r s.faults.first.isNone)
      else (handLog (faultEntry s r s.faults.first.isNone) s).log
    else s.log := by
  unfold raise
  dsimp only
  split
  · split <;> rfl
  · rfl

/-- A raising changes the log writer as an entry handed does, and can set the urgent flag (R178, R186). -/
theorem raise_log_only (r : Raising) (s : State) : (raise r s).log = { s.log with
    queue := (raise r s).log.queue, writing := (raise r s).log.writing, dropped := (raise r s).log.dropped
    considers := (raise r s).log.considers, urgent := (raise r s).log.urgent, awaited := (raise r s).log.awaited } := by
  have hhand := handLog_log_only (faultEntry s r s.faults.first.isNone) s
  rw [raise_log]
  generalize (handLog (faultEntry s r s.faults.first.isNone) s).log = m at hhand ⊢
  split
  · split
    · rw [hhand]
      rfl
    · rw [hhand]
  · rfl

theorem raise_notice (r : Raising) (s : State) :
    (raise r s).log.notice = s.log.notice ∧ (raise r s).log.lastSent = s.log.lastSent := by
  rw [raise_log_only]
  exact ⟨rfl, rfl⟩

/-- A raising never clears the urgent flag. -/
theorem raise_urgent {r : Raising} {s : State} (h : s.log.urgent = true) : (raise r s).log.urgent = true := by
  rw [raise_log]
  split
  · split
    · rfl
    · rw [handLog_log_only]
      exact h
  · exact h

/-- A raising on a state with another log writer (R178). -/
theorem raise_setLog (r : Raising) (l : LogWriter) (s : State) :
    raise r { s with log := l } = { raise r s with log := (raise r { s with log := l }).log } := by
  have hf : (raise r { s with log := l }).faults = (raise r s).faults := by
    rw [raise_faults, raise_faults]
  rw [raise_only, hf, raise_only r s]

/-! ## Taking the next entry (R183, R184) -/

theorem room_iff (l : LogWriter) (size : Nat) :
    l.room size = true ↔ l.valid = true ∧ (l.head - l.consumed).toNat < size := by simp [LogWriter.room]

section
variable {set : LogSettings} {now : Time} {e : LogEntry} {rest : List LogEntry} {l : LogWriter}

theorem ring_open (hroom : l.room set.size = true) (hbase : set.base ≠ 0) : (l.room set.size && set.base != 0) = true := by
  rw [hroom, Bool.true_and]
  exact bne_iff_ne.2 hbase

/-- With room and nothing dropped the next entry is written. -/
theorem takeNext_writes (hroom : l.room set.size = true) (hbase : set.base ≠ 0) (hd : l.dropped = 0) :
    LogWriter.takeNext set now (e :: rest) l = { l with queue := rest }.issue set false e := by
  rw [LogWriter.takeNext, if_pos (ring_open hroom hbase), if_pos hd]

/-- With room the LOG_GAP that is owed goes first. -/
theorem takeNext_gap (hroom : l.room set.size = true) (hbase : set.base ≠ 0) (hd : 0 < l.dropped)
    (hg : l.gapFailed = false) : LogWriter.takeNext set now (e :: rest) l =
      { l with queue := e :: rest }.issue set true (gapEntry now l.dropped) := by
  rw [LogWriter.takeNext, if_pos (ring_open hroom hbase), if_neg (Nat.pos_iff_ne_zero.1 hd), hg, if_neg (by simp)]

/-- A LOG_GAP that has failed in this block keeps the entries behind it. -/
theorem takeNext_waits (hroom : l.room set.size = true) (hbase : set.base ≠ 0) (hd : 0 < l.dropped)
    (hg : l.gapFailed = true) : LogWriter.takeNext set now (e :: rest) l = { l with queue := e :: rest } := by
  rw [LogWriter.takeNext, if_pos (ring_open hroom hbase), if_neg (Nat.pos_iff_ne_zero.1 hd), if_pos hg]

/-- With no room every entry that waits is counted as dropped. -/
theorem takeNext_drops (now : Time) (hroom : l.room set.size = false) (q : List LogEntry) (hd : l.dropped ≤ Config.max32) :
    LogWriter.takeNext set now q l = { l with
      queue := [], dropped := min (l.dropped + q.length) Config.max32 } := by
  induction q generalizing l with
  | nil =>
    rw [LogWriter.takeNext, List.length_nil, Nat.add_zero, Nat.min_eq_left hd]
  | cons e q ih =>
    rw [LogWriter.takeNext, hroom, Bool.false_and, if_neg (by simp),
      ih (l := l.drop 1) hroom (Nat.min_le_right _ _)]
    have hmin : min ((l.drop 1).dropped + q.length) Config.max32 = min (l.dropped + (e :: q).length) Config.max32 := by
      simp only [LogWriter.drop, List.length_cons]
      omega
    rw [hmin]
    rfl

theorem takeNext_drops_cons (hroom : l.room set.size = false) : LogWriter.takeNext set now (e :: rest) l = { l with
    queue := [], dropped := min (l.dropped + (e :: rest).length) Config.max32 } := by
  have hmin : min ((l.drop 1).dropped + rest.length) Config.max32 = min (l.dropped + (e :: rest).length) Config.max32 := by
    simp only [LogWriter.drop, List.length_cons]
    omega
  rw [LogWriter.takeNext, hroom, Bool.false_and, if_neg (by simp),
    takeNext_drops now (l := l.drop 1) hroom rest (Nat.min_le_right _ _), hmin]
  rfl

end

/-- The log writer goes on in RUNNING when it has nothing in flight and no urgent notice goes first. -/
theorem pump_takes {set : LogSettings} {notice : Addr} {now : Time} {l : LogWriter} (hw : l.writing = none)
    (hy : l.yields notice = false) : l.pump true set notice now = LogWriter.takeNext set now l.queue l := by
  simp [LogWriter.pump, hw, hy]

theorem pump_busy {set : LogSettings} {notice : Addr} {now : Time} {l : LogWriter} (running : Bool)
    (hw : l.writing.isSome = true) : l.pump running set notice now = l := by
  have hnone : l.writing.isNone = false := by
    rw [← Option.not_isSome, hw]
    rfl
  simp [LogWriter.pump, hnone]

theorem pump_stopped {set : LogSettings} {notice : Addr} {now : Time} {l : LogWriter} : l.pump false set notice now = l := by
  simp [LogWriter.pump]

theorem yields_calm {notice : Addr} {l : LogWriter} (h : l.urgent = false) : l.yields notice = false := by
  simp [LogWriter.yields, h]

/-! ## Completions -/

theorem completes_logWriteDone {s : State} (hf : s.fresh .logWrite) (ok : Bool) :
    Completes (.logWriteDone ok) s (logWriteDone ok s) := by
  unfold Completes
  show execLogWriteDone ok s = _
  rw [execLogWriteDone, onWrite_fresh _ _ _ hf]

section
variable {s : State} {w : LogWrite}

theorem logWriteDone_first (hw : s.log.writing = some { w with phase := .first }) :
    logWriteDone true s = { s with log := { s.log with writing := some { w with phase := .last } } } := by
  simp [logWriteDone, hw]

theorem logWriteDone_good (hw : s.log.writing = some { w with phase := .last }) :
    logWriteDone true s = pumpLog { s with log := s.log.writeGood w.gap } := by
  simp [logWriteDone, hw]

theorem logWriteDone_failed (hw : s.log.writing = some { w with phase := .last }) :
    logWriteDone false s = pumpLog (writeError .faultUnit { s with log := s.log.writeFailed w.gap }) := by
  simp [logWriteDone, hw]

end

/-- A good write moves the head on; a LOG_GAP clears the dropped count (R183, R184). -/
theorem writeGood_eq (l : LogWriter) (gap : Bool) : l.writeGood gap = { l with
    writing := none, head := l.head + 1, dropped := if gap then 0 else l.dropped, gapFailed := l.gapFailed && !gap } := by
  cases gap <;> simp [LogWriter.writeGood]

/-- A failed one counts its entry as dropped, but for a LOG_GAP (R183, R184). -/
theorem writeFailed_eq {l : LogWriter} (gap : Bool) (h : l.dropped < 4294967295) : l.writeFailed gap = { l with
    writing := none, dropped := l.dropped + (if gap then 0 else 1), gapFailed := l.gapFailed || gap } := by
  have hmin : min (l.dropped + 1) Config.max32 = l.dropped + 1 := Nat.min_eq_left h
  cases gap <;> simp [LogWriter.writeFailed, LogWriter.drop, hmin]

/-- With no write in flight and no urgent notice an entry handed is taken in its turn (R183). -/
theorem hand_takes {set : LogSettings} {notice : Addr} {now : Time} {e : LogEntry} {l : LogWriter}
    (hbase : set.base ≠ 0) (hq : l.queue.length < 64) (hw : l.writing = none) (hu : l.urgent = false) :
    l.hand true set notice now e = LogWriter.takeNext set now (l.queue ++ [e]) { l with queue := l.queue ++ [e] } := by
  have hcond : (true && set.base != 0 && decide (l.queue.length < Config.logQueue)) = true := by
    rw [Bool.true_and, Bool.and_eq_true, decide_eq_true_eq]
    exact ⟨bne_iff_ne.2 hbase, hq⟩
  rw [LogWriter.hand, if_pos hcond]
  exact pump_takes (l := { l with queue := l.queue ++ [e] }) hw (yields_calm hu)

/-- Outside RUNNING an entry handed is counted as dropped (R183). -/
theorem hand_stopped {set : LogSettings} {notice : Addr} {now : Time} {e : LogEntry} {l : LogWriter} :
    l.hand false set notice now e = l.drop 1 := by simp [LogWriter.hand]

/-- What the log writer holds after a failed write in RUNNING, before the raising: the queue as it was, room, and entries
counted as dropped (R183, R184). -/
structure GapOwed (set : LogSettings) (l : LogWriter) : Prop where
  base : set.base ≠ 0
  room : l.room set.size = true
  dropped : 0 < l.dropped
  idle : l.writing = none

section
variable {set : LogSettings} {now : Time} {l : LogWriter} (h : GapOwed set l)
include h

/-- A LOG_GAP that may be written goes before whatever waits, and that stays behind it (R184). -/
theorem takeNext_owed {q : List LogEntry} (hq : q ≠ []) (hg : l.gapFailed = false) :
    LogWriter.takeNext set now q l = { l with queue := q }.issue set true (gapEntry now l.dropped) := by
  obtain ⟨e, rest, rfl⟩ := List.exists_cons_of_ne_nil hq
  exact takeNext_gap h.room h.base h.dropped hg

/-- After a failed LOG_GAP what waits stays as it is (R184). -/
theorem takeNext_kept (q : List LogEntry) (hg : l.gapFailed = true) :
    LogWriter.takeNext set now q l = { l with queue := q } := by
  cases q with
  | nil => rfl
  | cons e rest => exact takeNext_waits h.room h.base h.dropped hg

end

section
variable {s : State} {l : LogWriter} (hrun : s.survey.state = .running) (hu : l.urgent = false)
  (h : GapOwed s.sections.logs l) (hq : l.queue.length < 64)
include hrun hu h hq

/-- After a failed write of an entry the LOG_GAP is written, whether or not WRITE_ERROR hands its FAULT entry first
(R183, R184). -/
theorem pumped_raise_gap (r : Raising) (hg : l.gapFailed = false) (hne : l.queue ≠ []) :
    ∃ q m, l.queue <+: q ∧ m = { l with queue := q }.issue s.sections.logs true (gapEntry s.time l.dropped) ∧
      ∃ u a c, (pumpLog (raise r { s with log := l })).log = { m with urgent := u, awaited := a, considers := c } := by
  have hr : s.running = true := (running_iff s).2 hrun
  let e := faultEntry { s with log := l } r s.faults.first.isNone
  have hhand : (handLog e { s with log := l }).log =
      { l with queue := l.queue ++ [e] }.issue s.sections.logs true (gapEntry s.time l.dropped) := by
    show l.hand s.running _ _ _ e = _
    rw [hr, hand_takes h.base hq h.idle hu]
    exact takeNext_owed (l := { l with queue := l.queue ++ [e] }) ⟨h.base, h.room, h.dropped, h.idle⟩ (by simp) hg
  have hpump : ∀ m : LogWriter, m.writing.isSome = true → m.pump s.running s.sections.logs s.sections.station.noticeAddr s.time = m :=
    fun m hm => pump_busy _ hm
  have hlog : (pumpLog (raise r { s with log := l })).log =
      (raise r { s with log := l }).log.pump s.running s.sections.logs s.sections.station.noticeAddr s.time := by
    rw [raise_only]
    rfl
  rw [hlog, raise_log]
  split
  · refine ⟨l.queue ++ [e], _, List.prefix_append .., rfl, ?_⟩
    split
    · have hurge := congrArg (LogWriter.urge (State.notices { s with log := l }) e) hhand
      exact ⟨_, _, _, (congrArg _ hurge).trans (hpump _ rfl)⟩
    · exact ⟨_, _, _, (congrArg _ hhand).trans (hpump _ rfl)⟩
  · refine ⟨l.queue, _, List.prefix_rfl, rfl, l.urgent, l.awaited, l.considers && l.urgent, ?_⟩
    show l.pump _ _ _ _ = _
    rw [hr, pump_takes h.idle (yields_calm hu)]
    exact takeNext_owed h hne hg

/-- After a failed LOG_GAP nothing is written, and what waits stays behind it (R184). -/
theorem pumped_raise_kept (r : Raising) (hg : l.gapFailed = true) :
    ∃ q, l.queue <+: q ∧
      ∃ u a c, (pumpLog (raise r { s with log := l })).log = { l with queue := q, urgent := u, awaited := a, considers := c } := by
  have hr : s.running = true := (running_iff s).2 hrun
  let e := faultEntry { s with log := l } r s.faults.first.isNone
  have hhand : (handLog e { s with log := l }).log = { l with queue := l.queue ++ [e] } := by
    show l.hand s.running _ _ _ e = _
    rw [hr, hand_takes h.base hq h.idle hu]
    exact takeNext_kept (l := { l with queue := l.queue ++ [e] }) ⟨h.base, h.room, h.dropped, h.idle⟩ _ hg
  have hpump : ∀ m : LogWriter, GapOwed s.sections.logs m → m.gapFailed = true →
      m.pump s.running s.sections.logs s.sections.station.noticeAddr s.time = m := by
    intro m hm hmg
    unfold LogWriter.pump
    split
    · exact takeNext_kept hm _ hmg
    · rfl
  have hlog : (pumpLog (raise r { s with log := l })).log =
      (raise r { s with log := l }).log.pump s.running s.sections.logs s.sections.station.noticeAddr s.time := by
    rw [raise_only]
    rfl
  rw [hlog, raise_log]
  split
  · refine ⟨l.queue ++ [e], List.prefix_append .., ?_⟩
    split
    · have hurge := congrArg (LogWriter.urge (State.notices { s with log := l }) e) hhand
      refine ⟨_, _, _, (congrArg _ hurge).trans (hpump _ ⟨h.base, h.room, h.dropped, h.idle⟩ hg)⟩
    · exact ⟨_, _, _, (congrArg _ hhand).trans (hpump _ ⟨h.base, h.room, h.dropped, h.idle⟩ hg)⟩
  · exact ⟨l.queue, List.prefix_rfl, l.urgent, l.awaited, l.considers, hpump l h hg⟩

end

/-- The log writer's next write after a good one, in RUNNING with no urgent notice (R183, R184). -/
theorem pumpLog_takes {s : State} {l : LogWriter} (hrun : s.survey.state = .running) (hw : l.writing = none)
    (hu : l.urgent = false) : pumpLog { s with log := l } =
      { s with log := LogWriter.takeNext s.sections.logs s.time l.queue l } := by
  have hr : s.running = true := (running_iff s).2 hrun
  show { s with log := l.pump s.running s.sections.logs s.sections.station.noticeAddr s.time } = _
  rw [hr, pump_takes hw (yields_calm hu)]

theorem pumpLog_only (s : State) : pumpLog s = { s with log := (pumpLog s).log } := rfl

/-- Outside RUNNING nothing is taken, and a raising counts its entry as dropped (R183). -/
theorem pumped_raise_stopped {s : State} (hrun : s.survey.state ≠ .running) (r : Raising) {l : LogWriter}
    (hd : l.dropped ≤ Config.max32) :
    ∃ d u a c, l.dropped ≤ d ∧
      (pumpLog (raise r { s with log := l })).log = { l with dropped := d, urgent := u, awaited := a, considers := c } := by
  have hr : s.running = false := by
    rw [Bool.eq_false_iff, Ne, running_iff]
    exact hrun
  have hlog : (pumpLog (raise r { s with log := l })).log = (raise r { s with log := l }).log := by
    rw [raise_only]
    show LogWriter.pump s.running _ _ _ _ = _
    rw [hr, pump_stopped]
  have hhand : ∀ e, (handLog e { s with log := l }).log = { l with dropped := min (l.dropped + 1) Config.max32 } := by
    intro e
    show l.hand s.running _ _ _ e = _
    rw [hr, hand_stopped]
    rfl
  have hle : l.dropped ≤ min (l.dropped + 1) Config.max32 := le_min (Nat.le_succ _) hd
  rw [hlog, raise_log]
  split
  · split
    · exact ⟨_, _, _, _, hle, congrArg (LogWriter.urge _ _) (hhand _)⟩
    · exact ⟨_, _, _, _, hle, hhand _⟩
  · exact ⟨l.dropped, l.urgent, l.awaited, l.considers, le_refl _, rfl⟩

/-- The state after a failed log write but for the log writer is that after the raising (R183). -/
theorem pumped_writeError_only (l : LogWriter) (s : State) :
    pumpLog (writeError .faultUnit { s with log := l }) =
      { writeError .faultUnit s with log := (pumpLog (writeError .faultUnit { s with log := l })).log } := by
  have h := raise_setLog (Raising.plain .writeError .faultUnit) l s
  rw [pumpLog_only]
  generalize (pumpLog (writeError .faultUnit { s with log := l })).log = m
  unfold writeError
  rw [h]

/-! ## LOG_GAP (R184) -/

theorem completes_logGap {s : State} (hrun : s.survey.state = .running) (hw : s.log.writing = none)
    (hg : s.log.gapFailed = false) (h : GapOwed s.sections.logs s.log) :
    Completes .logGap s { s with log := s.log.issue s.sections.logs true (gapEntry s.time s.log.dropped) } := by
  have hcond : (s.running && s.log.writing.isNone && !s.log.gapFailed && decide (0 < s.log.dropped) &&
      s.sections.logs.base != 0 && s.log.room s.sections.logs.size) = true := by
    rw [(running_iff s).2 hrun, hw, hg, h.room, decide_eq_true h.dropped, bne_iff_ne.2 h.base]
    rfl
  unfold Completes
  show execLogGap s = _
  rw [execLogGap, if_pos hcond]

theorem ignored_logGap_failed {s : State} (hg : s.log.gapFailed = true) : Ignored .logGap s := by
  unfold Ignored
  show execLogGap s = _
  rw [execLogGap, hg]
  simp

/-! ## Notices (R186) -/

theorem completes_noticeWrite {s : State} (h : s.noticeNow = true) :
    Completes .noticeWrite s (pumpLog { s with log := s.log.notify s.sections.station.noticeAddr }) := by
  unfold Completes
  show execNoticeWrite s = _
  rw [execNoticeWrite, if_pos h]

theorem ignored_noticeWrite {s : State} (h : s.noticeNow = false) : Ignored .noticeWrite s := by
  unfold Ignored
  show execNoticeWrite s = _
  rw [execNoticeWrite, h, if_neg (by simp)]

theorem faultNext_iff (l : LogWriter) : l.faultNext = true ↔ ∃ e, l.awaited = some e ∧ l.queue.head? = some e := by
  unfold LogWriter.faultNext
  cases ha : l.awaited with
  | none => simp
  | some e => simp

/-- When a notice is written now (R186). -/
theorem noticeNow_iff (s : State) : s.noticeNow = true ↔
    (s.survey.state = .running ∧ s.sections.station.noticeAddr ≠ 0) ∧ s.log.noticeDue = true ∧ s.log.considers = true ∧
      s.log.writing = none ∧ s.log.notice = none ∧ s.log.noticed = false ∧
      (if s.log.urgent then !s.log.faultNext else decide (s.sections.station.noticeHoldoff ≤ s.log.holdoff)) = true := by
  rw [← notices_iff]
  simp only [State.noticeNow, Bool.and_eq_true, Option.isNone_iff_eq_none, Bool.not_eq_true', and_assoc]

theorem noticeDue_iff (l : LogWriter) : l.noticeDue = true ↔ l.head ≠ l.lastSent ∨ l.urgent = true := by
  simp [LogWriter.noticeDue]

theorem completes_noticeWriteDone {s : State} (hf : s.fresh .notice) (ok : Bool) :
    Completes (.noticeWriteDone ok) s (noticeWriteDone ok s) := by
  unfold Completes
  show execNoticeWriteDone ok s = _
  rw [execNoticeWriteDone, onWrite_fresh _ _ _ hf]

/-- Whatever the queue holds, going on keeps a notice that is not considered so, and an urgent one considered. -/
theorem pump_considers {running : Bool} {set : LogSettings} {notice : Addr} {now : Time} {l : LogWriter} :
    (l.considers = false → (l.pump running set notice now).considers = false) ∧
      (l.considers = true → l.urgent = true → (l.pump running set notice now).considers = true) ∧
      (l.queue = [] → (l.pump running set notice now).considers = l.considers) := by
  unfold LogWriter.pump
  split
  · refine ⟨fun h => ?_, fun h hu => ?_, fun hq => ?_⟩
    · rcases takeNext_considers set now l.queue l with x | x <;> simp [x, h]
    · rcases takeNext_considers set now l.queue l with x | x <;> simp [x, h, hu]
    · rw [hq]
      rfl
  · exact ⟨id, fun h _ => h, fun _ => rfl⟩

/-- When the notice that is due is considered at a boundary (R186). -/
theorem noticeBegins_considers_iff (s : State) : (noticeBegins s).log.considers = true ↔
    (s.survey.state = .running ∧ s.sections.station.noticeAddr ≠ 0) ∧
      (s.log.urgent = true ∨ (s.log.head ≠ s.log.lastSent ∧ s.log.writing = none ∧ s.log.notice = none ∧
        s.sections.station.noticeHoldoff ≤ satInc 255 s.log.holdoff)) := by
  rw [← notices_iff]
  show (s.notices && (s.log.urgent || ((s.log.head != s.log.lastSent || s.log.urgent) && s.log.writing.isNone &&
    s.log.notice.isNone && decide (s.sections.station.noticeHoldoff ≤ satInc 255 s.log.holdoff)))) = true ↔ _
  cases s.log.urgent <;> simp [and_assoc]

/-- The log writer as a block begins, in what the notices read of it (R186). -/
theorem logBegins_notice (s : State) :
    (logBegins s).log.noticed = false ∧ (logBegins s).log.urgent = s.log.urgent ∧
      ((noticeBegins s).log.considers = false → (logBegins s).log.considers = false) ∧
      ((noticeBegins s).log.considers = true → s.log.urgent = true ∨ s.log.queue = [] →
        (logBegins s).log.considers = true) := by
  have hlog : (logBegins s).log = _ := queueBegins_log (noticeBegins s)
  rw [hlog]
  dsimp only
  split
  · exact ⟨rfl, rfl, id, fun h _ => h⟩
  · obtain ⟨hfalse, hurgent, hempty⟩ := pump_considers (running := (noticeBegins s).running)
      (set := (noticeBegins s).sections.logs) (notice := (noticeBegins s).sections.station.noticeAddr)
      (now := (noticeBegins s).time)
      (l := { (noticeBegins s).log with gapFailed := (noticeBegins s).log.gapFailed && !(noticeBegins s).running })
    refine ⟨?_, ?_, hfalse, fun h hu => hu.elim (hurgent h) fun hq => (hempty hq).trans h⟩
    · rw [pump_only]
      rfl
    · rw [pump_only]
      rfl

/-- After a good write in RUNNING with no urgent notice the next entries are taken (R183, R184). -/
theorem logWriteDone_takes {s : State} {w : LogWrite} (hw : s.log.writing = some { w with phase := .last })
    (hrun : s.survey.state = .running) (hu : s.log.urgent = false) : logWriteDone true s =
      { s with log := LogWriter.takeNext s.sections.logs s.time s.log.queue { s.log with
        writing := none, head := s.log.head + 1, dropped := if w.gap then 0 else s.log.dropped
        gapFailed := s.log.gapFailed && !w.gap } } := by
  rw [logWriteDone_good hw, writeGood_eq]
  exact pumpLog_takes (l := { s.log with
    writing := none, head := s.log.head + 1, dropped := if w.gap then 0 else s.log.dropped
    gapFailed := s.log.gapFailed && !w.gap }) hrun rfl hu

theorem noticeWriteDone_good {s : State} {n : NoticeFlight} (hn : s.log.notice = some n) :
    noticeWriteDone true s = { s with log := { s.log with notice := none, lastSent := n.word } } := by
  simp [noticeWriteDone, hn]

/-- A failed notice stays due, urgent if it was (R186). -/
theorem noticeWriteDone_failed {s : State} {n : NoticeFlight} (hn : s.log.notice = some n) :
    noticeWriteDone false s = writeError .faultUnit { s with log := { s.log with
      notice := none, urgent := s.log.urgent || n.urgent } } := by
  simp [noticeWriteDone, hn]

/-! ## Obligations -/

/-- Settles O54: what a completion leaves is `writeGood_eq` or `writeFailed_eq`, what is written next `takeNext`'s cases;
a notice is written by `noticeNow_iff` and considered by `noticeBegins_considers_iff`. -/
theorem logAndNoticesFollowTheHead : Obligations.LogAndNoticesFollowTheHead := by
  unfold Obligations.LogAndNoticesFollowTheHead
  refine ⟨fun s w hf => ⟨fun hw => ?first, fun hw hq => ?last, fun hw hrun hu hbase => ?next, fun hw hrun hd => ?stopped,
      fun hrun hw hd hbase hvalid hroom => ?gap, fun hp => ?bus, fun hp => ?busLast⟩,
    fun s => ⟨fun hrun haddr hidle hnot => ⟨fun hcons hw h => ?notice, fun e hu ha hq => ?awaits, fun hw => ?busy⟩, fun h => ?ignored,
      fun i => ?boundary, fun n hf hn => ⟨rfl, ?sent, ?unsent⟩⟩⟩
  case first => exact logWriteDone_first hw ▸ completes_logWriteDone hf true
  case last =>
    refine ⟨_, completes_logWriteDone hf true, ?_⟩
    rw [logWriteDone_good hw, writeGood_eq]
    have hpump : ∀ l : LogWriter, l.queue = [] → l.writing = none → (pumpLog { s with log := l }).log = l := by
      intro l hl hlw
      show LogWriter.pump _ _ _ _ l = l
      unfold LogWriter.pump
      split
      · rw [hl, LogWriter.takeNext, ← hl]
      · rfl
    rw [pumpLog_only, hpump]
    · exact ⟨rfl, rfl, rfl, rfl⟩
    · exact hq
    · rfl
  case next =>
    intro slot room next owed gapFailed
    refine ⟨fun e rest hq => ?good, fun hroom hlen hd => ?failed⟩
    case good =>
      let l : LogWriter := { s.log with writing := none, head := next, dropped := owed, gapFailed := gapFailed }
      have hroom : l.room s.sections.logs.size = true ↔ room next := room_iff ..
      have hdone : logWriteDone true s =
          { s with log := LogWriter.takeNext s.sections.logs s.time (e :: rest) l } := by
        rw [logWriteDone_takes hw hrun hu, hq]
      refine ⟨_, completes_logWriteDone hf true, ?_⟩
      rw [hdone]
      refine ⟨takeNext_head .., rfl, fun hr h0 => ?_, fun hr h0 hg => ?_, fun hr h0 hg => ?_, fun hr => ?_⟩
      · rw [takeNext_writes (hroom.2 hr) hbase h0]
        exact ⟨rfl, rfl, h0⟩
      · rw [takeNext_gap (hroom.2 hr) hbase h0 hg]
        exact ⟨_, rfl, rfl, rfl, hq.symm, rfl⟩
      · rw [takeNext_waits (hroom.2 hr) hbase h0 hg]
        exact ⟨rfl, hq.symm, rfl⟩
      · rw [takeNext_drops_cons (Bool.eq_false_iff.2 (hroom.not.2 hr)), hq]
        exact ⟨rfl, rfl, rfl⟩
    case failed =>
      let l : LogWriter := { s.log with
        writing := none, dropped := s.log.dropped + (if w.gap then 0 else 1), gapFailed := s.log.gapFailed || w.gap }
      have hfail : logWriteDone false s = pumpLog (writeError .faultUnit { s with log := l }) := by
        rw [logWriteDone_failed hw, writeFailed_eq w.gap hd]
      refine ⟨_, completes_logWriteDone hf false, ?_⟩
      rw [hfail]
      refine ⟨(pump_head ..).trans (raise_head ..), pumped_writeError_only .., fun hg hgap hne => ?_, fun hg hpos => ?_⟩
      · have howed : GapOwed s.sections.logs l :=
          ⟨hbase, (room_iff _ _).2 hroom, by simp only [l]; rw [hg]; exact Nat.succ_pos _, rfl⟩
        obtain ⟨q, m, hpre, rfl, u, a, c, hlog⟩ := pumped_raise_gap (l := l) hrun hu howed hlen
          (Raising.plain .writeError .faultUnit) (by simp only [l]; rw [hg, hgap]; rfl) hne
        have hdropped : l.dropped = s.log.dropped + 1 := by simp only [l]; rw [hg]; rfl
        rw [writeError, hlog, hdropped]
        exact ⟨rfl, hpre, _, rfl, rfl, rfl⟩
      · have hdropped : l.dropped = s.log.dropped := by simp only [l]; rw [hg]; rfl
        have howed : GapOwed s.sections.logs l := ⟨hbase, (room_iff _ _).2 hroom, by rw [hdropped]; exact hpos, rfl⟩
        have hgap : l.gapFailed = true := by simp only [l]; rw [hg, Bool.or_true]
        obtain ⟨q, hpre, u, a, c, hlog⟩ := pumped_raise_kept (l := l) hrun hu howed hlen
          (Raising.plain .writeError .faultUnit) hgap
        rw [writeError, hlog]
        exact ⟨rfl, hdropped, hpre, hgap⟩
  case stopped =>
    let l : LogWriter := { s.log with
      writing := none, dropped := s.log.dropped + (if w.gap then 0 else 1), gapFailed := s.log.gapFailed || w.gap }
    have hfail : logWriteDone false s = pumpLog (writeError .faultUnit { s with log := l }) := by
      rw [logWriteDone_failed hw, writeFailed_eq w.gap hd]
    have hle : l.dropped ≤ Config.max32 := by
      show s.log.dropped + (if w.gap then 0 else 1) ≤ 4294967295
      split <;> omega
    obtain ⟨d, u, a, c, hd', hlog⟩ := pumped_raise_stopped hrun (Raising.plain .writeError .faultUnit) hle
    have hlog : (pumpLog (writeError .faultUnit { s with log := l })).log = _ := hlog
    refine ⟨_, completes_logWriteDone hf false, ?_⟩
    rw [hfail]
    refine ⟨?_, ?_, ?_, ?_, pumped_writeError_only ..⟩
    all_goals rw [hlog]
    exact hd'
  case gap =>
    have howed : GapOwed s.sections.logs s.log := ⟨hbase, (room_iff _ _).2 ⟨hvalid, hroom⟩, hd, hw⟩
    exact ⟨ignored_logGap_failed, fun hg => ⟨_, completes_logGap hrun hw hg howed, rfl, rfl⟩⟩
  case bus => rw [LogWrite.onBus, hp]; rfl
  case busLast => rw [LogWrite.onBus, hp]; rfl
  case notice =>
    have hnow : s.noticeNow = true := by
      refine (noticeNow_iff s).2 ⟨⟨hrun, haddr⟩, ?_, hcons, hw, hidle, hnot, ?_⟩
      · rw [noticeDue_iff]
        exact h.elim (fun h => .inr h.1) fun h => .inl h.2.1
      · rcases h with ⟨hu, hawait⟩ | ⟨hu, -, hhold⟩
        · rw [hu, if_pos rfl, Bool.not_eq_true', Bool.eq_false_iff, Ne, faultNext_iff]
          rintro ⟨e, ha, hq⟩
          rcases hawait with h | h
          · rw [ha] at h
            cases h
          · exact h (hq.trans ha.symm)
        · rw [hu, if_neg (by simp), decide_eq_true hhold]
    refine ⟨_, completes_noticeWrite hnow, ?_⟩
    rw [pumpLog_only]
    show (LogWriter.pump _ _ _ _ _).notice = _ ∧ (LogWriter.pump _ _ _ _ _).holdoff = _ ∧
      (LogWriter.pump _ _ _ _ _).urgent = _ ∧ (LogWriter.pump _ _ _ _ _).noticed = _ ∧
      (LogWriter.pump _ _ _ _ _).head = _ ∧ (LogWriter.pump _ _ _ _ _).lastSent = _ ∧ _
    rw [pump_only]
    exact ⟨rfl, rfl, rfl, rfl, rfl, rfl, rfl⟩
  case awaits =>
    refine ignored_noticeWrite ?_
    rw [Bool.eq_false_iff, Ne, noticeNow_iff, hu, if_pos rfl, (faultNext_iff _).2 ⟨e, ha, hq⟩]
    simp
  case busy =>
    refine ignored_noticeWrite ?_
    rw [Bool.eq_false_iff, Ne, noticeNow_iff]
    exact fun h => hw h.2.2.2.1
  case ignored =>
    refine ignored_noticeWrite ?_
    rw [Bool.eq_false_iff, Ne, noticeNow_iff]
    rintro ⟨⟨hrun, haddr⟩, -, hcons, -, -, hnot, -⟩
    rcases h with h | h | h | h
    · simp [hnot] at h
    · simp [hcons] at h
    · exact h hrun
    · exact haddr h
  case boundary =>
    have hb := boundary_only s
    have hlog : (advanceTime (completeBlock s)).log = s.log := by rw [hb]
    have hiff := noticeBegins_considers_iff (advanceTime (completeBlock s))
    obtain ⟨hnoticed, hurgent, hoff, hon⟩ := logBegins_notice (advanceTime (completeBlock s))
    rw [hlog] at hiff hurgent hon
    have hstate : (advanceTime (completeBlock s)).survey.state = s.survey.state := by rw [hb]
    have hset : (advanceTime (completeBlock s)).sections = s.sections := by rw [hb]
    rw [hstate, hset] at hiff
    refine ⟨_, completes_blockBoundary i s, ?_⟩
    rw [beginBlock_log]
    refine ⟨hnoticed, hurgent, ?_⟩
    intro free
    refine ⟨fun h => hoff ?_, fun hrun haddr => ⟨fun hu => hon (hiff.2 ⟨⟨hrun, haddr⟩, .inl hu⟩) (.inl hu),
      fun hu => ⟨fun hfree => hoff ?_, fun hfree hq => hon (hiff.2 ⟨⟨hrun, haddr⟩, .inr hfree⟩) (.inr hq)⟩⟩⟩
    · rw [Bool.eq_false_iff, Ne, hiff]
      rintro ⟨⟨hrun, haddr⟩, -⟩
      exact h.elim (· hrun) haddr
    · rw [Bool.eq_false_iff, Ne, hiff, hu]
      rintro ⟨-, h⟩
      exact hfree (h.resolve_left (by simp))
  case sent => exact noticeWriteDone_good hn ▸ completes_noticeWriteDone hf true
  case unsent =>
    let l : LogWriter := { s.log with notice := none, urgent := s.log.urgent || n.urgent }
    refine ⟨_, completes_noticeWriteDone hf false, ?_⟩
    rw [noticeWriteDone_failed hn]
    refine ⟨(raise_notice ..).1, (raise_notice ..).2, fun hu => raise_urgent (by simp [hu]), ?_, fun hcons hnew => ?_, ?_⟩
    · rw [writeError, writeError, raise_faults, raise_faults]
    · refine ignored_noticeWrite ?_
      have hkept : (writeError .faultUnit { s with log := l }).log = l := by
        rw [writeError, raise_log]
        exact if_neg (Bool.eq_false_iff.1 hnew)
      rw [Bool.eq_false_iff, Ne, noticeNow_iff, hkept]
      rintro ⟨-, -, h, -⟩
      simp [l, hcons] at h
    · rw [writeError_only]

end Sys2Proof.Machine


/-! # Request slots and their results (R15, R16). -/

namespace Sys2Proof.Machine

open Sys2Proof

/-! ## The order of taking (R15) -/

/-- A request is taken before another: by forward distance from the counter, then by slot (R15). -/
def takenBefore (counter : Word) (x y : Request) : Prop :=
  (x.seq - counter).toNat < (y.seq - counter).toNat ∨
    ((x.seq - counter).toNat = (y.seq - counter).toNat ∧ x.slot < y.slot)

theorem placeRequest_perm (counter : Word) (r : Request) (l : List Request) :
    (placeRequest counter r l).Perm (r :: l) := by
  induction l with
  | nil => exact .refl _
  | cons x xs ih =>
    unfold placeRequest
    split
    · exact .refl _
    · exact (ih.cons x).trans (.swap r x xs)

/-- A request of a higher slot than all in the list is placed so that the order of taking is kept. -/
theorem placeRequest_pairwise {counter : Word} {r : Request} {l : List Request}
    (hl : l.Pairwise (takenBefore counter)) (hr : ∀ x ∈ l, x.slot < r.slot) :
    (placeRequest counter r l).Pairwise (takenBefore counter) := by
  induction l with
  | nil => exact List.pairwise_singleton ..
  | cons x xs ih =>
    obtain ⟨hx, hxs⟩ := List.pairwise_cons.1 hl
    unfold placeRequest
    split
    · rename_i hcloser
      refine List.pairwise_cons.2 ⟨fun y hy => .inl ?_, hl⟩
      rcases List.mem_cons.1 hy with rfl | hy
      · exact hcloser
      · rcases hx y hy with h | ⟨h, -⟩ <;> omega
    · rename_i hfar
      refine List.pairwise_cons.2 ⟨fun y hy => ?_, ih hxs (fun y hy => hr y (List.mem_cons_of_mem _ hy))⟩
      rcases List.mem_cons.1 ((placeRequest_perm counter r xs).mem_iff.1 hy) with rfl | hy
      · have hslot := hr x List.mem_cons_self
        rcases Nat.lt_or_ge (x.seq - counter).toNat (y.seq - counter).toNat with hlt | hge
        · exact .inl hlt
        · exact .inr ⟨Nat.le_antisymm (Nat.le_of_not_lt hfar) hge, hslot⟩
      · exact hx y hy

/-- Placing a list of requests in slot order one after another keeps the order of taking. -/
theorem placeRequests_pairwise {counter : Word} {found acc : List Request}
    (hacc : acc.Pairwise (takenBefore counter)) (hfound : found.Pairwise (fun x y => x.slot < y.slot))
    (hbelow : ∀ x ∈ acc, ∀ y ∈ found, x.slot < y.slot) :
    (found.foldl (fun acc r => placeRequest counter r acc) acc).Pairwise (takenBefore counter) := by
  induction found generalizing acc with
  | nil => exact hacc
  | cons r rs ih =>
    obtain ⟨hr, hrs⟩ := List.pairwise_cons.1 hfound
    refine ih (placeRequest_pairwise hacc fun x hx => hbelow x hx r List.mem_cons_self) hrs fun x hx y hy => ?_
    rcases List.mem_cons.1 ((placeRequest_perm counter r acc).mem_iff.1 hx) with rfl | hx
    · exact hr y hy
    · exact hbelow x hx y (List.mem_cons_of_mem _ hy)

theorem placeRequests_perm (counter : Word) (found acc : List Request) :
    (found.foldl (fun acc r => placeRequest counter r acc) acc).Perm (found ++ acc) := by
  induction found generalizing acc with
  | nil => exact .refl _
  | cons r rs ih =>
    have hmid : (rs ++ placeRequest counter r acc).Perm (rs ++ r :: acc) := (placeRequest_perm counter r acc).append_left rs
    exact (ih _).trans (hmid.trans List.perm_middle)

/-- The POSTED requests with no result outstanding, in slot order. -/
def foundPosted (s : State) (bs : List Byte) : List Request :=
  (slots16.filter (fun i => slotPosted bs i && !s.outstanding i)).map (requestAt bs)

theorem posted_eq (s : State) (bs : List Byte) :
    posted s bs = (foundPosted s bs).foldl (fun acc r => placeRequest s.survey.counter r acc) [] := rfl

theorem mem_slots16 (i : SlotNo) : i ∈ slots16 := by decide +revert

theorem slots16_pairwise : slots16.Pairwise (· < ·) := by decide

theorem posted_pairwise (s : State) (bs : List Byte) :
    (posted s bs).Pairwise (takenBefore s.survey.counter) := by
  rw [posted_eq]
  refine placeRequests_pairwise List.Pairwise.nil ?_ (fun x hx => nomatch hx)
  exact List.pairwise_map.2 (slots16_pairwise.filter _)

theorem mem_posted (s : State) (bs : List Byte) (r : Request) :
    r ∈ posted s bs ↔ ∃ i, r = requestAt bs i ∧ slotPosted bs i = true ∧ s.outstanding i = false := by
  have hperm := placeRequests_perm s.survey.counter (foundPosted s bs) []
  rw [posted_eq, hperm.mem_iff, List.append_nil, foundPosted, List.mem_map]
  refine exists_congr fun i => ?_
  rw [List.mem_filter, Bool.and_eq_true, Bool.not_eq_true']
  exact ⟨fun ⟨⟨_, hi⟩, hr⟩ => ⟨hr.symm, hi⟩, fun ⟨hr, hi⟩ => ⟨⟨mem_slots16 i, hi⟩, hr.symm⟩⟩

theorem posted_nil {bs : List Byte} (h : ∀ i, slotPosted bs i = false) (s : State) : posted s bs = [] := by
  refine List.eq_nil_iff_forall_not_mem.2 fun r hr => ?_
  obtain ⟨i, -, hi, -⟩ := (mem_posted s bs r).1 hr
  simp [h i] at hi

/-! ## The end of a pass (R11, R12) -/

theorem finishPass_failed {s : State} (h : s.survey.pass.failed = true) :
    finishPass s = { s with survey := { s.survey with phase := .idle } } := by
  rw [finishPass, if_pos h]; rfl

theorem finishPass_good {s : State} (h : s.survey.pass.failed = false) :
    finishPass s = { s with survey := { s.survey with
      phase := .idle, lastSeen := s.survey.pass.edition, appliedEdition := s.survey.pass.edition } } := by
  rw [finishPass, if_neg (by simp [h])]

/-- The end of a pass leaves all but the pass and the two editions. -/
theorem finishPass_only (s : State) : finishPass s = { s with survey := { s.survey with
    phase := .idle, lastSeen := (finishPass s).survey.lastSeen
    appliedEdition := (finishPass s).survey.appliedEdition } } := by
  cases h : s.survey.pass.failed with
  | true => rw [finishPass_failed h]
  | false => rw [finishPass_good h]

theorem completes_slotsRead {s : State} (hf : s.fresh .slots) (hp : s.survey.phase = .slots) (bs : List Byte) :
    Completes (.requestSlotsReadDone (some bs)) s (finishPass (slotsTaken s.survey.pass.table.slots bs s)) := by
  unfold Completes
  show execRequestSlotsReadDone (some bs) s = _
  rw [execRequestSlotsReadDone, onRead_fresh _ hf, slotsReadDone, if_pos hp]

/-- An unknown kind is answered, and the counter moves (R15, R16). -/
theorem unknownKind_answered {s : State} (hrun : s.survey.state = .running) (i : SlotNo) (seq kind : Word)
    (hfree : s.outstanding i = false) :
    ∃ t, Completes (.unknownKind i seq kind) s t ∧
      t.survey = { s.survey with
        counter := seq, results := s.survey.results ++ [⟨i, .unknownKind, s.time.setWidth 32, .first⟩] } ∧
      t = { s with survey := t.survey, log := t.log } := by
  have hrunning : s.running = true := (running_iff s).2 hrun
  refine ⟨answer ⟨i, seq, kind, 0, 0, 0⟩ (.unknownKind, s), ?_, ?_, ?_⟩
  · unfold Completes
    show execUnknownKind i seq kind s = _
    rw [execUnknownKind, takeAlone_taken (takes_of_running hrun hfree)]
  · rw [answer_eq, handLog_only]
    simp only [resultOf, hrunning, if_pos]
  · rw [answer_eq, handLog_only]

/-- Settles O11: placing by distance is stable, and the slots are found in their order. -/
theorem requestsAreTakenByDistance : Obligations.RequestsAreTakenByDistance := by
  unfold Obligations.RequestsAreTakenByDistance
  refine ⟨fun s bs => ⟨posted_pairwise s bs, mem_posted s bs, fun hf hp => ?_⟩, fun s bs hf hp hgood hnone => ?_,
    fun s i seq kind hrun => ⟨unknownKind_answered hrun i seq kind, fun hout => ?_⟩⟩
  · refine ⟨_, completes_slotsRead hf hp bs, ?_, ?_, ?_, ?_⟩ <;> rw [finishPass_only] <;> rfl
  · have htaken : slotsTaken s.survey.pass.table.slots bs s = { s with survey := { s.survey with
        seen := s.survey.seen.set .slots s.survey.pass.table.slots
        marked := s.survey.marked.set .slots false } } := by
      rw [slotsTaken, takePosted, posted_nil hnone]; rfl
    have h := completes_slotsRead hf hp bs
    rw [htaken, finishPass_good (by exact hgood)] at h
    exact h
  · unfold Ignored
    show execUnknownKind i seq kind s = _
    rw [execUnknownKind, takeAlone, if_neg (by simp [State.takes, hout])]

/-! ## Results (R16) -/

theorem nextRetry_eq_none {ws : List ResultWrite} (h : ∀ w ∈ ws, w.phase ≠ .waiting) : nextRetry ws = none := by
  refine List.find?_eq_none.2 fun i _ hany => ?_
  obtain ⟨w, hw, hwait⟩ := List.any_eq_true.1 hany
  simp [h w hw] at hwait

/-- Among the sixteen slots the lowest that satisfies a test is found. -/
theorem find_slots16 {p : SlotNo → Bool} {i : SlotNo} (hi : p i = true) (hlow : ∀ j, p j = true → i ≤ j) :
    slots16.find? p = some i := by
  have hget : ∀ k : Fin 16, slots16[k.val]'k.isLt = k := by decide
  refine List.find?_eq_some_iff_getElem.2 ⟨hi, i.val, i.isLt, hget i, fun k hk => ?_⟩
  refine (congrArg (fun j => !p j) (hget ⟨k, Nat.lt_trans hk i.isLt⟩)).trans ?_
  cases hpk : p ⟨k, Nat.lt_trans hk i.isLt⟩ with
  | false => simp
  | true => exact absurd (hlow _ hpk) (by simpa [Fin.le_def] using hk)

theorem nextRetry_eq_some {ws : List ResultWrite} {w : ResultWrite} (hw : w ∈ ws) (hwait : w.phase = .waiting)
    (hlow : ∀ x ∈ ws, x.phase = .waiting → w.slot ≤ x.slot) : nextRetry ws = some w.slot := by
  refine find_slots16 (List.any_eq_true.2 ⟨w, hw, by simp [hwait]⟩) fun j hj => ?_
  obtain ⟨x, hx, htest⟩ := List.any_eq_true.1 hj
  obtain ⟨hslot, hphase⟩ : x.slot = j ∧ x.phase = .waiting := by simpa using htest
  exact hslot ▸ hlow x hx hphase

theorem inFlight_eq_true {w : ResultWrite} (h : w.phase = .first ∨ w.phase = .last) : w.inFlight w.slot = true := by
  rcases h with h | h <;> simp [ResultWrite.inFlight, h]

theorem inFlight_of_slot {w : ResultWrite} {i : SlotNo} (h : w.slot ≠ i) : w.inFlight i = false := by
  simp [ResultWrite.inFlight, h]

/-- One result at its completion: those of other slots stay. -/
def ResultWrite.completed (running ok : Bool) (i : SlotNo) (w : ResultWrite) : Option ResultWrite :=
  if w.inFlight i then w.after running ok else some w

/-- The survey unit after the completion of a slot's result write. -/
def Survey.resultsMoved (running ok : Bool) (i : SlotNo) (v : Survey) : Survey :=
  Survey.retried running i { v with results := v.results.filterMap (ResultWrite.completed running ok i) }

/-- A result write that was in flight completes: its result and the attempts move on (R16). -/
theorem completes_resultWriteDone {s : State} {w : ResultWrite} {ws : List ResultWrite} (hf : s.fresh (.result w.slot))
    (hw : w.phase = .first ∨ w.phase = .last) (hres : s.survey.results = w :: ws) (ok : Bool) :
    Completes (.resultWriteDone w.slot ok) s
      { (if ok then s else writeError .surveyUnit s) with survey := s.survey.resultsMoved s.running ok w.slot } := by
  have hany : s.survey.results.any (ResultWrite.inFlight w.slot) = true := by
    rw [hres, List.any_cons, inFlight_eq_true hw, Bool.true_or]
  unfold Completes
  show execResultWriteDone w.slot ok s = _
  rw [execResultWriteDone, onWrite_fresh _ _ _ hf, resultWriteDone, if_pos hany]
  cases ok with
  | true => rfl
  | false => simp only [Bool.false_eq_true, if_false, writeError_survey]; rfl

theorem completed_inFlight {w : ResultWrite} (hw : w.phase = .first ∨ w.phase = .last) (running ok : Bool) :
    w.completed running ok w.slot = w.after running ok := by
  rw [ResultWrite.completed, if_pos (inFlight_eq_true hw)]

theorem completed_other {w : ResultWrite} {i : SlotNo} (h : w.slot ≠ i) (running ok : Bool) :
    w.completed running ok i = some w := by
  rw [ResultWrite.completed, if_neg (by simp [inFlight_of_slot h])]

/-- With the slot's write still in flight, no other attempt begins. -/
theorem retried_inFlight {running : Bool} {i : SlotNo} {v : Survey} (h : v.results.any (ResultWrite.inFlight i) = true) :
    v.retried running i = v := by
  rw [Survey.retried, if_neg (by simp [h])]

theorem retryNext_none {running : Bool} {v : Survey} (h : nextRetry v.results = none) : v.retryNext running = v := by
  unfold Survey.retryNext
  rw [h]
  split <;> simp_all

/-- The attempt at the lowest waiting result begins. -/
theorem retryNext_some {v : Survey} {i : SlotNo} (hv : v.retrying = none) (h : nextRetry v.results = some i) :
    v.retryNext true = { v with
      retrying := some i
      results := v.results.map (fun w => if w.slot = i ∧ w.phase = .waiting then { w with phase := .first } else w) } := by
  unfold Survey.retryNext
  rw [h, hv]
  rfl

/-- The attempt at a slot is over and no result waits: no attempt is in force at it. -/
theorem retried_alone {running : Bool} {i : SlotNo} {v : Survey} (h : ∀ w ∈ v.results, w.inFlight i = false)
    (hw : ∀ w ∈ v.results, w.phase ≠ .waiting) :
    v.retried running i = { v with retrying := if v.retrying = some i then none else v.retrying } := by
  have hany : v.results.any (ResultWrite.inFlight i) = false := List.any_eq_false.2 fun w hm => by simp [h w hm]
  unfold Survey.retried
  by_cases hr : v.retrying = some i
  · rw [if_pos ⟨hr, by simp [hany]⟩, if_pos hr]
    exact retryNext_none (nextRetry_eq_none hw)
  · rw [if_neg (fun hand => hr hand.1), if_neg hr]

/-! ## One result, and two (R16) -/

section Results

variable {s : State} {w : ResultWrite}

theorem resultsMoved_single (hw : w.phase = .first ∨ w.phase = .last) (hres : s.survey.results = [w]) (ok : Bool) :
    s.survey.resultsMoved s.running ok w.slot =
      Survey.retried s.running w.slot { s.survey with results := (w.after s.running ok).toList } := by
  rw [Survey.resultsMoved, hres, List.filterMap_cons, completed_inFlight hw]
  cases w.after s.running ok <;> rfl

theorem resultsMoved_two {x : ResultWrite} (hw : w.phase = .first ∨ w.phase = .last) (hx : x.slot ≠ w.slot)
    (hres : s.survey.results = [w, x]) (ok : Bool) :
    s.survey.resultsMoved s.running ok w.slot =
      Survey.retried s.running w.slot { s.survey with results := (w.after s.running ok).toList ++ [x] } := by
  rw [Survey.resultsMoved, hres, List.filterMap_cons, completed_inFlight hw, List.filterMap_cons, completed_other hx]
  cases w.after s.running ok <;> rfl

/-- The attempt at a slot is over and one other result waits: the attempt at that one begins. -/
theorem retried_next {v : Survey} {i : SlotNo} {pre : List ResultWrite} {x : ResultWrite} (hv : v.retrying = some i)
    (hres : v.results = pre ++ [x]) (hpre : ∀ y ∈ pre, y.phase = .held) (hslot : x.slot ≠ i) (hx : x.phase = .waiting) :
    v.retried true i = { v with retrying := some x.slot, results := pre ++ [{ x with phase := .first }] } := by
  have hmem : x ∈ v.results := by rw [hres]; exact List.mem_append_right _ List.mem_cons_self
  have hmine : ∀ y ∈ v.results, y = x ∨ y.phase = .held := by
    intro y hy
    rw [hres, List.mem_append, List.mem_singleton] at hy
    exact hy.symm.imp_right (hpre y)
  have hnone : v.results.any (ResultWrite.inFlight i) = false := by
    refine List.any_eq_false.2 fun y hy => ?_
    rcases hmine y hy with rfl | hheld
    · simp [inFlight_of_slot hslot]
    · simp [ResultWrite.inFlight, hheld]
  have hnext : nextRetry v.results = some x.slot := by
    refine nextRetry_eq_some hmem hx fun y hy hwait => ?_
    rcases hmine y hy with rfl | hheld
    · exact Nat.le_refl _
    · simp [hheld] at hwait
  have hkept : ∀ y ∈ pre, (if y.slot = x.slot ∧ y.phase = .waiting then { y with phase := .first } else y) = y :=
    fun y hy => if_neg (by simp [hpre y hy])
  rw [Survey.retried, if_pos ⟨hv, by simp [hnone]⟩, retryNext_some rfl (by exact hnext)]
  simp only [hres, List.map_append, List.map_congr_left hkept, List.map_id', List.map_cons, List.map_nil, hx, and_self,
    if_true]

/-- A single result on its way: good, it goes on to the slot state or is done; failed, it is held. -/
theorem singleResult (hrun : s.survey.state = .running) (hf : s.fresh (.result w.slot)) (hres : s.survey.results = [w]) :
    (w.phase = .first →
      Completes (.resultWriteDone w.slot true) s
        { s with survey := { s.survey with results := [{ w with phase := .last }] } }) ∧
    (w.phase = .last →
      Completes (.resultWriteDone w.slot true) s { s with survey := { s.survey with
        retrying := if s.survey.retrying = some w.slot then none else s.survey.retrying, results := [] } }) ∧
    (w.phase = .first ∨ w.phase = .last → Completes (.resultWriteDone w.slot false) s
      { writeError .surveyUnit s with survey := { s.survey with
        retrying := if s.survey.retrying = some w.slot then none else s.survey.retrying
        results := [{ w with phase := .held }] } }) := by
  have hrunning : s.running = true := (running_iff s).2 hrun
  refine ⟨fun hw => ?_, fun hw => ?_, fun hw => ?_⟩
  · have h := completes_resultWriteDone hf (.inl hw) hres true
    rw [resultsMoved_single (.inl hw) hres, hrunning, retried_inFlight] at h
    · simpa [ResultWrite.after, hw] using h
    · simp [ResultWrite.after, hw, ResultWrite.inFlight]
  · have h := completes_resultWriteDone hf (.inr hw) hres true
    rw [resultsMoved_single (.inr hw) hres, retried_alone] at h
    · simpa [ResultWrite.after, hw] using h
    · simp [ResultWrite.after, hw]
    · simp [ResultWrite.after, hw]
  · have h := completes_resultWriteDone hf hw hres false
    rw [resultsMoved_single hw hres, retried_alone] at h
    · simpa [ResultWrite.after] using h
    · simp [ResultWrite.after, ResultWrite.inFlight]
    · simp [ResultWrite.after]

/-- A result whose write has ended lets the one that waits behind it begin. -/
theorem twoResults {x : ResultWrite} (hrun : s.survey.state = .running) (hf : s.fresh (.result w.slot))
    (hres : s.survey.results = [w, x]) (hslot : x.slot ≠ w.slot) (hx : x.phase = .waiting)
    (hretry : s.survey.retrying = some w.slot) :
    (w.phase = .last → Completes (.resultWriteDone w.slot true) s { s with survey := { s.survey with
      results := [{ x with phase := .first }], retrying := some x.slot } }) ∧
    (w.phase = .first ∨ w.phase = .last → Completes (.resultWriteDone w.slot false) s
      { writeError .surveyUnit s with survey := { s.survey with
        results := [{ w with phase := .held }, { x with phase := .first }], retrying := some x.slot } }) := by
  have hrunning : s.running = true := (running_iff s).2 hrun
  refine ⟨fun hw => ?_, fun hw => ?_⟩
  · have h := completes_resultWriteDone hf (.inr hw) hres true
    rw [resultsMoved_two (.inr hw) hslot hres, hrunning, retried_next (by exact hretry) rfl _ hslot hx] at h
    · simpa [ResultWrite.after, hw] using h
    · simp [ResultWrite.after, hw]
  · have h := completes_resultWriteDone hf hw hres false
    rw [resultsMoved_two hw hslot hres, hrunning, retried_next (by exact hretry) rfl _ hslot hx] at h
    · simpa [ResultWrite.after] using h
    · simp [ResultWrite.after]

end Results

/-! ## The attempts of a block (R16) -/

/-- A held result waits for its turn. -/
def ResultWrite.waits (w : ResultWrite) : ResultWrite := if w.phase = .held then { w with phase := .waiting } else w

/-- The waiting result of a slot is attempted. -/
def ResultWrite.tried (i : SlotNo) (w : ResultWrite) : ResultWrite :=
  if w.slot = i ∧ w.phase = .waiting then { w with phase := .first } else w

theorem waits_slot (w : ResultWrite) : w.waits.slot = w.slot := by unfold ResultWrite.waits; split <;> rfl

theorem waits_phase_ne_held (w : ResultWrite) : w.waits.phase ≠ .held := by
  unfold ResultWrite.waits
  split
  · simp
  · assumption

theorem waits_waiting {w : ResultWrite} (h : w.waits.phase = .waiting) : w.phase = .held ∨ w.phase = .waiting := by
  unfold ResultWrite.waits at h
  split at h
  · exact .inl ‹_›
  · exact .inr h

theorem waits_held {w : ResultWrite} (h : w.phase = .held) : w.waits = { w with phase := .waiting } := if_pos h

theorem tried_slot (i : SlotNo) (w : ResultWrite) : (w.tried i).slot = w.slot := by
  unfold ResultWrite.tried; split <;> rfl

theorem tried_phase_ne_held (i : SlotNo) {w : ResultWrite} (h : w.phase ≠ .held) : (w.tried i).phase ≠ .held := by
  unfold ResultWrite.tried
  split
  · simp
  · exact h

theorem retryResults_idle {v : Survey} (h : nextRetry (v.results.map ResultWrite.waits) = none) :
    v.retryResults = { v with results := v.results.map ResultWrite.waits, resultsTried := true } :=
  retryNext_none h

theorem retryResults_tries {v : Survey} {i : SlotNo} (hv : v.retrying = none)
    (h : nextRetry (v.results.map ResultWrite.waits) = some i) :
    v.retryResults = { v with
      results := (v.results.map ResultWrite.waits).map (ResultWrite.tried i), resultsTried := true
      retrying := some i } :=
  retryNext_some hv h

/-- A block's attempts leave no result held, and each slot its result. -/
theorem retryResults_results {v : Survey} (hv : v.retrying = none) :
    (∀ x ∈ v.retryResults.results, x.phase ≠ .held) ∧
      v.retryResults.results.map ResultWrite.slot = v.results.map ResultWrite.slot := by
  have hwaits : ∀ x ∈ v.results.map ResultWrite.waits, x.phase ≠ .held := by
    intro x hx
    obtain ⟨w, -, rfl⟩ := List.mem_map.1 hx
    exact waits_phase_ne_held w
  have hslots : (v.results.map ResultWrite.waits).map ResultWrite.slot = v.results.map ResultWrite.slot := by
    rw [List.map_map]
    exact List.map_congr_left fun w _ => waits_slot w
  cases hn : nextRetry (v.results.map ResultWrite.waits) with
  | none => rw [retryResults_idle hn]; exact ⟨hwaits, hslots⟩
  | some i =>
    rw [retryResults_tries hv hn]
    refine ⟨fun x hx => ?_, ?_⟩
    · obtain ⟨w, hw, rfl⟩ := List.mem_map.1 hx
      exact tried_phase_ne_held i (hwaits w hw)
    · rw [List.map_map, show ResultWrite.slot ∘ ResultWrite.tried i = ResultWrite.slot from funext (tried_slot i)]
      exact hslots

/-- The held result of lowest slot is the one attempted first; the other held ones wait. -/
theorem retryResults_lowest {v : Survey} (hv : v.retrying = none) {w : ResultWrite} (hw : w ∈ v.results)
    (hheld : w.phase = .held) (hlow : ∀ x ∈ v.results, x.phase = .held ∨ x.phase = .waiting → w.slot ≤ x.slot) :
    v.retryResults.retrying = some w.slot ∧ { w with phase := .first } ∈ v.retryResults.results ∧
      ∀ x ∈ v.results, x.phase = .held → x.slot ≠ w.slot → { x with phase := .waiting } ∈ v.retryResults.results := by
  have hn : nextRetry (v.results.map ResultWrite.waits) = some w.slot := by
    have hmem := List.mem_map_of_mem (f := ResultWrite.waits) hw
    rw [← waits_slot w]
    refine nextRetry_eq_some hmem (by rw [waits_held hheld]) fun x hx hwait => ?_
    obtain ⟨y, hy, rfl⟩ := List.mem_map.1 hx
    rw [waits_slot, waits_slot]
    exact hlow y hy (waits_waiting hwait)
  have htried : ∀ x ∈ v.results, x.waits.tried w.slot ∈ v.retryResults.results := by
    intro x hx
    rw [retryResults_tries hv hn]
    exact List.mem_map_of_mem (List.mem_map_of_mem hx)
  refine ⟨by rw [retryResults_tries hv hn], ?_, fun x hx hxheld hne => ?_⟩
  · have h := htried w hw
    rwa [waits_held hheld, ResultWrite.tried, if_pos ⟨rfl, rfl⟩] at h
  · have h := htried x hx
    rwa [waits_held hxheld, ResultWrite.tried, if_neg (fun hand => hne hand.1)] at h

/-- Settles O13: the completions by the results that stand, the attempts by `nextRetry`. -/
theorem resultsAreWrittenAndHeld : Obligations.ResultsAreWrittenAndHeld := by
  unfold Obligations.ResultsAreWrittenAndHeld
  refine ⟨?_, fun s hrun => ⟨fun htried => ?_, fun htried hretry => ?_⟩, fun base w => ⟨fun hw => ?_, fun hw => ?_⟩⟩
  · rintro s i w hrun hf rfl
    exact ⟨fun hres => singleResult hrun hf hres,
      fun x hres hslot hx hretry => twoResults hrun hf hres hslot hx hretry⟩
  · unfold Ignored
    show execHeldResultRetry s = _
    rw [execHeldResultRetry, if_neg (by simp [htried])]
  · obtain ⟨hheld, hslots⟩ := retryResults_results hretry
    refine ⟨{ s with survey := s.survey.retryResults }, ?_, ?_, hheld, hslots, ?_, ?_⟩
    · unfold Completes
      show execHeldResultRetry s = _
      rw [execHeldResultRetry, if_pos (by simp [htried, (running_iff s).2 hrun])]
    · rw [retryResults_only]
    · exact fun w hw hwheld hlow => retryResults_lowest hretry hw hwheld hlow
    · rw [retryResults_only]
  · simp only [ResultWrite.onBus, hw]
    rfl
  · simp only [ResultWrite.onBus, hw]
    cases w.code <;> rfl

end Sys2Proof.Machine


/-! # Survey passes and DETACHED (R7, R8, R11). -/

namespace Sys2Proof.Machine

open Sys2Proof

/-! ## The completions of the survey unit's reads -/

section Reads

variable {s : State}

theorem completes_headerRead (hf : s.fresh .header) (r : ReadResult) :
    Completes (.headerReadDone r) s (headerReadDone r s) := by
  unfold Completes
  show execHeaderReadDone r s = _
  rw [execHeaderReadDone, onRead_fresh _ hf]

theorem completes_attachHeaderRead (hf : s.fresh .attachHeader) (r : ReadResult) :
    Completes (.attachHeaderReadDone r) s (attachHeaderReadDone r s) := by
  unfold Completes
  show execAttachHeaderReadDone r s = _
  rw [execAttachHeaderReadDone, onRead_fresh _ hf]

theorem headerReadDone_edition (hp : s.survey.phase = .editionWord) (bs : List Byte) :
    headerReadDone (some bs) s = editionRead (word bs 0) s := by unfold headerReadDone; rw [hp]

theorem headerReadDone_table (hp : s.survey.phase = .table) (bs : List Byte) :
    headerReadDone (some bs) s = tableRead bs s := by unfold headerReadDone; rw [hp]

theorem headerReadDone_retry (hp : s.survey.phase = .retryHeader) (r : ReadResult) :
    headerReadDone r s = retryRead r s := by unfold headerReadDone; rw [hp]

theorem headerReadDone_failed (hp : s.survey.phase = .editionWord ∨ s.survey.phase = .table) :
    headerReadDone none s = headerFailed s := by
  unfold headerReadDone
  rcases hp with hp | hp <;> rw [hp]

/-! ## What the header edition word decides (R11) -/

/-- A section is marked, as the survey asks it. -/
theorem marked_iff (m : PerSec Bool) :
    (settingSections.any m.get || m.slots) = true ↔ ∃ sec, m.get sec = true := by
  simp only [settingSections, List.any_cons, List.any_nil, Bool.or_false, Bool.or_eq_true]
  constructor
  · rintro ((h | h | h | h | h) | h)
    exacts [⟨_, h⟩, ⟨_, h⟩, ⟨_, h⟩, ⟨_, h⟩, ⟨_, h⟩, ⟨.slots, h⟩]
  · rintro ⟨sec, h⟩
    cases sec
    case station => exact .inl (.inl h)
    case anchor => exact .inl (.inr (.inl h))
    case policy => exact .inl (.inr (.inr (.inl h)))
    case callers => exact .inl (.inr (.inr (.inr (.inl h))))
    case logs => exact .inl (.inr (.inr (.inr (.inr h))))
    case slots => exact .inr h

theorem editionRead_same {e : Word} (he : e = s.survey.lastSeen) (hm : ∀ sec, s.survey.marked.get sec = false) :
    editionRead e s = { s with survey := { s.survey with phase := .idle, failedReads := 0 } } := by
  have hnone : ¬(settingSections.any s.survey.marked.get || s.survey.marked.slots) = true := fun h => by
    obtain ⟨sec, hsec⟩ := (marked_iff _).1 h
    simp [hm sec] at hsec
  unfold editionRead
  dsimp only
  rw [if_neg (by rw [Bool.or_assoc]; simpa [he] using hnone)]
  rfl

theorem editionRead_marked {e : Word} (he : e = s.survey.lastSeen) (hm : ∃ sec, s.survey.marked.get sec = true) :
    editionRead e s = { s with
      survey := { s.survey with phase := .table, pass := { s.survey.pass with edition := e, changed := false } }
      walker := { s.walker with surveyChanged := false } } := by
  unfold editionRead
  dsimp only
  rw [if_pos (by rw [Bool.or_assoc, (marked_iff _).2 hm, Bool.or_true]), show (e != s.survey.lastSeen) = false by simp [he]]

theorem editionRead_changed {e : Word} (he : e ≠ s.survey.lastSeen) :
    editionRead e s = { s with
      survey := { s.survey with phase := .table, pass := { s.survey.pass with edition := e, changed := true } }
      walker := { s.walker with surveyChanged := true } } := by
  have hch : (e != s.survey.lastSeen) = true := by simp [he]
  unfold editionRead
  dsimp only
  rw [if_pos (by rw [hch]; rfl), hch]

/-! ## The edition table (R11) -/

theorem goOn_next (x : Sec) (xs : List Sec) (u : State) :
    goOn (x :: xs) u = { u with survey := { u.survey with phase := .sect x xs } } := rfl

theorem goOn_slots {u : State} (h : u.survey.wants .slots = true) :
    goOn [] u = { u with survey := { u.survey with phase := .slots } } := by
  rw [goOn, if_pos h]; rfl

theorem goOn_ends {u : State} (h : u.survey.wants .slots = false) : goOn [] u = finishPass u := by
  rw [goOn, if_neg (by simp [h])]

/-- A pass that goes on changes the phase, and at its end the two editions. -/
theorem goOn_only (rest : List Sec) (u : State) : goOn rest u = { u with survey := { u.survey with
    phase := (goOn rest u).survey.phase, lastSeen := (goOn rest u).survey.lastSeen
    appliedEdition := (goOn rest u).survey.appliedEdition } } := by
  cases rest with
  | cons x xs => rfl
  | nil =>
    cases h : u.survey.wants .slots with
    | true => rw [goOn_slots h]
    | false => rw [goOn_ends h, finishPass_only]

/-- While the pass goes on the two editions stay. -/
theorem goOn_keepsEditions (rest : List Sec) (u : State) (h : (goOn rest u).survey.phase ≠ .idle) :
    (goOn rest u).survey.lastSeen = u.survey.lastSeen ∧
      (goOn rest u).survey.appliedEdition = u.survey.appliedEdition := by
  cases rest with
  | cons x xs => exact ⟨rfl, rfl⟩
  | nil =>
    cases hw : u.survey.wants .slots with
    | true => rw [goOn_slots hw]; exact ⟨rfl, rfl⟩
    | false =>
      rw [goOn_ends hw, finishPass_only] at h
      exact absurd rfl h

/-- The survey unit once the edition table has been read good. -/
def State.tableTaken (s : State) (bs : List Byte) : State :=
  { s with survey := { s.survey with
    failedReads := 0, pass := { s.survey.pass with table := editionTable bs } } }

theorem tableRead_good {bs : List Byte} (h : signatureRight bs = true ∧ versionRight bs = true) :
    tableRead bs s = goOn (settingSections.filter (s.tableTaken bs).survey.wants) (s.tableTaken bs) := by
  rw [tableRead, if_pos (by rw [h.1, h.2]; rfl)]; rfl

theorem tableRead_bad {bs : List Byte} (h : ¬(signatureRight bs = true ∧ versionRight bs = true)) :
    tableRead bs s = headerFailed s := by
  rw [tableRead, if_neg (by rwa [Bool.and_eq_true])]

/-! ## DETACHED and its retries (R7, R8) -/

theorem retryRead_none : retryRead none s = { s with survey := { s.survey with phase := .idle } } := rfl

theorem retryRead_bad {bs : List Byte} (h : ¬(signatureRight bs = true ∧ versionRight bs = true)) :
    retryRead (some bs) s = { s with survey := { s.survey with phase := .idle } } := by
  simp only [retryRead]
  rw [if_neg (by rwa [Bool.and_eq_true])]; rfl

theorem retryRead_good {bs : List Byte} (h : signatureRight bs = true ∧ versionRight bs = true) :
    retryRead (some bs) s = { s with survey := { s.survey with phase := .attachHeader true } } := by
  simp only [retryRead]
  rw [if_pos (by rw [h.1, h.2]; rfl)]; rfl

theorem attachHeaderReadDone_none {re : Bool} (hp : s.survey.phase = .attachHeader re) :
    attachHeaderReadDone none s = if re then reattachEnds (cbRead s) else attachEnds .readFailed (cbRead s) := by
  unfold attachHeaderReadDone; rw [hp]

theorem attachHeaderReadDone_signature {re : Bool} (hp : s.survey.phase = .attachHeader re) {bs : List Byte}
    (h : signatureRight bs = false) :
    attachHeaderReadDone (some bs) s = if re then reattachEnds s else attachEnds .badSignature s := by
  unfold attachHeaderReadDone; rw [hp]; simp only [h]; rfl

theorem attachHeaderReadDone_version {re : Bool} (hp : s.survey.phase = .attachHeader re) {bs : List Byte}
    (hs : signatureRight bs = true) (h : versionRight bs = false) :
    attachHeaderReadDone (some bs) s = if re then reattachEnds s else attachEnds .badVersion s := by
  unfold attachHeaderReadDone; rw [hp]; simp only [h, hs]; rfl

theorem attachHeaderReadDone_good {re : Bool} (hp : s.survey.phase = .attachHeader re) {bs : List Byte}
    (h : signatureRight bs = true ∧ versionRight bs = true) :
    attachHeaderReadDone (some bs) s = attachBegins re bs s := by
  unfold attachHeaderReadDone; rw [hp]; simp only [h.1, h.2]; rfl

theorem attachHeaderReadDone_badAgain (hp : s.survey.phase = .attachHeader true) {bs : List Byte}
    (h : ¬(signatureRight bs = true ∧ versionRight bs = true)) : attachHeaderReadDone (some bs) s = reattachEnds s := by
  cases hs : signatureRight bs with
  | false => rw [attachHeaderReadDone_signature hp hs, if_pos rfl]
  | true =>
    have hv : versionRight bs = false := by simpa [hs] using h
    rw [attachHeaderReadDone_version hp hs hv, if_pos rfl]

/-! ## A failed header read in RUNNING (R7) -/

/-- CB_READ as the statements write it. -/
theorem cbRead_eq (u : State) : cbRead u = raise ⟨.cbRead, .surveyUnit, 0, 0, 0, zeros16⟩ u := rfl

/-- The part once a failed header read has been counted. -/
def State.headerCounted (s : State) : State :=
  { (if s.survey.failedReads = 0 then cbRead s else s) with
    survey := { s.survey with failedReads := s.survey.failedReads + 1, phase := .idle } }

theorem headerFailed_eq : headerFailed s =
    if 3 ≤ s.survey.failedReads + 1 then enterDetached s.headerCounted else s.headerCounted := by
  have hsv : (if s.survey.failedReads = 0 then cbRead s else s).survey = s.survey := by
    split
    · exact raise_survey _ s
    · rfl
  unfold headerFailed State.headerCounted
  dsimp only
  rw [hsv]

/-- What the counting leaves: all but the survey unit, the faults and the log. -/
theorem headerCounted_only : s.headerCounted = { s with
    survey := { s.survey with failedReads := s.survey.failedReads + 1, phase := .idle }
    faults := s.headerCounted.faults, log := s.headerCounted.log } := by
  unfold State.headerCounted
  split
  · rw [cbRead, raise_only]
  · rfl

theorem headerCounted_faults : s.headerCounted.faults =
    if s.survey.failedReads = 0 then (cbRead s).faults else s.faults := by
  unfold State.headerCounted
  split <;> rfl

/-- Entry to DETACHED changes the survey unit, the walker, its bus, the writes of the decks and the log's queue. -/
theorem enterDetached_only : enterDetached s = { s with
    walker := (stopWalker s).walker, bus := (stopWalker s).bus
    survey := { s.survey with state := .detached, cause := .readFailed, phase := .idle, retryCount := 0 }
    decks := { s.decks with deck := s.decks.deck.map (fun k => { k with writes := holdWrites k.writes }) }
    log := s.log.flush } := by
  unfold enterDetached
  dsimp only
  rw [stopWalker_only]

/-- A good edition table: the pass goes on with it. -/
theorem tableRead_clause {bs : List Byte} (hf : s.fresh .header) (hp : s.survey.phase = .table)
    (hok : s.survey.pass.failed = false) (hgood : signatureRight bs = true ∧ versionRight bs = true) :
    let due (sec : Sec) : Bool := (editionTable bs).get sec != s.survey.seen.get sec || s.survey.marked.get sec
    let wanted : List Sec := [Sec.station, .anchor, .policy, .callers, .logs].filter due
    ∃ t, Completes (.headerReadDone (some bs)) s t ∧ t = { s with survey := { s.survey with
        failedReads := 0, pass := { s.survey.pass with table := editionTable bs }, phase := t.survey.phase
        lastSeen := t.survey.lastSeen, appliedEdition := t.survey.appliedEdition } } ∧
      (∀ x xs, wanted = x :: xs → t.survey.phase = .sect x xs) ∧
      (wanted = [] → due .slots = true → t.survey.phase = .slots) ∧
      (wanted = [] → due .slots = false → t.survey.phase = .idle ∧ t.survey.lastSeen = s.survey.pass.edition ∧
        t.survey.appliedEdition = s.survey.pass.edition) ∧
      (t.survey.phase ≠ .idle → t.survey.lastSeen = s.survey.lastSeen ∧
        t.survey.appliedEdition = s.survey.appliedEdition) := by
  intro due wanted
  refine ⟨goOn wanted (s.tableTaken bs), ?_, ?_, fun x xs hw => ?_, fun hw hs => ?_, fun hw hs => ?_,
    goOn_keepsEditions wanted _⟩
  · have h := completes_headerRead hf (some bs)
    rwa [headerReadDone_table hp, tableRead_good hgood] at h
  · rw [goOn_only]; rfl
  · rw [hw]; rfl
  · rw [hw, goOn_slots (u := s.tableTaken bs) hs]
  · rw [hw, goOn_ends (u := s.tableTaken bs) hs, finishPass_good (by exact hok)]
    exact ⟨rfl, rfl, rfl⟩

/-- A failed header read in RUNNING ends the pass; the third in a row enters DETACHED (R7). -/
theorem headerFailed_clause (hrun : s.survey.state = .running) (hf : s.fresh .header)
    (hp : s.survey.phase = .editionWord ∨ s.survey.phase = .table) :
    ∃ t, Completes (.headerReadDone none) s t ∧ t.survey.phase = .idle ∧
      t.survey.failedReads = s.survey.failedReads + 1 ∧
      (s.survey.failedReads = 0 → t.faults = (raise ⟨.cbRead, .surveyUnit, 0, 0, 0, zeros16⟩ s).faults) ∧
      (s.survey.failedReads ≠ 0 → t.faults = s.faults) ∧
      (s.survey.failedReads < 2 → t.survey.state = .running ∧ t.survey.cause = s.survey.cause ∧ t.walker = s.walker) ∧
      (2 ≤ s.survey.failedReads → t.survey.state = .detached ∧ t.survey.cause = .readFailed ∧
        t.survey.retryCount = 0 ∧ t.walker.walking = false ∧ t.walker.ptr = s.walker.ptr ∧ t.log.queue = []) ∧
      t.sections = s.sections ∧ t.callers = s.callers ∧ t.delay = s.delay ∧ t.monitor = s.monitor ∧ t.fetch = s.fetch ∧
      t.time = s.time ∧ ∀ d, (t.deck d).state = (s.deck d).state := by
  have hdone := completes_headerRead hf none
  rw [headerReadDone_failed hp, headerFailed_eq] at hdone
  have hfirst : s.survey.failedReads = 0 → s.headerCounted.faults = (cbRead s).faults := fun h => by
    rw [headerCounted_faults, if_pos h]
  have hlater : s.survey.failedReads ≠ 0 → s.headerCounted.faults = s.faults := fun h => by
    rw [headerCounted_faults, if_neg h]
  rcases Nat.lt_or_ge s.survey.failedReads 2 with hfew | hthird
  · rw [if_neg (by omega)] at hdone
    refine ⟨_, hdone, ?_⟩
    have honly := headerCounted_only (s := s)
    generalize s.headerCounted = t at honly hfirst hlater
    rw [honly]
    exact ⟨rfl, rfl, hfirst, hlater, fun _ => ⟨hrun, rfl, rfl⟩, fun h => by omega, rfl, rfl, rfl, rfl, rfl, rfl,
      fun _ => rfl⟩
  · rw [if_pos (by omega)] at hdone
    refine ⟨_, hdone, ?_⟩
    obtain ⟨hwalk, hptr, -⟩ := stopWalker_stops s.headerCounted
    rw [enterDetached_only]
    have honly := headerCounted_only (s := s)
    generalize s.headerCounted = t at honly hfirst hlater hwalk hptr
    have hwalker : t.walker = s.walker := by rw [honly]
    have hdecks : t.decks = s.decks := by rw [honly]
    refine ⟨rfl, by rw [honly], hfirst, hlater, fun h => by omega,
      fun _ => ⟨rfl, rfl, rfl, hwalk, by rw [← hwalker]; exact hptr, rfl⟩, by rw [honly], by rw [honly], by rw [honly],
      by rw [honly], by rw [honly], by rw [honly], fun d => ?_⟩
    rw [hdecks]
    cases d <;> rfl

end Reads

/-- Settles O9, a clause for each of the survey unit's reads. -/
theorem surveyReadsTheHeaderFirst : Obligations.SurveyReadsTheHeaderFirst := by
  unfold Obligations.SurveyReadsTheHeaderFirst
  refine ⟨fun s => ⟨fun hrun hmade hidle => ?_, fun hrun hf hp bs => ⟨fun he hm => ?_, fun he hm => ?_, fun he => ?_⟩,
    fun hdet hidle hcount => ?_⟩, fun s bs hf => ⟨fun hp hok => ⟨fun hbad => ?_, fun hgood => ?_⟩, fun hp => ⟨?_, ?_, ?_⟩⟩,
    fun s bs hf hp => ⟨?_, fun hbad => ?_, fun hgood => ?_⟩, fun s hrun hf hp => ?_⟩
  · unfold Completes
    show execSurveyPass s = _
    rw [execSurveyPass, if_pos (by simp [(running_iff s).2 hrun, hmade, hidle])]
  · have h := completes_headerRead hf (some bs)
    rwa [headerReadDone_edition hp, editionRead_same he hm] at h
  · have h := completes_headerRead hf (some bs)
    rwa [headerReadDone_edition hp, editionRead_marked he hm] at h
  · have h := completes_headerRead hf (some bs)
    rwa [headerReadDone_edition hp, editionRead_changed he] at h
  · unfold Completes
    show execDetachedRetry s = _
    rw [execDetachedRetry, if_pos ⟨hdet, hidle, hcount⟩]
  · refine Eq.trans (completes_headerRead hf (some bs)) (Eq.trans ?_ (completes_headerRead hf none).symm)
    rw [headerReadDone_table hp, tableRead_bad hbad, headerReadDone_failed (.inr hp)]
  · exact tableRead_clause hf hp hok hgood
  · have h := completes_headerRead hf none
    rwa [headerReadDone_retry hp] at h
  · intro hbad
    have h := completes_headerRead hf (some bs)
    rwa [headerReadDone_retry hp, retryRead_bad hbad] at h
  · intro hgood
    have h := completes_headerRead hf (some bs)
    rwa [headerReadDone_retry hp, retryRead_good hgood] at h
  · have h := completes_attachHeaderRead hf none
    rw [attachHeaderReadDone_none hp, if_pos rfl, reattachEnds, cbRead_eq, raise_survey] at h
    exact h
  · have h := completes_attachHeaderRead hf (some bs)
    rwa [attachHeaderReadDone_badAgain hp hbad] at h
  · have h := completes_attachHeaderRead hf (some bs)
    rwa [attachHeaderReadDone_good hp hgood] at h
  · exact headerFailed_clause hrun hf hp

end Sys2Proof.Machine


/-! # Sections read, applied, refused and kept (R4, R11 to R14). -/

namespace Sys2Proof.Machine

open Sys2Proof

section Sections

variable {s : State}

/-! ## The completions of the section reads -/

theorem completes_sectionRead {sec : Sec} {rest : List Sec} (hf : s.fresh .sect) (hp : s.survey.phase = .sect sec rest)
    (bs : List Byte) : Completes (.sectionReadDone (some bs)) s
      (goOn rest (takeSection false sec (s.survey.pass.table.get sec) bs s)) := by
  unfold Completes
  show execSectionReadDone (some bs) s = _
  rw [execSectionReadDone, onRead_fresh _ hf]
  unfold sectionReadDone
  rw [hp]

theorem completes_sectionFailed {sec : Sec} {rest : List Sec} (hf : s.fresh .sect) (hp : s.survey.phase = .sect sec rest) :
    Completes (.sectionReadDone none) s (goOn rest (failSection sec s)) := by
  unfold Completes
  show execSectionReadDone none s = _
  rw [execSectionReadDone, onRead_fresh _ hf]
  unfold sectionReadDone
  rw [hp]

theorem completes_attachSectionRead {re : Bool} {sec : Sec} {rest : List Sec} (hf : s.fresh .attachSect)
    (hp : s.survey.phase = .attachSect re sec rest) (bs : List Byte) (slots : ReadResult) :
    Completes (.attachSectionReadDone (some bs) slots) s
      (attachOn re rest slots (takeSection true sec (s.survey.seen.get sec) bs s)) := by
  unfold Completes
  show execAttachSectionReadDone (some bs) slots s = _
  rw [execAttachSectionReadDone, onRead_fresh _ hf]
  unfold attachSectionReadDone
  rw [hp]

theorem completes_attachSectionFailed {re : Bool} {sec : Sec} {rest : List Sec} (hf : s.fresh .attachSect)
    (hp : s.survey.phase = .attachSect re sec rest) (slots : ReadResult) :
    Completes (.attachSectionReadDone none slots) s (attachOn re rest slots (failSection sec s)) := by
  unfold Completes
  show execAttachSectionReadDone none slots s = _
  rw [execAttachSectionReadDone, onRead_fresh _ hf]
  unfold attachSectionReadDone
  rw [hp]

/-! ## A failed read, and a refused section (R4, R12, R13) -/

/-- A failed section read raises CB_READ and marks the section. -/
theorem failSection_eq (sec : Sec) : failSection sec s =
    { raise ⟨.cbRead, .surveyUnit, 0, 0, 0, zeros16⟩ s with survey := { s.survey with
      marked := s.survey.marked.set sec true, pass := { s.survey.pass with failed := true } } } := by
  unfold failSection
  dsimp only
  rw [cbRead_eq, raise_survey]

/-- A raising goes with a change of the survey unit that keeps the part state. -/
theorem raise_setSurvey (r : Raising) {v : Survey} (hv : v.state = s.survey.state) :
    raise r { s with survey := v } = { raise r s with survey := v } := by
  rw [raise_eq r (s := s) (t := { s with survey := v }) rfl rfl hv rfl rfl]
  conv_rhs => rw [raise_only]

/-- A refused section raises CB_SECTION with its index and reason, and the refused-section record takes it. -/
theorem refuseSection_eq (sec : Sec) (edition : Word) (r : RefuseReason) : refuseSection sec edition r s =
    { raise ⟨.cbSection, .surveyUnit, BitVec.ofNat 64 sec.index, 0, r.code, zeros16⟩ s with survey := { s.survey with
      seen := s.survey.seen.set sec edition, marked := s.survey.marked.set sec false
      refused := some ⟨sec, edition, r⟩ } } :=
  raise_setSurvey _ (by rfl)

theorem cbRead_only : cbRead s = { s with faults := (cbRead s).faults, log := (cbRead s).log } := raise_only _ s

/-- A failed read of the request slots ends the pass and marks section 3 (R12). -/
theorem slotsFailed_eq (hp : s.survey.phase = .slots) : slotsReadDone none s =
    { raise ⟨.cbRead, .surveyUnit, 0, 0, 0, zeros16⟩ s with survey := { s.survey with
      marked := s.survey.marked.set .slots true, pass := { s.survey.pass with failed := true }, phase := .idle } } := by
  rw [slotsReadDone, if_pos hp]
  dsimp only
  rw [finishPass_failed rfl, cbRead_eq, raise_survey]

/-- A log size that is no power of two in 64 to 4,096 is refused (R13). -/
theorem parseLogs_size {bs : List Byte} (h : ∀ k, 6 ≤ k → k ≤ 12 → field bs 0x08 4 ≠ 2 ^ k) :
    parseLogs bs = .refused .logSize := by
  have hnot : logSizes.contains (field bs 0x08 4) = false := by
    have h6 := h 6; have h7 := h 7; have h8 := h 8; have h9 := h 9
    have h10 := h 10; have h11 := h 11; have h12 := h 12
    simp_all [logSizes]
  rw [parseLogs, hnot]
  rfl

/-! ## A section applied (R11, R13) -/

/-- The survey unit once a section has been applied. -/
def Survey.sectionApplied (sec : Sec) (edition : Word) (v : Survey) : Survey :=
  { v with applied := v.applied.set sec edition, seen := v.seen.set sec edition, marked := v.marked.set sec false }

/-- The part once a section's editions are set and its clamps logged, before its settings are in force. -/
def State.sectionLogged (s : State) (sec : Sec) (edition : Word) (clamps : List Clamp) : State :=
  { s with
    survey := s.survey.sectionApplied sec edition
    log := (handLogs (clamps.map (clampEntry sec s.time)) s).log }

/-- Handing several entries reads the log writer, the part state, the section copies and the time alone. -/
theorem handLogs_log_eq (es : List LogEntry) {u t : State} (hl : t.log = u.log) (hr : t.survey.state = u.survey.state)
    (hs : t.sections = u.sections) (ht : t.time = u.time) : (handLogs es t).log = (handLogs es u).log := by
  induction es generalizing u t with
  | nil => exact hl
  | cons e es ih =>
    simp only [handLogs, List.foldl_cons] at *
    exact ih (handLog_log_eq e hl hr hs ht) hr hs ht

theorem applied_eq (sec : Sec) (edition : Word) (clamps : List Clamp) (effect : State → State) :
    applied sec edition clamps effect s = effect (s.sectionLogged sec edition clamps) := by
  rw [handFaultFree_applied, handLogs_only, State.sectionLogged]
  congr 2
  exact handLogs_log_eq _ rfl rfl rfl rfl

theorem takeSection_callers {attach : Bool} {edition : Word} {bs : List Byte} {x : CallerSettings} {clamps : List Clamp}
    (h : parseCallers bs = .ok x clamps) :
    takeSection attach .callers edition bs s = useCallers x (s.sectionLogged .callers edition clamps) := by
  simp only [takeSection]
  rw [h, settle, applied_eq]

/-- Section 5 in force: its copy, the lines, their ramps and what the holds log. -/
theorem useCallers_only (x : CallerSettings) : useCallers x s = { s with
    sections := { s.sections with callers := x }, callers := (useCallers x s).callers
    mixer := (useCallers x s).mixer, log := (useCallers x s).log } := by
  unfold useCallers
  rw [applyCallers_only]

theorem holdGroup_gain (boundary flag : Bool) (c : CallerCause) (ls : List LineNo) (n : LineNo) :
    ((holdGroup boundary flag c ls s).line n).gain = (s.line n).gain := by
  unfold holdGroup
  rw [handLogs_only]
  simp only [State.line, Callers.held, Four.get_ofFn, List.contains_iff_mem]
  split <;> rfl

theorem useCallers_gain (x : CallerSettings) (n : LineNo) : ((useCallers x s).line n).gain = (x.lines.get n).gain := by
  unfold useCallers applyCallers
  dsimp only
  rw [holdGroup_gain]
  simp [State.line, Line.setting]

/-- Settles O10. -/
theorem sectionsAreAppliedRefusedOrKept : Obligations.SectionsAreAppliedRefusedOrKept := by
  unfold Obligations.SectionsAreAppliedRefusedOrKept
  refine ⟨fun s => ⟨fun sec next rest hf hp => ?_, fun hf hp => ?_⟩, fun s bs rest hf hp hsize => ?_,
    fun s bs x clamps rest hf hp hok => ?_⟩
  · refine ⟨_, completes_sectionFailed hf hp, ?_⟩
    rw [failSection_eq, goOn_next]
    exact ⟨rfl, rfl⟩
  · refine ⟨slotsReadDone none s, ?_, ?_⟩
    · unfold Completes
      show execRequestSlotsReadDone none s = _
      rw [execRequestSlotsReadDone, onRead_fresh _ hf]
    · rw [slotsFailed_eq hp]
      exact ⟨rfl, rfl, rfl, rfl, rfl, rfl⟩
  · refine ⟨_, completes_sectionRead hf hp bs, ?_⟩
    have htaken : takeSection false .logs (s.survey.pass.table.get .logs) bs s =
        refuseSection .logs s.survey.pass.table.logs .logSize s := by
      simp only [takeSection, parseLogs_size hsize]
      rfl
    rw [htaken, refuseSection_eq, goOn_only]
    refine ⟨?_, rfl, rfl, rfl, rfl⟩
    exact raise_sections _ s
  · refine ⟨_, completes_sectionRead hf hp bs, ?_⟩
    have hgain : ∀ n, ((goOn rest (useCallers x (s.sectionLogged .callers (s.survey.pass.table.get .callers) clamps))).line
        n).gain = (x.lines.get n).gain := by
      intro n
      rw [goOn_only]
      exact useCallers_gain x n
    rw [takeSection_callers hok]
    refine ⟨?_, ?_, ?_, hgain, ?_, ?_, ?_⟩ <;> rw [goOn_only, useCallers_only] <;> rfl

end Sections

end Sys2Proof.Machine


/-! # What a section read good puts in force (R13, R14, R50, R70, R84, R116, R185). -/

namespace Sys2Proof.Machine

open Sys2Proof

/-! ## Clamping (R13) -/

theorem clamped_eq (v : Nat) {lo hi : Nat} (h : lo ≤ hi) : clamped v lo hi = max lo (min hi v) := by
  unfold clamped
  split
  · omega
  · split <;> omega

theorem gainOf_eq (v : Nat) : gainOf v = max 0 (min 32768 v) := by
  rw [gainOf, Nat.max_eq_right (Nat.zero_le _), Nat.min_comm]

theorem trimOf_eq (v : Word) : trimOf v = max (-128) (min 127 v.toInt) := by
  unfold trimOf
  split
  · omega
  · split <;> omega

theorem parseStation_ok {bs : List Byte} {x : Station} {clamps : List Clamp} (h : parseStation bs = .ok x clamps) :
    x = stationOf bs := by
  unfold parseStation at h
  split at h
  · cases h
  · split at h <;> cases h
    rfl

theorem parsePolicy_ok {bs : List Byte} {x : AlertSettings} {clamps : List Clamp} {locked : Bool}
    (h : parsePolicy locked bs = .ok x clamps) : x = alertSettingsOf bs := by
  unfold parsePolicy at h
  split at h
  · cases h
  · split at h
    · cases h
    · split at h
      · cases h
      · split at h <;> cases h
        rfl

theorem parseCallers_ok {bs : List Byte} {x : CallerSettings} {clamps : List Clamp}
    (h : parseCallers bs = .ok x clamps) : x = callerSettingsOf bs ∧ clamps = clampOf bs 0x00 1 3 := by
  unfold parseCallers at h
  split at h <;> cases h
  exact ⟨rfl, rfl⟩

theorem parseAnchor_ok {bs : List Byte} {x : Anchor} {clamps : List Clamp} (h : parseAnchor bs = .ok x clamps) :
    clamps = [] := by
  unfold parseAnchor at h
  split at h <;> cases h
  rfl

theorem parseLogs_ok {bs : List Byte} {x : LogSettings} {clamps : List Clamp} (h : parseLogs bs = .ok x clamps) :
    clamps = [] := by
  unfold parseLogs at h
  split at h
  · cases h
  · split at h <;> cases h
    rfl

theorem manualDeadlineOf_eq (v : Nat) : manualDeadlineOf v = if v = 0 then 0 else max 60 (min 3600 v) := by
  rw [manualDeadlineOf, clamped_eq v (by omega)]

theorem clampOf_limit (bs : List Byte) : clampOf bs 0x00 1 3 =
    if 1 ≤ field bs 0x00 4 ∧ field bs 0x00 4 ≤ 3 then []
    else [⟨0, BitVec.ofNat 32 (field bs 0x00 4), BitVec.ofNat 32 (max 1 (min 3 (field bs 0x00 4)))⟩] := by
  unfold clampOf
  dsimp only
  rw [clamped_eq _ (by omega)]
  by_cases h : 1 ≤ field bs 0x00 4 ∧ field bs 0x00 4 ≤ 3
  · rw [if_pos h, if_pos (by omega)]
  · rw [if_neg h, if_neg (by omega)]

/-! ## The log entries of clamped fields (R13) -/

theorem clampEntry_eq (sec : Sec) (now : Time) (c : Clamp) : clampEntry sec now c =
    ⟨.settingClamped, .surveyUnit, 0, now, BitVec.ofNat 16 c.off, BitVec.ofNat 64 sec.index, c.written, c.used⟩ := by
  simp only [clampEntry, entryOf, BitVec.ofNat_toNat, BitVec.setWidth_eq]
  rfl

section Sections

variable {s : State}

theorem sectionLogged_nil (sec : Sec) (edition : Word) :
    s.sectionLogged sec edition [] = { s with survey := s.survey.sectionApplied sec edition } := rfl

/-- A section settled as good takes effect on the part with its editions set and its clamps logged. -/
theorem settle_ok {α : Type} (sec : Sec) (edition : Word) (x : α) (clamps : List Clamp) (effect : α → State → State) :
    settle sec edition (.ok x clamps) effect s = effect x (s.sectionLogged sec edition clamps) := by
  rw [settle, applied_eq]

/-! ## Section 4 (R14, R146) -/

theorem takeSection_locked_same {attach : Bool} {edition : Word} {bs : List Byte} (hl : s.sections.locked = true)
    (he : edition = s.survey.applied.policy) : takeSection attach .policy edition bs s = keepLocked edition s := by
  simp only [takeSection]
  rw [if_pos (by simp [hl, he])]

theorem takeSection_locked_other {attach : Bool} {edition : Word} {bs : List Byte} (hl : s.sections.locked = true)
    (he : edition ≠ s.survey.applied.policy) :
    takeSection attach .policy edition bs s = refuseSection .policy edition .locked s := by
  simp only [takeSection]
  rw [if_neg (by simp [he]), hl]
  rfl

theorem takeSection_policy {attach : Bool} {edition : Word} {bs : List Byte} {x : AlertSettings} {clamps : List Clamp}
    (hl : s.sections.locked = false) (h : parsePolicy false bs = .ok x clamps) :
    takeSection attach .policy edition bs s = usePolicy x (s.sectionLogged .policy edition clamps) := by
  simp only [takeSection]
  rw [if_neg (by simp [hl]), hl, h, settle_ok]

/-! ## Section 2 (R50, R70) -/

theorem takeSection_anchor {attach : Bool} {edition : Word} {bs : List Byte} {x : Anchor} {clamps : List Clamp}
    (h : parseAnchor bs = .ok x clamps) : takeSection attach .anchor edition bs s =
      useAnchor attach x { s with survey := s.survey.sectionApplied .anchor edition } := by
  simp only [takeSection]
  rw [h, settle_ok, parseAnchor_ok h, sectionLogged_nil]

/-- A changed head sets the cue pointer and ends a walk (R50). -/
theorem setHead_walker (h : Addr) : (setHead h s).walker.ptr = h ∧ (setHead h s).walker.walking = false ∧
    (setHead h s).walker.links = 0 ∧ (setHead h s).walker.wait = 0 ∧
    (setHead h s).walker.state = if h = 0 then .noOrder else .toExamine := by
  refine ⟨rfl, ?_, rfl, rfl, rfl⟩
  show (stopWalk s).walker.walking = false
  unfold stopWalk
  split
  · unfold endWalk
    rw [noteDemand_lapsed]
  · simpa using ‹¬s.walker.walking = true›

/-- What giving up a load leaves of the store (R70). -/
theorem abandonLoad_rescue : (abandonLoad s).rescue.reading = false ∧
    (abandonLoad s).rescue.state = if s.rescue.state = .loading then .empty else s.rescue.state := by
  unfold abandonLoad
  rw [giveUp_only]
  split
  · exact ⟨rfl, rfl⟩
  · exact ⟨rfl, rfl⟩

theorem beginLoad_zero : (beginLoad 0 s).rescue.state = .empty ∧ (beginLoad 0 s).rescue.reading = false := by
  rw [beginLoad, if_pos rfl]
  exact ⟨rfl, abandonLoad_rescue.1⟩

theorem beginLoad_fill {fill : Addr} (h : fill ≠ 0) : (beginLoad fill s).rescue.reading = true ∧
    (beginLoad fill s).rescue.fill = fill ∧
    (beginLoad fill s).rescue.state = if s.rescue.state = .loading then .empty else s.rescue.state := by
  rw [beginLoad, if_neg h]
  exact ⟨rfl, rfl, abandonLoad_rescue.2⟩

theorem beginLoad_decks (fill : Addr) : (beginLoad fill s).decks.deck = s.decks.deck := by
  unfold beginLoad
  split
  · rw [emptyStore_only]
  · dsimp only
    rw [abandonLoad_only]

/-- The anchor's head in force, before its fill address (R50). -/
def State.headTaken (s : State) (x : Anchor) : State :=
  if x.head = s.sections.anchor.head then { s with sections := { s.sections with anchor := x } }
  else setHead x.head { s with sections := { s.sections with anchor := x } }

theorem useAnchor_eq (attach : Bool) (x : Anchor) : useAnchor attach x s =
    if attach || x.fill == s.sections.anchor.fill then s.headTaken x else beginLoad x.fill (s.headTaken x) := rfl

theorem headTaken_only (x : Anchor) : s.headTaken x = { s with
    sections := { s.sections with anchor := x }, walker := (s.headTaken x).walker, bus := (s.headTaken x).bus } := by
  unfold State.headTaken
  split
  · rfl
  · rw [setHead_only]

theorem headTaken_same {x : Anchor} (h : x.head = s.sections.anchor.head) : (s.headTaken x).walker = s.walker := by
  rw [State.headTaken, if_pos h]

theorem headTaken_moves {x : Anchor} (h : x.head ≠ s.sections.anchor.head) :
    (s.headTaken x).walker.ptr = x.head ∧ (s.headTaken x).walker.walking = false ∧ (s.headTaken x).walker.links = 0 ∧
      (s.headTaken x).walker.wait = 0 ∧ (s.headTaken x).walker.state = if x.head = 0 then .noOrder else .toExamine := by
  rw [State.headTaken, if_neg h]
  exact setHead_walker x.head

/-- The anchor in force: what it leaves, and what the head and the fill address do. -/
theorem useAnchor_clause (x : Anchor) : let t := useAnchor false x s
    t.sections = { s.sections with anchor := x } ∧
      (x.head = s.sections.anchor.head → t.walker = s.walker) ∧
      (x.head ≠ s.sections.anchor.head → t.walker.ptr = x.head ∧ t.walker.walking = false ∧ t.walker.links = 0 ∧
        t.walker.wait = 0 ∧ t.walker.state = (if x.head = 0 then .noOrder else .toExamine)) ∧
      t.decks.deck = s.decks.deck ∧
      (x.fill = s.sections.anchor.fill → t.rescue = s.rescue) ∧
      (x.fill ≠ s.sections.anchor.fill →
        (x.fill = 0 → t.rescue.state = .empty ∧ t.rescue.reading = false) ∧
        (x.fill ≠ 0 → t.rescue.reading = true ∧ t.rescue.fill = x.fill ∧
          t.rescue.state = (if s.rescue.state = .loading then .empty else s.rescue.state))) := by
  intro t
  have ht : t = useAnchor false x s := rfl
  clear_value t
  rw [useAnchor_eq] at ht
  have hsec : (s.headTaken x).sections = { s.sections with anchor := x } := by rw [headTaken_only]
  have hdeck : (s.headTaken x).decks = s.decks := by rw [headTaken_only]
  have hstore : (s.headTaken x).rescue = s.rescue := by rw [headTaken_only]
  by_cases hfill : x.fill = s.sections.anchor.fill
  · rw [if_pos (by simp [hfill])] at ht
    subst ht
    exact ⟨hsec, headTaken_same, headTaken_moves, by rw [hdeck], fun _ => hstore, fun h => absurd hfill h⟩
  · rw [if_neg (by simp [hfill])] at ht
    have hwalker : t.walker = (s.headTaken x).walker := by rw [ht, beginLoad_only]
    rw [hwalker]
    refine ⟨?_, headTaken_same, headTaken_moves, ?_, fun h => absurd h hfill, fun _ => ⟨fun h0 => ?_, fun h0 => ?_⟩⟩
    · rw [ht, beginLoad_only]
      exact hsec
    · rw [ht, beginLoad_decks, hdeck]
    · rw [ht, h0]
      exact beginLoad_zero
    · rw [ht, ← hstore]
      exact beginLoad_fill h0

/-- Within an attach the fill address begins no load (R70). -/
theorem useAnchor_attach (x : Anchor) : useAnchor true x s = s.headTaken x := by rw [useAnchor_eq]; rfl

theorem takeSection_anchor_attach (edition : Word) (bs : List Byte) :
    (takeSection true .anchor edition bs s).rescue = s.rescue ∧ (takeSection true .anchor edition bs s).fetch = s.fetch := by
  cases h : parseAnchor bs with
  | ok x clamps =>
    rw [takeSection_anchor h, useAnchor_attach, headTaken_only]
    exact ⟨rfl, rfl⟩
  | refused r =>
    have htaken : takeSection true .anchor edition bs s = refuseSection .anchor edition r s := by
      simp only [takeSection]
      rw [h]
      rfl
    rw [htaken, refuseSection_only]
    exact ⟨rfl, rfl⟩

/-! ## Section 6 (R185) -/

theorem takeSection_logs {attach : Bool} {edition : Word} {bs : List Byte} {x : LogSettings} {clamps : List Clamp}
    (h : parseLogs bs = .ok x clamps) : takeSection attach .logs edition bs s =
      useLogs x (word bs 0x0C) { s with survey := s.survey.sectionApplied .logs edition } := by
  simp only [takeSection]
  rw [h, settle_ok, parseLogs_ok h, sectionLogged_nil]

/-- The consumed index is taken when valid; another clears the flag, and raises LOG_INDEX at the onset alone (R185). -/
theorem useLogs_clause (x : LogSettings) (c : Word) : let t := useLogs x c s
    t.sections = { s.sections with logs := x } ∧
      ((s.log.head - c).toNat ≤ x.size → t.log = { s.log with consumed := c, valid := true } ∧ t.faults = s.faults) ∧
      (¬(s.log.head - c).toNat ≤ x.size → t.log.consumed = s.log.consumed ∧ t.log.valid = false ∧
        (s.log.valid = false → t.faults = s.faults) ∧
        (s.log.valid = true → t.faults = (raise ⟨.logIndex, .faultUnit, 0, 0, 0, zeros16⟩ s).faults)) := by
  intro t
  have ht : t = useLogs x c s := rfl
  clear_value t
  unfold useLogs at ht
  refine ⟨by rw [ht, readIndex_only], fun hvalid => ?_, fun hvalid => ?_⟩
  · rw [readIndex, if_pos (by simpa [indexValid] using hvalid)] at ht
    rw [ht]
    exact ⟨rfl, rfl⟩
  · rw [readIndex, if_neg (by simpa [indexValid] using hvalid)] at ht
    cases hflag : s.log.valid with
    | false =>
      rw [if_neg (by simp [hflag])] at ht
      rw [ht]
      exact ⟨rfl, hflag, fun _ => rfl, fun h => absurd h Bool.false_ne_true⟩
    | true =>
      rw [if_pos hflag] at ht
      rw [ht]
      refine ⟨?_, ?_, fun h => absurd h.symm Bool.false_ne_true, fun _ => ?_⟩
      · rw [raise_log_only]
      · rw [raise_log_only]
      · rw [raise_faults, raise_faults]
        rfl

/-! ## Section 5 (R84) -/

/-- The lines a lowered limit holds: the last of the on-air order. -/
theorem useCallers_clause (x : CallerSettings) (hon : s.callers.onAir.Nodup) : let t := useCallers x s
    t.callers.onAir = s.callers.onAir.take x.limit ∧
      t.callers.queue = s.callers.onAir.drop x.limit ++ s.callers.queue ∧
      (∀ n ∈ s.callers.onAir.drop x.limit,
        (t.line n).state = .hold ∧ (t.line n).since = s.time ∧ (t.line n).heldForAlert = false) ∧
      (∀ n, n ∉ s.callers.onAir.drop x.limit → (t.line n).state = (s.line n).state) ∧
      (s.callers.onAir.drop x.limit = [] → t.log = s.log) := by
  intro t
  have ht : t = useCallers x s := rfl
  clear_value t
  unfold useCallers applyCallers holdGroup at ht
  dsimp only at ht
  refine ⟨?_, ?_, fun n hn => ?_, fun n hn => ?_, fun hnone => ?_⟩
  · rw [ht, handLogs_callers]
    exact filter_surplus hon x.limit
  · rw [ht, handLogs_callers]
    rfl
  · rw [ht, State.line, handLogs_callers]
    simp [Callers.held, surplus, hn]
  · rw [ht, State.line, handLogs_callers]
    simp [Callers.held, surplus, hn, State.line, Line.setting]
  · rw [ht]
    simp [surplus, hnone, handLogs]

/-! ## Section 1 (R116) -/

theorem takeSection_station {attach : Bool} {edition : Word} {bs : List Byte} {x : Station} {clamps : List Clamp}
    (h : parseStation bs = .ok x clamps) :
    takeSection attach .station edition bs s = useStation x (s.sectionLogged .station edition clamps) := by
  simp only [takeSection]
  rw [h, settle_ok]

/-- With no held DUMP line nothing re-fires. -/
theorem refireAll_idle (h : ∀ n, s.heldDump n = false) : refireAll s = s := by
  have hone : ∀ n, refire n s = s := fun n => by rw [refire, if_neg (by simp [h n])]
  unfold refireAll
  generalize places8 = l
  induction l with
  | nil => rfl
  | cons n l ih => rw [List.foldl_cons, hone n, ih]

theorem heldDump_of_function (h : ∀ n, (s.sections.station.gpi.get n).function ≠ .dump) (n : GpiNo) :
    s.heldDump n = false := by simp [State.heldDump, h n]

/-- An event of the delay line without a held DUMP line hands its DELAY_STATE entry alone. -/
theorem noteDelay_idle (c : DelayCause) (o : State) (h : ∀ n, s.heldDump n = false) :
    noteDelay c o s = logDelay c o s := by
  have hlog : ∀ n, (logDelay c o s).heldDump n = false := fun n => by
    rw [← h n, logDelay_only]
    rfl
  unfold noteDelay
  dsimp only
  split
  · exact refireAll_idle hlog
  · rfl

/-- The part under a new section 1 copy, its mixer given, before the delay line's entry. -/
def State.stationReworked (s : State) (x : Station) (m : Mixer) : State :=
  { s with sections := { s.sections with station := x }, mixer := m, delay := s.delay.rework x.target }

theorem regain_mixer (g : Nat) (b : Bool) (u : State) :
    ∃ m, regainFill g (refreshStudio b u) = { u with mixer := m } := by
  have h1 := refreshStudio_only b u
  generalize refreshStudio b u = r at h1
  have h2 := regainFill_only g r
  generalize regainFill g r = q at h2
  exact ⟨q.mixer, by rw [h2, h1]⟩

theorem putStation_idle {x : Station} (h : ∀ n, (x.gpi.get n).function ≠ .dump) :
    ∃ m, putStation x s = logDelay .setting s (s.stationReworked x m) := by
  obtain ⟨m, hm⟩ := regain_mixer x.fillGain false { s with sections := { s.sections with station := x } }
  refine ⟨m, ?_⟩
  have hput : putStation x s = noteDelay .setting s (s.stationReworked x m) := by
    rw [putStation, hm]
    rfl
  rw [hput]
  exact noteDelay_idle .setting s (heldDump_of_function h)

theorem rework_only (target : Nat) (d : Delay) : d.rework target = { d with state := (d.rework target).state } := by
  unfold Delay.rework
  split <;> rfl

theorem rework_idle {target : Nat} {d : Delay} (h : d.state.engaged = false) : (d.rework target).state = d.state := by
  rw [Delay.rework, if_neg (by simp [h])]

theorem rework_engaged {target : Nat} {d : Delay} (h : d.state.engaged = true) :
    (d.rework target).state = workOut target d.depth := by
  rw [Delay.rework, if_pos h]

theorem engaged_iff (d : DelayState) : d.engaged = true ↔ d = .building ∨ d = .holding ∨ d = .squeezing := by
  cases d <;> simp [DelayState.engaged]

/-- Section 1 in force without a DUMP line: the delay line is worked out again and its change handed. -/
theorem useStation_idle {x : Station} (h : ∀ n, (x.gpi.get n).function ≠ .dump) :
    let t := useStation x s
    t.sections = { s.sections with station := x } ∧ t.delay = s.delay.rework x.target ∧ t.time = s.time ∧
      ∃ m, t.log = (logDelay .setting s (s.stationReworked x m)).log := by
  obtain ⟨m, hm⟩ := putStation_idle (s := s) h
  intro t
  have ht : t = rearm s.sections.station.gpi (logDelay .setting s (s.stationReworked x m)) := by
    rw [← hm]
    rfl
  rw [ht, rearm_only, logDelay_only]
  exact ⟨rfl, rfl, rfl, m, rfl⟩

/-- SAFE and the DELAY_STATE entry read the delay line, the section copies and the time alone. -/
theorem safe_eq {u t : State} (hd : t.delay = u.delay) (hs : t.sections = u.sections) : t.safe = u.safe := by
  unfold State.safe State.effDump
  rw [hd, hs]

theorem delayStateEntry_eq (o : DelayState) (c : DelayCause) {u t : State} (hd : t.delay = u.delay)
    (hs : t.sections = u.sections) (ht : t.time = u.time) : delayStateEntry o c t = delayStateEntry o c u := by
  unfold delayStateEntry State.effDump
  rw [safe_eq hd hs, hd, hs, ht]

theorem logDelay_same {c : DelayCause} {o u : State} (hst : o.delay.state = u.delay.state) (hsafe : o.safe = u.safe) :
    logDelay c o u = u := if_pos ⟨hst, hsafe⟩

theorem logDelay_changed {c : DelayCause} {o u : State} (h : ¬(o.delay.state = u.delay.state ∧ o.safe = u.safe)) :
    logDelay c o u = handLog (delayStateEntry o.delay.state c u) u := if_neg h

/-- What the log says of a section 1 in force without a DUMP line (R108, R116). -/
theorem useStation_log {x : Station} (h : ∀ n, (x.gpi.get n).function ≠ .dump) : let t := useStation x s
    (t.delay.state = s.delay.state → t.safe = s.safe → t.log = s.log) ∧
      (t.delay.state ≠ s.delay.state ∨ t.safe ≠ s.safe →
        t.log = (handLog (delayStateEntry s.delay.state .setting t) { s with sections := t.sections }).log) := by
  obtain ⟨hsec, hdelay, htime, m, hlog⟩ := useStation_idle (s := s) h
  intro t
  have hd : t.delay = (s.stationReworked x m).delay := hdelay
  have hs : t.sections = (s.stationReworked x m).sections := hsec
  have ht : t.time = (s.stationReworked x m).time := htime
  have hsafe := safe_eq hd hs
  constructor
  · intro hsame hsafe'
    rw [show t.log = _ from hlog, logDelay_same (by rw [← hd, hsame]) (by rw [← hsafe, hsafe'])]
    rfl
  · intro hchange
    rw [show t.log = _ from hlog, logDelay_changed, delayStateEntry_eq _ _ hd hs ht]
    · exact handLog_log_eq _ rfl rfl hs.symm rfl
    · rw [← hd, ← hsafe]
      rintro ⟨h1, h2⟩
      exact hchange.elim (fun hne => hne h1.symm) (fun hne => hne h2.symm)

/-- Settles O12: each section by what its application does. -/
theorem settingsAreClampedAndPutInForce : Obligations.SettingsAreClampedAndPutInForce := by
  unfold Obligations.SettingsAreClampedAndPutInForce
  refine ⟨fun bs => ⟨fun x clamps h => ?_, fun x clamps h => ?_, fun x clamps h => ?_⟩,
    fun s sec rest bs hf hp => ⟨?_, ?_, ?_, ?_, ?_⟩, fun s re next rest bs slots hf hp => ?_⟩
  · rw [parseStation_ok h]
    simp [stationOf, clamped_eq, gainOf_eq, trimOf_eq]
  · rw [parsePolicy_ok h]
    simp [alertSettingsOf, clamped_eq, gainOf_eq, manualDeadlineOf_eq]
  · obtain ⟨rfl, rfl⟩ := parseCallers_ok h
    exact ⟨clamped_eq _ (by omega), gainOf_eq _, clampOf_limit bs⟩
  · rintro rfl
    refine ⟨fun hlocked => ⟨fun he => ?_, fun he => ?_⟩, fun x clamps hopen hok => ?_⟩ <;>
      refine ⟨_, completes_sectionRead hf hp bs, ?_⟩ <;> rw [goOn_only]
    · rw [takeSection_locked_same (edition := s.survey.pass.table.get .policy) hlocked he]
      exact ⟨rfl, rfl⟩
    · rw [takeSection_locked_other (edition := s.survey.pass.table.get .policy) hlocked he, refuseSection_eq]
      exact ⟨rfl, rfl⟩
    · rw [takeSection_policy hopen hok]
      have hentries := List.map_congr_left (l := clamps) fun c _ => clampEntry_eq .policy s.time c
      exact ⟨rfl, rfl, congrArg (fun es => (handLogs es s).log) hentries, rfl, rfl⟩
  · rintro x clamps rfl hok
    refine ⟨_, completes_sectionRead hf hp bs, ?_⟩
    rw [takeSection_anchor hok, goOn_only]
    exact useAnchor_clause (s := { s with survey := s.survey.sectionApplied .anchor _ }) x
  · rintro x clamps rfl hok hon
    refine ⟨_, completes_sectionRead hf hp bs, ?_⟩
    rw [takeSection_callers hok, goOn_only]
    simp only [← clampEntry_eq]
    exact useCallers_clause (s := s.sectionLogged .callers _ clamps) x hon
  · rintro x clamps rfl hok hdump
    refine ⟨_, completes_sectionRead hf hp bs, ?_⟩
    rw [takeSection_station hok, goOn_only]
    obtain ⟨hsec, hdelay, -, -⟩ := useStation_idle (s := s.sectionLogged .station (s.survey.pass.table.get .station) clamps)
      hdump
    refine ⟨hsec, ?_, fun hne => ?_, fun heng => ?_, fun hnone => ?_⟩
    · refine hdelay.trans ((rework_only _ _).trans ?_)
      rw [← hdelay]
      rfl
    · have hidle : s.delay.state.engaged = false := by simpa using mt (engaged_iff s.delay.state).1 hne
      exact (congrArg Delay.state hdelay).trans (rework_idle hidle)
    · refine (congrArg Delay.state hdelay).trans ((rework_engaged ((engaged_iff _).2 heng)).trans ?_)
      rfl
    · subst hnone
      exact useStation_log (s := s.sectionLogged .station (s.survey.pass.table.get .station) []) hdump
  · rintro x clamps rfl hok
    refine ⟨_, completes_sectionRead hf hp bs, ?_⟩
    rw [takeSection_logs hok, goOn_only]
    have h := useLogs_clause (s := { s with survey := s.survey.sectionApplied .logs (s.survey.pass.table.get .logs) }) x
      (word bs 0x0C)
    rw [raise_setSurvey _ (by rfl)] at h
    exact h
  · refine ⟨_, completes_attachSectionRead hf hp bs slots, ?_⟩
    exact takeSection_anchor_attach _ bs

end Sections

end Sys2Proof.Machine


/-! # The end of an attach or a re-attach (R4, R8). -/

namespace Sys2Proof.Machine

open Sys2Proof

/-! ## What the owners of requests leave -/

/-- What no owner of a request changes: the survey unit, the mirror, the monitor, the time, the section copies and whether
the delay line's block has been made. -/
def State.steady (s : State) : Survey × Mirror × Monitor × Time × Sections × Bool :=
  (s.survey, s.mirror, s.monitor, s.time, s.sections, s.delay.made)

section Owners

variable (s : State)

theorem segmentSkip_steady (w : Word) : (segmentSkip w s).2.steady = s.steady := by
  unfold segmentSkip
  split_ifs
  · unfold skipPlaying
    split
    · rfl
    · split
      · dsimp only
        rw [endDeck_only]
        rfl
      · dsimp only
        rw [cutDeck_only]
        rfl
  · unfold skipCued
    split
    · rfl
    · dsimp only
      rw [endDeck_only]
      rfl
  · rfl

theorem toAir_steady (n : LineNo) (c : CallerCause) : (toAir n c s).steady = s.steady := rfl

theorem callerOnAir_steady (w : Word) : (callerOnAir w s).2.steady = s.steady := by
  unfold callerOnAir
  split
  · rfl
  · dsimp only
    split_ifs <;> rfl

theorem callerHold_steady (w : Word) : (callerHold w s).2.steady = s.steady := by
  unfold callerHold
  split
  · rfl
  · dsimp only
    split
    · rfl
    · dsimp only
      rw [holdGroup_only]
      rfl
    all_goals rfl

theorem callerDrop_steady (w : Word) : (callerDrop w s).2.steady = s.steady := by
  unfold callerDrop
  split
  · rfl
  · split
    · dsimp only
      rw [toClearing_only]
      rfl
    · rfl

theorem callerTake_steady (c : CallerCause) : (callerTake c s).2.steady = s.steady := by
  unfold callerTake
  split_ifs
  · rfl
  · rfl
  · rfl
  · split <;> rfl

theorem callerQueue_steady (w p : Word) : (callerQueue w p s).2.steady = s.steady := by
  unfold callerQueue
  split
  · rfl
  · split_ifs <;> rfl

theorem logDelay_steady (c : DelayCause) (o : State) : (logDelay c o s).steady = s.steady := by rw [logDelay_only]; rfl

theorem dumped_made (target n : Nat) (d : Delay) : (d.dumped target n).made = d.made := by
  unfold Delay.dumped
  dsimp only
  split_ifs
  · rfl
  · rfl
  · rw [rework_only]

theorem dump_steady (src : DumpSource) : (dump src s).2.steady = s.steady := by
  unfold dump
  split
  · dsimp only
    rw [logDelay_steady]
    exact congrArg (fun b => (s.survey, s.mirror, s.monitor, s.time, s.sections, b)) (dumped_made ..)
  · rfl

theorem refireAll_steady : (refireAll s).steady = s.steady := by
  unfold refireAll
  generalize places8 = l
  induction l generalizing s with
  | nil => rfl
  | cons n l ih =>
    rw [List.foldl_cons, ih]
    unfold refire
    split
    · dsimp only
      rw [dump_steady]
      rfl
    · rfl

theorem noteDelay_steady (c : DelayCause) (o : State) : (noteDelay c o s).steady = s.steady := by
  unfold noteDelay
  dsimp only
  split
  · rw [refireAll_steady, logDelay_steady]
  · rw [logDelay_steady]

theorem delayEngage_steady : (delayEngage s).2.steady = s.steady := by
  unfold delayEngage
  split
  · split
    · rfl
    · exact noteDelay_steady _ _ _
  · exact noteDelay_steady _ _ _
  all_goals rfl

theorem delayExit_steady : (delayExit s).2.steady = s.steady := by
  unfold delayExit
  split_ifs
  · rfl
  · rfl
  · rfl
  · exact noteDelay_steady _ _ _
  · exact noteDelay_steady _ _ _

theorem alertForward_steady (w0 w1 w2 : Word) : (alertForward w0 w1 w2 s).2.steady = s.steady := by
  unfold alertForward
  split
  · rfl
  · split
    · rfl
    · dsimp only
      split_ifs <;> rfl

theorem alertCancel_steady (w0 w1 w2 : Word) : (alertCancel w0 w1 w2 s).2.steady = s.steady := by
  unfold alertCancel
  split
  · rfl
  · split
    · rfl
    · unfold cancelEntry
      dsimp only
      split <;> rfl

theorem clockSelect_steady (w : Word) : (clockSelect w s).2.steady = s.steady := by
  have hstate : ∀ c, (selectState c s).steady = s.steady := fun c => by
    unfold selectState
    split
    · rfl
    · unfold logClock
      split <;> rfl
  have hsource : ∀ x, (selectSource x s).2.steady = s.steady := fun x => by
    unfold selectSource
    split_ifs
    · rfl
    · rfl
    · rfl
    · exact hstate _
  unfold clockSelect
  split_ifs
  · unfold selectInternal
    split
    · rfl
    all_goals exact hstate _
  · exact hsource _
  · exact hsource _
  · rfl

theorem linkSwitch_steady (w : Word) : (linkSwitch w s).2.steady = s.steady := by
  unfold linkSwitch
  dsimp only
  split
  · rfl
  · split_ifs <;> rfl

theorem setTime_steady (low high : Word) : (setTime low high s).2.steady = s.steady := by
  unfold setTime
  split <;> rfl

theorem faultAck_steady (w : Word) : (faultAck w s).2.steady = s.steady := by
  unfold faultAck
  split <;> rfl

theorem ownerOf_steady (r : Request) : (ownerOf r s).2.steady = s.steady := by
  unfold ownerOf
  split
  · exact segmentSkip_steady s _
  · exact callerOnAir_steady s _
  · exact callerHold_steady s _
  · exact callerDrop_steady s _
  · exact callerTake_steady s _
  · exact callerQueue_steady s _ _
  · exact delayEngage_steady s
  · exact delayExit_steady s
  · exact dump_steady s _
  · exact alertForward_steady s _ _ _
  · exact alertCancel_steady s _ _ _
  · exact clockSelect_steady s _
  · exact linkSwitch_steady s _
  · exact setTime_steady s _ _
  · exact faultAck_steady s _
  · rfl

/-- What the taking of requests leaves: as the owners, with the counter, the results and the marks of the survey
unit moved on. -/
def State.steadyTaking (s : State) : Survey × Mirror × Monitor × Time × Sections × Bool :=
  ({ s.survey with counter := 0, results := [], seen := .all 0, marked := .all false }, s.steady.2)

theorem steadyTaking_of_steady {s t : State} (h : t.steady = s.steady) : t.steadyTaking = s.steadyTaking := by
  simp only [State.steadyTaking, h, show t.survey = s.survey from congrArg Prod.fst h]

theorem takeRequest_steady (r : Request) : (takeRequest r s).steadyTaking = s.steadyTaking := by
  have hanswer : (takeRequest r s).steadyTaking = (ownerOf r s).2.steadyTaking := rfl
  rw [hanswer, steadyTaking_of_steady (ownerOf_steady s r)]

theorem takePosted_steady (bs : List Byte) : (takePosted bs s).steadyTaking = s.steadyTaking := by
  unfold takePosted
  generalize posted s bs = l
  induction l generalizing s with
  | nil => rfl
  | cons r l ih => exact (ih (takeRequest r s)).trans (takeRequest_steady s r)

theorem attachSlots_steady (slots : ReadResult) : (attachSlots slots s).steadyTaking = s.steadyTaking := by
  unfold attachSlots
  split
  · unfold slotsTaken
    rw [takePosted_steady]
    rfl
  · dsimp only
    rw [cbRead_only]
    rfl

end Owners

/-! ## Into RUNNING (R4, R8, R17, R99, R123) -/

section Running

variable (s : State)

/-- A load begun silences the rescue's reader and leaves the rest of the monitor. -/
theorem beginLoad_monitor (fill : Addr) :
    (beginLoad fill s).monitor = { s.monitor with live := (beginLoad fill s).monitor.live } := by
  unfold beginLoad
  split
  · rw [emptyStore_only]
  · dsimp only
    rw [abandonLoad_only]

theorem attachLoad_only (re : Bool) : attachLoad re s = { s with
    bus := (attachLoad re s).bus, fetch := (attachLoad re s).fetch, rescue := (attachLoad re s).rescue
    decks := (attachLoad re s).decks, monitor := { s.monitor with live := (attachLoad re s).monitor.live } } := by
  have hload : ∀ fill, beginLoad fill s = { s with
      bus := (beginLoad fill s).bus, fetch := (beginLoad fill s).fetch, rescue := (beginLoad fill s).rescue
      decks := (beginLoad fill s).decks, monitor := { s.monitor with live := (beginLoad fill s).monitor.live } } :=
    fun fill => by
      have honly := beginLoad_only fill s
      have hmon := beginLoad_monitor s fill
      generalize beginLoad fill s = t at honly hmon
      rw [← hmon]
      rw [honly]
  unfold attachLoad
  dsimp only
  split
  · split
    · rfl
    · exact hload _
  · exact hload _

/-- The part as it enters RUNNING, before the load and the POSTED slots. -/
def State.entersRunning (re : Bool) (s : State) : State :=
  let s1 := { s with
    survey := { s.survey.retryResults with state := .running, cause := .none, phase := .idle, failedReads := 0 }
    delay := { s.delay with made := s.delay.made || !re }
    decks := { s.decks with deck := s.decks.deck.map (fun k => { k with writes := freeWrites k.writes }) }
    mirror := { s.mirror with due := true } }
  if re then s1 else monitorStarts s1

theorem enterRunning_steady (re : Bool) (slots : ReadResult) : (enterRunning re slots s).steadyTaking =
    (attachLoad re (noteDemand (s.entersRunning re))).steadyTaking :=
  attachSlots_steady _ slots

/-- The monitor as the part enters RUNNING: an attach starts it (R99). -/
theorem entersRunning_monitor (re : Bool) : (s.entersRunning re).monitor =
    if re then s.monitor else { s.monitor with state := .watching, silence := 0, recovery := 0, judged := none } := by
  cases re <;> rfl

theorem entersRunning_steady (re : Bool) : (s.entersRunning re).steady =
    ({ s.survey.retryResults with state := .running, cause := .none, phase := .idle, failedReads := 0 },
      { s.mirror with due := true }, (s.entersRunning re).monitor, s.time, s.sections, s.delay.made || !re) := by
  cases re <;> rfl

/-- What an attach or a re-attach leaves behind, its last section read. -/
theorem enterRunning_clause (re : Bool) (slots : ReadResult) : let t := enterRunning re slots s
    t.survey.state = .running ∧ t.survey.cause = .none ∧ t.survey.phase = .idle ∧ t.survey.failedReads = 0 ∧
      t.survey.appliedEdition = s.survey.appliedEdition ∧ t.mirror.due = true ∧
      (re = false → t.monitor.state = .watching ∧ t.monitor.silence = 0 ∧ t.monitor.recovery = 0 ∧ t.delay.made = true) ∧
      (re = true → t.monitor = { s.monitor with live := t.monitor.live }) ∧ t.time = s.time ∧ t.sections = s.sections := by
  intro t
  have ht : t.steadyTaking = (attachLoad re (noteDemand (s.entersRunning re))).steadyTaking := enterRunning_steady s re slots
  clear_value t
  rw [attachLoad_only, noteDemand_only] at ht
  generalize (attachLoad re _).monitor.live = live at ht
  have hsteady := entersRunning_steady s re
  have hmon := entersRunning_monitor s re
  generalize s.entersRunning re = u at ht hsteady hmon
  simp only [State.steady, Prod.mk.injEq] at hsteady
  obtain ⟨hsurvey, hmirror, -, htime, hsections, hmade⟩ := hsteady
  simp only [State.steadyTaking, State.steady, Prod.mk.injEq] at ht
  obtain ⟨tsurvey, tmirror, tmonitor, ttime, tsections, tmade⟩ := ht
  rw [hsurvey, retryResults_only] at tsurvey
  simp only [Survey.mk.injEq] at tsurvey
  obtain ⟨h1, h2, -, -, h5, -, -, -, -, h10, -, h12, -⟩ := tsurvey
  refine ⟨h1, h2, h12, h10, h5, by rw [tmirror, hmirror], fun hre => ?_, fun hre => ?_, ttime.trans htime,
    tsections.trans hsections⟩
  · subst hre
    rw [tmonitor, hmon, tmade, hmade]
    exact ⟨rfl, rfl, rfl, by simp⟩
  · subst hre
    rw [tmonitor, hmon]
    rfl

end Running

/-- What the last section's read leaves for the end of the attach. -/
theorem useLogs_only (x : LogSettings) (c : Word) (s : State) : useLogs x c s = { s with
    sections := { s.sections with logs := x }, faults := (useLogs x c s).faults, log := (useLogs x c s).log } := by
  unfold useLogs
  rw [readIndex_only]

theorem takeSection_logs_keeps (edition : Word) (bs : List Byte) (s : State) :
    let u := takeSection true .logs edition bs s
    u.time = s.time ∧ u.monitor = s.monitor ∧ u.survey.appliedEdition = s.survey.appliedEdition ∧
      u.sections.station = s.sections.station ∧ u.sections.policy = s.sections.policy := by
  intro u
  cases h : parseLogs bs with
  | ok x clamps =>
    have hu : u = useLogs x (word bs 0x0C) { s with survey := s.survey.sectionApplied .logs edition } :=
      takeSection_logs h
    rw [hu, useLogs_only]
    exact ⟨rfl, rfl, rfl, rfl, rfl⟩
  | refused r =>
    have hu : u = refuseSection .logs edition r s := by
      simp only [u, takeSection]
      rw [h]
      rfl
    rw [hu, refuseSection_eq, raise_only]
    exact ⟨rfl, rfl, rfl, rfl, rfl⟩

theorem failSection_keeps (sec : Sec) (s : State) :
    let u := failSection sec s
    u.time = s.time ∧ u.monitor = s.monitor ∧ u.survey.appliedEdition = s.survey.appliedEdition ∧
      u.sections.station = s.sections.station ∧ u.sections.policy = s.sections.policy := by
  intro u
  rw [show u = failSection sec s from rfl, failSection_eq, raise_only]
  exact ⟨rfl, rfl, rfl, rfl, rfl⟩

theorem ignored_delayBlock {s : State} (h : s.delay.made = true) : Ignored .delayBlock s := by
  unfold Ignored
  show execDelayBlock s = _
  rw [execDelayBlock, if_neg (by simp [h])]

/-- The last section of an attach brings the part into RUNNING, whatever its read brought. -/
theorem attachLast_clause {s u t : State} {re : Bool} {slots : ReadResult} (ht : t = enterRunning re slots u)
    (hu : u.time = s.time ∧ u.monitor = s.monitor ∧ u.survey.appliedEdition = s.survey.appliedEdition ∧
      u.sections.station = s.sections.station ∧ u.sections.policy = s.sections.policy) :
    t.survey.state = .running ∧ t.survey.cause = .none ∧ t.survey.phase = .idle ∧ t.survey.failedReads = 0 ∧
      t.survey.appliedEdition = s.survey.appliedEdition ∧ t.mirror.due = true ∧
      (re = false → t.monitor.state = .watching ∧ t.monitor.silence = 0 ∧ t.monitor.recovery = 0 ∧
        Ignored .delayBlock t) ∧
      (re = true → t.monitor = { s.monitor with live := t.monitor.live }) ∧
      t.time = s.time ∧ t.sections.station = s.sections.station ∧ t.sections.policy = s.sections.policy := by
  obtain ⟨h1, h2, h3, h4, h5, h6, hfresh, hagain, h7, h8⟩ := enterRunning_clause u re slots
  rw [← ht] at h1 h2 h3 h4 h5 h6 hfresh hagain h7 h8
  obtain ⟨utime, umonitor, uedition, ustation, upolicy⟩ := hu
  refine ⟨h1, h2, h3, h4, h5.trans uedition, h6, fun hre => ?_, fun hre => ?_, h7.trans utime, by rw [h8, ustation],
    by rw [h8, upolicy]⟩
  · obtain ⟨w1, w2, w3, wmade⟩ := hfresh hre
    exact ⟨w1, w2, w3, ignored_delayBlock wmade⟩
  · have hmon := hagain hre
    rwa [umonitor] at hmon

/-- Settles O8. -/
theorem attachReadsHeaderAndSections : Obligations.AttachReadsHeaderAndSections := by
  unfold Obligations.AttachReadsHeaderAndSections
  refine ⟨fun s hf hp => ⟨?_, fun bs hsig => ?_, fun bs hsig hver => ?_, fun bs hsig hver => ?_⟩,
    fun s re read slots hf hp => ?_, fun s re sec next rest slots hf hp => ?_⟩
  · have h := completes_attachHeaderRead hf none
    rw [attachHeaderReadDone_none hp, if_neg Bool.false_ne_true, attachEnds, cbRead_eq, raise_survey] at h
    exact ⟨_, h, rfl, rfl⟩
  · have h := completes_attachHeaderRead hf (some bs)
    rwa [attachHeaderReadDone_signature hp hsig, if_neg Bool.false_ne_true] at h
  · have h := completes_attachHeaderRead hf (some bs)
    rwa [attachHeaderReadDone_version hp hsig hver, if_neg Bool.false_ne_true] at h
  · have h := completes_attachHeaderRead hf (some bs)
    rwa [attachHeaderReadDone_good hp ⟨hsig, hver⟩] at h
  · cases read with
    | none => exact ⟨_, completes_attachSectionFailed hf hp slots, attachLast_clause rfl (failSection_keeps .logs s)⟩
    | some bs =>
      exact ⟨_, completes_attachSectionRead hf hp bs slots, attachLast_clause rfl (takeSection_logs_keeps _ bs s)⟩
  · refine ⟨_, completes_attachSectionFailed hf hp slots, ?_⟩
    rw [failSection_eq]
    exact ⟨rfl, rfl⟩

end Sys2Proof.Machine


/-! # HALT and PROGRAMME_RESET (R4, R5, R9). -/

namespace Sys2Proof.Machine

open Sys2Proof

/-! ## The writes of an abandoned deck (R5, R39) -/

/-- What is left to make of a write, its part half and its state word. -/
theorem made_good (w : RecordWrite) : w.made .good =
    (if w.phase = .first ∨ w.phase = .last then [] else [⟨w.addr + 0x40, w.half.bytes⟩]) ++
      (if w.phase = .last then [] else [⟨w.addr + 8, leBytes 4 w.state.code⟩]) := by
  unfold RecordWrite.made RecordWrite.halfLeft RecordWrite.stateLeft
  cases w.phase <;> simp [RecordWrite.halfWrite, RecordWrite.stateWrite]

section Decks

variable {s : State} {d : DeckId} {w : RecordWrite}

/-- An EMPTY deck with one write owed makes what is left of it. -/
theorem abandonDeck_writes_empty (r : EndReason) (hw : (s.deck d).writes = [w]) (hk : (s.deck d).state = .empty) :
    (abandonDeck d r [] s).bus.resetWrites = s.bus.resetWrites ++ w.made .good := by
  rw [(abandonDeck_eq d r [] s).1 hk, attemptWrites_writes, clearDeck_bus, hw]
  simp

/-- The ABANDONED write takes the place of the held one of its record. -/
theorem abandonDeck_writes_held (r : EndReason) (hw : (s.deck d).writes = [w]) (hk : (s.deck d).state ≠ .empty)
    (haddr : w.addr = (s.deck d).addr) (hheld : w.phase = .held) :
    (abandonDeck d r [] s).bus.resetWrites = s.bus.resetWrites ++
      [⟨(s.deck d).addr + 0x40, ((s.deck d).finalHalf r true).bytes⟩,
        ⟨(s.deck d).addr + 8, leBytes 4 RecState.abandoned.code⟩] := by
  rw [(abandonDeck_eq d r [] s).2 hk, attemptWrites_writes, handLog_bus, clearDeck_bus, hw]
  simp [joinWrite, haddr, RecordWrite.replaceable, hheld, made_good]

/-- The ABANDONED write comes after a write of another record and after one in flight. -/
theorem abandonDeck_writes_after (r : EndReason) (hw : (s.deck d).writes = [w]) (hk : (s.deck d).state ≠ .empty)
    (hkept : w.addr ≠ (s.deck d).addr ∨ w.phase = .first ∨ w.phase = .last) :
    (abandonDeck d r [] s).bus.resetWrites = s.bus.resetWrites ++ (w.made .good ++
      [⟨(s.deck d).addr + 0x40, ((s.deck d).finalHalf r true).bytes⟩,
        ⟨(s.deck d).addr + 8, leBytes 4 RecState.abandoned.code⟩]) := by
  have hjoin : joinWrite ⟨(s.deck d).addr, (s.deck d).finalHalf r true, .abandoned, .waiting, false⟩ [w] =
      [w, ⟨(s.deck d).addr, (s.deck d).finalHalf r true, .abandoned, .waiting, false⟩] := by
    rcases hkept with h | h | h <;> simp [joinWrite, RecordWrite.replaceable, h]
  rw [(abandonDeck_eq d r [] s).2 hk, attemptWrites_writes, handLog_bus, clearDeck_bus, hw, hjoin]
  simp [made_good]

theorem finalHalf_says (k : Deck) (r : EndReason) :
    (k.finalHalf r true).flags.truncated = true ∧ (k.finalHalf r true).reason = r := by
  simp [Deck.finalHalf]

/-- A deck that is abandoned leaves a record of the other deck's as it was. -/
theorem abandonDeck_deck_ne {e : DeckId} (r : EndReason) (o : DeckWrites) (h : e ≠ d) :
    (abandonDeck d r o s).deck e = s.deck e := by
  have he : e = d.other := (Side.eq_or_other d e).resolve_left h
  rw [he]
  exact abandonDeck_deck_other d r o s

end Decks

/-! ## Both decks abandoned -/

/-- HALT and a RUNNING PROGRAMME_RESET abandon deck A, then deck B. -/
def abandonBoth (r : EndReason) (a b : DeckWrites) (s : State) : State := abandonDeck .b r b (abandonDeck .a r a s)

section Both

variable (r : EndReason) (a b : DeckWrites) (s : State)

theorem abandonBoth_empties (d : DeckId) :
    ((abandonBoth r a b s).deck d).state = .empty ∧ ((abandonBoth r a b s).deck d).writes = [] := by
  cases d
  · have h := abandonDeck_deck_ne (d := .b) (s := abandonDeck .a r a s) r b (show (.a : DeckId) ≠ .b by decide)
    rw [abandonBoth, h]
    exact abandonDeck_deck_self .a r a s
  · exact abandonDeck_deck_self .b r b _

theorem abandonBoth_only : abandonBoth r a b s = { s with
    bus := (abandonBoth r a b s).bus, decks := (abandonBoth r a b s).decks, fetch := (abandonBoth r a b s).fetch
    mixer := (abandonBoth r a b s).mixer, faults := (abandonBoth r a b s).faults, log := (abandonBoth r a b s).log } := by
  have h1 := abandonDeck_only .a r a s
  have h2 := abandonDeck_only .b r b (abandonDeck .a r a s)
  unfold abandonBoth
  generalize abandonDeck .a r a s = u at h1 h2
  rw [h2, h1]

/-- The ABANDONED state word of a deck that held a record is among the writes, its outcomes being good (R5). -/
theorem abandonBoth_abandons (d : DeckId) (hk : (s.deck d).state ≠ .empty)
    (ho : ∀ o ∈ (if d = .a then a else b), o = .good) :
    ⟨(s.deck d).addr + 8, leBytes 4 RecState.abandoned.code⟩ ∈ (abandonBoth r a b s).bus.resetWrites := by
  obtain ⟨la, ha, hamem, -⟩ := abandonDeck_writes .a r a s
  obtain ⟨lb, hb, hbmem, -⟩ := abandonDeck_writes .b r b (abandonDeck .a r a s)
  rw [abandonDeck_deck_ne r a (show (.b : DeckId) ≠ .a by decide)] at hbmem
  rw [abandonBoth, hb, ha, List.mem_append, List.mem_append]
  cases d
  · exact .inl (.inr (hamem hk ho))
  · exact .inr (hbmem hk ho)

/-- A deck that is EMPTY and owes nothing is abandoned without a write. -/
theorem abandonDeck_idle {d : DeckId} (hk : (s.deck d).state = .empty) (hw : (s.deck d).writes = []) (o : DeckWrites) :
    (abandonDeck d r o s).bus = s.bus ∧ (abandonDeck d r o s).faults = s.faults ∧
      (abandonDeck d r o s).time = s.time ∧ (abandonDeck d r o s).sections = s.sections := by
  have hclear : abandonDeck d r o s = clearDeck false d [] s := by
    rw [(abandonDeck_eq d r o s).1 hk, hw]
    cases o <;> rfl
  rw [hclear, clearDeck_only]
  exact ⟨rfl, rfl, rfl, rfl⟩

/-- With the other deck EMPTY and owing nothing, what both decks' abandoning does on the bus is that of one deck. -/
theorem abandonBoth_sole (d : DeckId) (hk : (s.deck d.other).state = .empty) (hw : (s.deck d.other).writes = []) :
    ∃ v : State, v.bus = s.bus ∧ v.faults = s.faults ∧ v.time = s.time ∧ v.sections = s.sections ∧ v.deck d = s.deck d ∧
      (abandonBoth r a b s).bus = (abandonDeck d r (if d = .a then a else b) v).bus ∧
      (abandonBoth r a b s).faults = (abandonDeck d r (if d = .a then a else b) v).faults := by
  cases d
  · have hdeck := abandonDeck_deck_ne (s := s) r a (show (.b : DeckId) ≠ .a by decide)
    obtain ⟨hbus, hfaults, -, -⟩ := abandonDeck_idle r (abandonDeck .a r a s) (d := .b) (by rw [hdeck]; exact hk)
      (by rw [hdeck]; exact hw) b
    exact ⟨s, rfl, rfl, rfl, rfl, rfl, hbus, hfaults⟩
  · obtain ⟨hbus, hfaults, htime, hsec⟩ := abandonDeck_idle r s (d := .a) hk hw a
    exact ⟨abandonDeck .a r a s, hbus, hfaults, htime, hsec,
      abandonDeck_deck_ne r a (show (.b : DeckId) ≠ .a by decide), rfl, rfl⟩

/-- The writes of HALT with one write owed by one deck alone (R5, R39). -/
theorem abandonBoth_writes {d : DeckId} {w : RecordWrite} (hfresh : s.bus.resetWrites = [])
    (hw : (s.deck d).writes = [w]) (hok : (s.deck d.other).state = .empty) (how : (s.deck d.other).writes = []) :
    let k := s.deck d
    let outcomes := if d = .a then a else b
    let writes := (abandonBoth r a b s).bus.resetWrites
    (k.state = .empty → outcomes = [] → writes = w.made .good) ∧
      (k.state ≠ .empty → ∃ p : PartHalf, p.flags.truncated = true ∧ p.reason = r ∧
        let own : List HostWrite := [⟨k.addr + 0x40, p.bytes⟩, ⟨k.addr + 8, leBytes 4 RecState.abandoned.code⟩]
        (outcomes = [] → (w.addr = k.addr → w.phase = .held → writes = own) ∧
          (w.addr ≠ k.addr ∨ w.phase = .first ∨ w.phase = .last → writes = w.made .good ++ own)) ∧
        (outcomes = [.halfFailed, .good] → w.addr ≠ k.addr → w.phase = .waiting ∨ w.phase = .held →
          writes = own ∧
          (abandonBoth r a b s).faults = (raise ⟨.writeError, deckUnit d, 0, 0, 0, zeros16⟩ s).faults)) := by
  obtain ⟨v, hbus, hfaults, htime, hsec, hdeck, hbothbus, hbothfaults⟩ := abandonBoth_sole r a b s d hok how
  intro k outcomes writes
  have hk : v.deck d = k := hdeck
  have hvw : (v.deck d).writes = [w] := by rw [hdeck, hw]
  have hnone : v.bus.resetWrites = [] := by rw [hbus, hfresh]
  have hwrites : writes = (abandonDeck d r outcomes v).bus.resetWrites := by rw [← hbothbus]
  refine ⟨fun hempty ho => ?_, fun hheld => ⟨k.finalHalf r true, (finalHalf_says k r).1, (finalHalf_says k r).2, ?_⟩⟩
  · rw [hwrites, ho, abandonDeck_writes_empty r hvw (by rw [hk]; exact hempty), hnone, List.nil_append]
  · have hvk : (v.deck d).state ≠ .empty := by rw [hk]; exact hheld
    refine ⟨fun ho => ⟨fun haddr hphase => ?_, fun hkept => ?_⟩, fun ho haddr hphase => ?_⟩
    · rw [hwrites, ho, abandonDeck_writes_held r hvw hvk (by rw [hk]; exact haddr) hphase, hnone, hk, List.nil_append]
    · rw [hwrites, ho, abandonDeck_writes_after r hvw hvk (by rw [hk]; exact hkept), hnone, hk, List.nil_append]
    · obtain ⟨l, hl, -, -, -, hfail⟩ := abandonDeck_writes d r outcomes v
      obtain ⟨-, hraised⟩ := hfail w hvk hvw (by rw [hk]; exact haddr) hphase ho
      refine ⟨?_, ?_⟩
      · rw [hwrites, ho, (abandonDeck_eq d r _ v).2 hvk, attemptWrites_writes, handLog_bus, clearDeck_bus, hvw, hnone, hk]
        simp [joinWrite, haddr, RecordWrite.made]
        rfl
      · rw [hbothfaults, show (if d = .a then a else b) = outcomes from rfl, hraised, raise_faults, raise_faults, hfaults,
          hsec, htime]

end Both

/-! ## The rest of HALT (R5) -/

/-- What HALT does after the decks. -/
def haltTail (s : State) : State := storeHalt (stopWalker (monitorHalts (delayHalt (holdAll .halt (stopRunOut s)))))

theorem haltProgramme_eq (a b : DeckWrites) (s : State) : haltProgramme a b s = haltTail (abandonBoth .halt a b s) := rfl

section Tail

variable (s : State)

/-- Every line on air is held at the head of the queue (R87). -/
theorem holdAll_queue (c : CallerCause) : (holdAll c s).callers.queue = s.callers.onAir ++ s.callers.queue := by
  rw [holdAll_callers]
  rfl

theorem holdAll_only (c : CallerCause) : holdAll c s = { s with
    callers := (holdAll c s).callers, mixer := (holdAll c s).mixer, log := (holdAll c s).log } := holdGroup_only ..

/-- What HALT does after the decks leaves the rest of the state. -/
theorem haltTail_leaves : let t := haltTail s
    t.survey = s.survey ∧ t.delay = { s.delay with pauseFlag := false, pauseNow := false } ∧ t.sections = s.sections ∧
      t.time = s.time ∧ t.alerts = s.alerts ∧ t.airing = s.airing ∧ t.link = s.link ∧ t.clock = s.clock ∧
      t.gpi = s.gpi ∧ t.faults = s.faults := by
  intro t
  have ht : t = haltTail s := rfl
  clear_value t
  unfold haltTail at ht
  have h1 := stopRunOut_only s
  generalize stopRunOut s = u1 at ht h1
  have h2 := holdAll_only u1 .halt
  generalize holdAll .halt u1 = u2 at ht h2
  have h3 := stopWalker_only (monitorHalts (delayHalt u2))
  generalize stopWalker (monitorHalts (delayHalt u2)) = u3 at ht h3
  have h4 := storeHalt_only u3
  rw [← ht, h3, h2, h1] at h4
  rw [h4]
  exact ⟨rfl, rfl, rfl, rfl, rfl, rfl, rfl, rfl, rfl, rfl⟩

/-- What HALT does after the decks, unit by unit. -/
theorem haltTail_says : let t := haltTail s
    (∀ d, t.deck d = s.deck d) ∧ t.callers.onAir = [] ∧ t.callers.queue = s.callers.onAir ++ s.callers.queue ∧
      t.monitor.state = .inactive ∧ t.monitor.rescue = false ∧ t.walker.walking = false ∧ t.walker.ptr = s.walker.ptr ∧
      t.bus.resetWrites = s.bus.resetWrites := by
  intro t
  have hrunout := stopRunOut_only s
  have hdecks := stopRunOut_deck s
  have hhold := holdAll_only (stopRunOut s) .halt
  have honair := holdAll_onAir .halt (stopRunOut s)
  have hqueue := holdAll_queue (stopRunOut s) .halt
  have ht : t = haltTail s := rfl
  clear_value t
  unfold haltTail at ht
  generalize stopRunOut s = u1 at *
  generalize holdAll .halt u1 = u2 at *
  obtain ⟨hwalk, hptr, hwrites⟩ := stopWalker_stops (monitorHalts (delayHalt u2))
  have hstop := stopWalker_only (monitorHalts (delayHalt u2))
  generalize stopWalker (monitorHalts (delayHalt u2)) = u3 at *
  obtain ⟨hmon, hrescue⟩ := storeHalt_monitor u3
  have hstore := storeHalt_only u3
  have hbus := storeHalt_resetWrites u3
  have hdeck := storeHalt_deck u3
  rw [← ht] at hmon hrescue hstore hbus hdeck
  have hu3 : u3.decks = u1.decks := by rw [hstop, hhold]; rfl
  have hcallers : t.callers = u2.callers := by rw [hstore, hstop]; rfl
  have hwalker : t.walker = u3.walker := by rw [hstore]
  have hbus2 : u2.bus = s.bus := by rw [hhold, hrunout]
  have hwalker2 : u2.walker = s.walker := by rw [hhold, hrunout]
  refine ⟨fun d => ?_, ?_, ?_, ?_, ?_, ?_, ?_, ?_⟩
  · rw [hdeck d, ← hdecks d, State.deck, hu3, State.deck]
  · rw [hcallers, honair]
  · rw [hcallers, hqueue, hrunout]
  · rw [hmon, hstop]; rfl
  · rw [hrescue, hstop]; rfl
  · rw [hwalker, hwalk]
  · rw [hwalker, hptr, ← hwalker2]; rfl
  · rw [hbus, hwrites, ← hbus2]; rfl

end Tail

/-! ## HALT (R4, R5) -/

theorem onProgramme_iff (s : State) :
    s.onProgramme = true ↔ s.survey.state = .running ∨ s.survey.state = .detached := by
  unfold State.onProgramme
  cases s.survey.state <;> simp

theorem completes_halt {s : State} (h : s.survey.state.parked = false) (a b : DeckWrites) :
    Completes (.halt a b) s (halt a b s) := by
  unfold Completes
  show execHalt a b s = _
  rw [execHalt, if_neg (by simp [h])]

theorem giveUpSurvey_resetWrites (s : State) : (giveUpSurvey s).bus.resetWrites = s.bus.resetWrites :=
  (giveUpSurvey_eq s).2

theorem giveUpSurvey_only (s : State) : giveUpSurvey s = { s with
    bus := (giveUpSurvey s).bus, survey := { s.survey with phase := (giveUpSurvey s).survey.phase } } :=
  (giveUpSurvey_eq s).1

/-- In HALTED no programme is the source of the air (R95). -/
theorem topSource_enterHalted (s : State) : (enterHalted s).topSource ≠ .programme := by
  have hoff : (enterHalted s).onProgramme = false := rfl
  unfold State.topSource
  split_ifs <;> simp_all

/-- HALT of a programme: what it leaves, and the writes of its decks (R5). -/
theorem halt_programme {s : State} (h : s.survey.state = .running ∨ s.survey.state = .detached) (a b : DeckWrites) :
    let t := halt a b s
    let v := abandonBoth .halt a b (freshWrites s)
    t.survey.state = .halted ∧ t.survey.cause = .hostHalt ∧ t.survey.results = s.survey.results ∧
      (∀ d, (t.deck d).state = .empty ∧ (t.deck d).writes = []) ∧
      t.callers.onAir = [] ∧ t.callers.queue = s.callers.onAir ++ s.callers.queue ∧
      t.delay = { s.delay with pauseFlag := false, pauseNow := false } ∧
      t.monitor.state = .inactive ∧ t.monitor.rescue = false ∧ t.walker.walking = false ∧ t.walker.ptr = s.walker.ptr ∧
      t.topSource ≠ .programme ∧ t.sections = s.sections ∧
      t.time = s.time ∧ t.alerts = s.alerts ∧ t.airing = s.airing ∧ t.link = s.link ∧ t.clock = s.clock ∧ t.gpi = s.gpi ∧
      t.bus.resetWrites = v.bus.resetWrites ∧ t.faults = v.faults := by
  intro t v
  have hv : v = { freshWrites s with
      bus := v.bus, decks := v.decks, fetch := v.fetch, mixer := v.mixer, faults := v.faults, log := v.log } :=
    abandonBoth_only ..
  have hempty : ∀ d, (v.deck d).state = .empty ∧ (v.deck d).writes = [] := fun d =>
    abandonBoth_empties .halt a b _ d
  have ht : t = enterHalted (giveUpSurvey (haltTail v)) := by
    show halt a b s = _
    rw [halt, if_pos ((onProgramme_iff s).2 h)]
    rfl
  have hgive := giveUpSurvey_only (haltTail v)
  have hwrites := giveUpSurvey_resetWrites (haltTail v)
  obtain ⟨hdeck, honair, hqueue, hmon, hrescue, hwalk, hptr, hbus⟩ := haltTail_says v
  obtain ⟨hsurvey, hdelay, hsec, htime, halerts, hairing, hlink, hclock, hgpi, hfaults⟩ := haltTail_leaves v
  have htop : t.topSource ≠ .programme := by rw [ht]; exact topSource_enterHalted _
  clear_value t v
  generalize haltTail v = u at *
  generalize giveUpSurvey u = g at *
  subst ht
  have hresults : g.survey.results = s.survey.results := by
    rw [hgive]
    show u.survey.results = _
    rw [hsurvey, hv]
    rfl
  have hgdeck : ∀ d, g.deck d = v.deck d := fun d => by rw [hgive]; exact hdeck d
  have hcallers : v.callers = s.callers := by rw [hv]; rfl
  have hgbus : g.bus.resetWrites = v.bus.resetWrites := hwrites.trans hbus
  have hrest : (g.delay, g.sections, g.time, g.alerts, g.airing, g.link, g.clock, g.gpi, g.faults) =
      ({ s.delay with pauseFlag := false, pauseNow := false }, s.sections, s.time, s.alerts, s.airing, s.link, s.clock,
        s.gpi, v.faults) := by
    rw [hgive]
    dsimp only
    rw [hdelay, hsec, htime, halerts, hairing, hlink, hclock, hgpi, hfaults, hv]
    rfl
  simp only [Prod.mk.injEq] at hrest
  obtain ⟨r1, r2, r3, r4, r5, r6, r7, r8, r9⟩ := hrest
  have hunits : (g.callers, g.monitor, g.walker) = (u.callers, u.monitor, u.walker) := by rw [hgive]
  simp only [Prod.mk.injEq] at hunits
  obtain ⟨m1, m2, m3⟩ := hunits
  have hdecks : ∀ d, ((enterHalted g).deck d).state = .empty ∧ ((enterHalted g).deck d).writes = [] := fun d => by
    show (g.deck d).state = _ ∧ (g.deck d).writes = _
    rw [hgdeck d]
    exact hempty d
  refine ⟨rfl, rfl, hresults, hdecks, ?_, ?_, r1, ?_, ?_, ?_, ?_, htop, r2, r3, r4, r5, r6, r7, r8, hgbus, r9⟩
  · exact (congrArg Callers.onAir m1).trans honair
  · exact (congrArg Callers.queue m1).trans (by rw [hqueue, hcallers])
  · exact (congrArg Monitor.state m2).trans hmon
  · exact (congrArg Monitor.rescue m2).trans hrescue
  · exact (congrArg Walker.walking m3).trans hwalk
  · exact (congrArg Walker.ptr m3).trans (by rw [hptr, hv]; rfl)

/-- Settles O6: the decks by `abandonBoth_writes`, the rest by what HALT leaves. -/
theorem haltEntersHalted : Obligations.HaltEntersHalted := by
  unfold Obligations.HaltEntersHalted
  refine ⟨fun s a b h => ?_, fun s a b h => ?_⟩
  · have hparked : s.survey.state.parked = false := by rcases h with h | h <;> rw [h] <;> rfl
    obtain ⟨h1, h2, h3, h4, h5, h6, h7, h8, h9, h10, h11, h12, h13, h14, h15, h16, h17, h18, h19, hbus, hfaults⟩ :=
      halt_programme h a b
    refine ⟨_, completes_halt hparked a b, h1, h2, h3, h4, h5, h6, h7, h8, h9, h10, h11, h12, h13, h14, h15, h16, h17,
      h18, h19, fun d => ⟨fun hk ho => ?_, fun w hw hok how => ?_⟩⟩
    · rw [hbus]
      exact abandonBoth_abandons .halt a b (freshWrites s) d hk ho
    · have hwrites := abandonBoth_writes .halt a b (freshWrites s) rfl hw hok how
      rw [raise_faults] at hwrites
      rw [hbus, hfaults, raise_faults, ← made_good]
      exact hwrites
  · have hparked : s.survey.state.parked = false := by rw [h]; rfl
    have hoff : ¬s.onProgramme = true := by
      rw [onProgramme_iff, h]
      simp
    refine ⟨_, completes_halt hparked a b, ?_⟩
    rw [halt, if_neg hoff, enterHalted, giveUpSurvey_only]
    exact ⟨rfl, rfl, rfl, rfl, rfl, rfl, rfl, rfl, rfl, rfl, rfl, rfl, rfl⟩

/-! ## The decks under PROGRAMME_RESET (R9) -/

section Reset

variable (s : State)

theorem clearDeck_pause (b : Bool) (d : DeckId) (ws : List RecordWrite) :
    (clearDeck b d ws s).decks.pause = s.decks.pause := by
  unfold clearDeck
  dsimp only
  rw [refreshStudio_decks]
  rfl

theorem attemptWrites_head (d : DeckId) (os : DeckWrites) (ws : List RecordWrite) :
    (attemptWrites d os ws s).log.head = s.log.head := by
  induction ws generalizing os s with
  | nil => cases os <;> rfl
  | cons w ws ih =>
    unfold attemptWrites
    rw [ih]
    unfold attemptWrite
    dsimp only
    split
    · rfl
    · exact writeError_head ..

/-- An abandoned deck leaves the pause in force and the log head. -/
theorem abandonDeck_leaves (d : DeckId) (r : EndReason) (o : DeckWrites) :
    (abandonDeck d r o s).decks.pause = s.decks.pause ∧ (abandonDeck d r o s).log.head = s.log.head := by
  have hclear := clearDeck_only false d [] s
  have hpause := clearDeck_pause s false d []
  unfold abandonDeck
  dsimp only
  generalize clearDeck false d [] s = u at *
  have hhead : u.log.head = s.log.head := by rw [hclear]
  split
  · exact ⟨by rw [attemptWrites_only]; exact hpause, by rw [attemptWrites_head]; exact hhead⟩
  · exact ⟨by rw [attemptWrites_only]; exact hpause, by rw [attemptWrites_head, handLog_head]; exact hhead⟩

theorem clearDeck_deck_self (b : Bool) (d : DeckId) (ws : List RecordWrite) :
    (clearDeck b d ws s).deck d = (s.deck d).emptied ws := by
  unfold clearDeck
  dsimp only
  rw [refreshStudio_deck]
  simp [State.deck, State.setDeck, State.mapDeckRamp]

theorem clearDeck_deck_other (b : Bool) (d : DeckId) (ws : List RecordWrite) :
    (clearDeck b d ws s).deck d.other = s.deck d.other := by
  unfold clearDeck
  dsimp only
  rw [refreshStudio_deck]
  simp [State.deck, State.setDeck, State.mapDeckRamp]

/-- A deck dropped outside RUNNING: EMPTY, with nothing written and nothing logged. -/
theorem dropDeck_says (d : DeckId) : let t := dropDeck d s
    t.deck d = (s.deck d).emptied [] ∧ t.deck d.other = s.deck d.other ∧ t.decks.pause = s.decks.pause ∧
      t.bus.resetWrites = s.bus.resetWrites := by
  intro t
  have hgive := giveUp_only (.recordWrite d) (inFlightHead (s.deck d).writes) s
  have hwrites : (giveUp (.recordWrite d) (inFlightHead (s.deck d).writes) s).bus.resetWrites = s.bus.resetWrites := by
    unfold giveUp
    split <;> rfl
  have ht : t = clearDeck false d [] (giveUp (.recordWrite d) (inFlightHead (s.deck d).writes) s) := rfl
  clear_value t
  generalize giveUp (.recordWrite d) (inFlightHead (s.deck d).writes) s = u at *
  have hdeck : ∀ e, u.deck e = s.deck e := fun e => by rw [hgive]; rfl
  rw [ht, clearDeck_deck_self, clearDeck_deck_other, clearDeck_pause, clearDeck_bus, hdeck, hdeck, hwrites]
  refine ⟨rfl, rfl, ?_, rfl⟩
  rw [hgive]

/-- Both decks under PROGRAMME_RESET. -/
theorem resetDecks_says (a b : DeckWrites) : let t := resetDecks a b s
    (∀ d, (t.deck d).state = .empty ∧ (t.deck d).writes = []) ∧ t.decks.pause = s.decks.pause ∧
      t.log.head = s.log.head ∧ (s.survey.state ≠ .running → t.bus.resetWrites = s.bus.resetWrites) ∧
      t = { s with
        bus := t.bus, decks := t.decks, fetch := t.fetch, mixer := t.mixer, faults := t.faults, log := t.log } := by
  have hstop : ∀ u : State, (∀ d, (stopRunOut u).deck d = u.deck d) ∧ (stopRunOut u).decks.pause = u.decks.pause ∧
      (stopRunOut u).log = u.log ∧ (stopRunOut u).bus = u.bus := fun u => by
    refine ⟨stopRunOut_deck u, ?_, ?_, ?_⟩ <;> unfold stopRunOut <;> split <;> rfl
  intro t
  by_cases hrun : s.survey.state = .running
  · have ht : t = stopRunOut (abandonBoth .programmeReset a b s) := by
      show resetDecks a b s = _
      rw [resetDecks, if_pos ((running_iff s).2 hrun)]
      rfl
    have honly := abandonBoth_only .programmeReset a b s
    have hempty := abandonBoth_empties .programmeReset a b s
    have hleaves : (abandonBoth .programmeReset a b s).decks.pause = s.decks.pause ∧
        (abandonBoth .programmeReset a b s).log.head = s.log.head := by
      obtain ⟨p1, l1⟩ := abandonDeck_leaves s .a .programmeReset a
      obtain ⟨p2, l2⟩ := abandonDeck_leaves (abandonDeck .a .programmeReset a s) .b .programmeReset b
      exact ⟨p2.trans p1, l2.trans l1⟩
    clear_value t
    generalize abandonBoth .programmeReset a b s = u at *
    obtain ⟨hdeck, hpause, hlog, -⟩ := hstop u
    have hrunout := stopRunOut_only u
    rw [← ht] at hdeck hpause hlog hrunout
    refine ⟨fun d => by rw [hdeck]; exact hempty d, hpause.trans hleaves.1, by rw [hlog]; exact hleaves.2,
      fun h => absurd hrun h, ?_⟩
    rw [hrunout, honly]
  · have ht : t = stopRunOut (dropDeck .b (dropDeck .a s)) := by
      show resetDecks a b s = _
      rw [resetDecks, if_neg (mt (running_iff s).1 hrun)]
    obtain ⟨a1, a2, a3, a4⟩ := dropDeck_says s .a
    have aonly := dropDeck_only .a s
    clear_value t
    generalize dropDeck .a s = u at *
    obtain ⟨b1, b2, b3, b4⟩ := dropDeck_says u .b
    have bonly := dropDeck_only .b u
    generalize dropDeck .b u = v at *
    obtain ⟨hdeck, hpause, hlog, hbus⟩ := hstop v
    have hrunout := stopRunOut_only v
    rw [← ht] at hdeck hpause hlog hbus hrunout
    refine ⟨fun d => ?_, by rw [hpause, b3, a3], ?_, fun _ => by rw [hbus, b4, a4], ?_⟩
    · rw [hdeck]
      cases d
      · have hva : v.deck .a = (s.deck .a).emptied [] := b2.trans a1
        rw [hva]
        exact ⟨rfl, rfl⟩
      · rw [b1]
        exact ⟨rfl, rfl⟩
    · rw [hlog, bonly, aonly]
    · rw [hrunout, bonly, aonly]

/-! ## The delay line under PROGRAMME_RESET (R124) -/

/-- A dump of an empty memory leaves it empty. -/
theorem dumped_mem_nil {d : Delay} (h : d.mem = []) (target n : Nat) : (d.dumped target n).mem = [] := by
  have hkept : soften (d.mem.take (d.depth - n)) = [] := by
    rw [← List.length_eq_zero_iff, soften_length, h]
    simp
  unfold Delay.dumped
  dsimp only
  rw [hkept]
  split_ifs
  · rfl
  · rfl
  · rw [rework_only]

theorem dump_mem_nil {s : State} (h : s.delay.mem = []) (src : DumpSource) : (dump src s).2.delay.mem = [] := by
  unfold dump
  split
  · dsimp only
    rw [logDelay_only]
    exact dumped_mem_nil h _ _
  · exact h

theorem refire_mem_nil {s : State} (h : s.delay.mem = []) (n : GpiNo) : (refire n s).delay.mem = [] := by
  unfold refire
  split
  · exact dump_mem_nil (by exact h) _
  · exact h

theorem refireAll_mem_nil {s : State} (h : s.delay.mem = []) : (refireAll s).delay.mem = [] := by
  unfold refireAll
  generalize places8 = l
  induction l generalizing s with
  | nil => exact h
  | cons n l ih => exact ih (refire_mem_nil h n)

theorem noteDelay_mem_nil {s : State} (h : s.delay.mem = []) (c : DelayCause) (o : State) :
    (noteDelay c o s).delay.mem = [] := by
  have hlog : (logDelay c o s).delay.mem = [] := by rw [logDelay_only]; exact h
  unfold noteDelay
  dsimp only
  split
  · exact refireAll_mem_nil hlog
  · exact hlog

/-- PROGRAMME_RESET's delay line: its memory is empty, and the log head stays. -/
theorem delayReset_says : let t := delayReset s
    t.delay.mem = [] ∧ t.log.head = s.log.head ∧ t = { s with delay := t.delay, log := t.log } := by
  refine ⟨noteDelay_mem_nil rfl .reset s, noteDelay_head .reset s _, ?_⟩
  unfold delayReset
  rw [noteDelay_only]

theorem holdAll_head (c : CallerCause) : (holdAll c s).log.head = s.log.head := by
  unfold holdAll holdGroup
  dsimp only
  rw [handLogs_head]

/-- PROGRAMME_RESET past the decks and the cue pointer. -/
def resetTail (s : State) : State := noteDemand (monitorReset (holdAll .reset (delayReset s)))

theorem programmeReset_eq (a b : DeckWrites) : programmeReset a b s =
    handLog (attachEntry true (resetTail (setHead s.sections.anchor.head (resetDecks a b (freshWrites s)))))
      (resetTail (setHead s.sections.anchor.head (resetDecks a b (freshWrites s)))) := rfl

theorem resetTail_says : let t := resetTail s
    t.delay.mem = [] ∧ t.log.head = s.log.head ∧ t.callers.onAir = [] ∧
      t.callers.queue = s.callers.onAir ++ s.callers.queue ∧
      t.monitor.silence = 0 ∧ t.monitor.recovery = 0 ∧ t.monitor.rescue = false ∧ t.monitor.state ≠ .dead ∧
      t.air.fading = false ∧ t.walker.ptr = s.walker.ptr ∧ t.walker.walking = s.walker.walking ∧
      t = { s with
        delay := t.delay, log := t.log, callers := t.callers, mixer := t.mixer, monitor := t.monitor, air := t.air
        walker := t.walker } := by
  intro t
  obtain ⟨hmem, hhead, hdelay⟩ := delayReset_says s
  have ht : t = noteDemand (monitorReset (holdAll .reset (delayReset s))) := rfl
  clear_value t
  generalize delayReset s = u at *
  have honly := holdAll_only u .reset
  have honair := holdAll_onAir .reset u
  have hqueue := holdAll_queue u .reset
  have hhold := holdAll_head u .reset
  generalize holdAll .reset u = v at *
  rw [noteDemand_lapsed] at ht
  have hcallers : u.callers = s.callers := by rw [hdelay]
  have hwalker : v.walker = s.walker := by rw [honly, hdelay]
  have hmon : (monitorReset v).monitor.state ≠ .dead := by
    show (if v.monitor.state = .dead then MonitorState.watching else v.monitor.state) ≠ .dead
    split
    · simp
    · assumption
  have hv : v = { s with delay := v.delay, log := v.log, callers := v.callers, mixer := v.mixer } := by
    rw [honly, hdelay]
  have hvmem : v.delay.mem = [] := by rw [honly]; exact hmem
  subst ht
  refine ⟨hvmem, hhold.trans hhead, honair, by rw [← hcallers]; exact hqueue, rfl, rfl, rfl, hmon, rfl,
    show v.walker.ptr = s.walker.ptr by rw [hwalker], show v.walker.walking = s.walker.walking by rw [hwalker], ?_⟩
  rw [hv]
  rfl

theorem setHead_resetWrites (head : Addr) : (setHead head s).bus.resetWrites = s.bus.resetWrites := by
  show (stopWalk s).bus.resetWrites = _
  unfold stopWalk
  split
  · unfold endWalk
    rw [noteDemand_bus]
    show (giveUp .record true s).bus.resetWrites = _
    unfold giveUp
    rfl
  · rfl

end Reset

/-- Settles O7: the decks, the cue pointer, the delay line, the lines and the monitor in turn. -/
theorem programmeResetClearsTheProgramme : Obligations.ProgrammeResetClearsTheProgramme := by
  unfold Obligations.ProgrammeResetClearsTheProgramme
  intro s a b h
  have hresets : s.survey.state.resets = true := by rcases h with h | h | h <;> rw [h] <;> rfl
  obtain ⟨dempty, dpause, dhead, dwrites, donly⟩ := resetDecks_says (freshWrites s) a b
  have heq := programmeReset_eq s a b
  generalize resetDecks a b (freshWrites s) = u at *
  obtain ⟨wptr, wwalk, -, -, -⟩ := setHead_walker (s := u) s.sections.anchor.head
  have wonly := setHead_only s.sections.anchor.head u
  have wwrites := setHead_resetWrites u s.sections.anchor.head
  generalize setHead s.sections.anchor.head u = v at *
  obtain ⟨tmem, thead, tonair, tqueue, tsilence, trecovery, trescue, tdead, tfading, tptr, twalk, tonly⟩ := resetTail_says v
  generalize resetTail v = t at *
  have hv : v = { s with
      bus := v.bus, decks := u.decks, fetch := u.fetch, mixer := u.mixer, faults := u.faults, log := u.log
      walker := v.walker } := by
    rw [wonly, donly]
    rfl
  have hcallers : v.callers = s.callers := by rw [hv]
  have hlog : v.log = u.log := by rw [hv]
  have hrest : (t.survey, t.sections, t.time, t.alerts, t.airing, t.link, t.clock, t.gpi, t.decks, t.bus) =
      (s.survey, s.sections, s.time, s.alerts, s.airing, s.link, s.clock, s.gpi, u.decks, v.bus) := by
    rw [tonly, hv]
  simp only [Prod.mk.injEq] at hrest
  obtain ⟨r1, r2, r3, r4, r5, r6, r7, r8, rdecks, rbus⟩ := hrest
  have hdecks : ∀ d, (t.deck d).state = .empty ∧ (t.deck d).writes = [] := fun d => by
    rw [State.deck, rdecks]
    exact dempty d
  refine ⟨programmeReset a b s, ?_, ?_⟩
  · unfold Completes
    show execProgrammeReset a b s = _
    rw [execProgrammeReset, if_pos hresets]
  · rw [heq]
    refine ⟨r1, hdecks, tptr.trans wptr, twalk.trans wwalk, tmem, tonair, tqueue.trans (by rw [hcallers]), tsilence, trecovery,
      trescue, tdead, tfading, r2, (congrArg Decks.pause rdecks).trans dpause, r3, r4, r5, r6, r7, r8, ?_, fun hrun => ?_⟩
    · rw [handLog_head, thead, hlog, dhead]
      rfl
    · show t.bus.resetWrites = []
      rw [rbus, wwrites, dwrites hrun]
      rfl

end Sys2Proof.Machine


/-! # Stretching and squeezing a block (R110 to R112). -/

namespace Sys2Proof.Machine

open Sys2Proof

/-! ## Lists made place by place -/

/-- How many items the places below one give. -/
def placesBelow {α : Type} (g : Nat → List α) (i : Nat) : Nat := ((List.range i).flatMap g).length

theorem placesBelow_zero {α : Type} (g : Nat → List α) : placesBelow g 0 = 0 := rfl

theorem placesBelow_succ {α : Type} (g : Nat → List α) (i : Nat) :
    placesBelow g (i + 1) = placesBelow g i + (g i).length := by
  simp [placesBelow, List.range_succ]

/-- Item r of place i stands after all that the places below give. -/
theorem getElem?_flatMap_range {α : Type} (g : Nat → List α) {n i r : Nat} (hi : i < n) (hr : r < (g i).length) :
    ((List.range n).flatMap g)[placesBelow g i + r]? = (g i)[r]? := by
  induction n with
  | zero => exact absurd hi (Nat.not_lt_zero i)
  | succ n ih =>
    rw [List.range_succ, List.flatMap_append, List.flatMap_singleton]
    rcases Nat.lt_or_eq_of_le (Nat.le_of_lt_succ hi) with hlt | rfl
    · have hin : placesBelow g i + r < ((List.range n).flatMap g).length := by
        by_contra hout
        have hnone := List.getElem?_eq_none (Nat.le_of_not_lt hout)
        rw [ih hlt, List.getElem?_eq_getElem hr] at hnone
        cases hnone
      rw [List.getElem?_append_left hin, ih hlt]
    · show (_ : List α)[((List.range i).flatMap g).length + r]? = _
      rw [List.getElem?_append_right (Nat.le_add_right _ _), Nat.add_sub_cancel_left]

theorem frameAt_flatMap_range (g : Nat → List Frame) {n i r : Nat} (hi : i < n) (hr : r < (g i).length) :
    frameAt ((List.range n).flatMap g) (placesBelow g i + r) = frameAt (g i) r := by
  simp only [frameAt, List.getD_eq_getElem?_getD, getElem?_flatMap_range g hi hr]

/-! ## Counting positions -/

/-- How many positions of a list lie below one. -/
def below (l : List Nat) (i : Nat) : Nat := l.countP (fun x => decide (x < i))

theorem below_zero (l : List Nat) : below l 0 = 0 := by simp [below]

theorem below_succ {l : List Nat} (h : l.Nodup) (i : Nat) : below l (i + 1) = below l i + if i ∈ l then 1 else 0 := by
  induction l with
  | nil => rfl
  | cons x xs ih =>
    obtain ⟨hx, hxs⟩ := List.nodup_cons.1 h
    have hrest := ih hxs
    unfold below at hrest ⊢
    rw [List.countP_cons, List.countP_cons, hrest]
    by_cases hxi : x = i
    · subst hxi
      simp [hx]
    · have hlt : x < i + 1 ↔ x < i := by omega
      simp [hlt, Ne.symm hxi]
      omega

/-- Every position lies below a bound. -/
theorem below_all {l : List Nat} {n : Nat} (h : ∀ x ∈ l, x < n) : below l n = l.length :=
  List.countP_eq_length.2 fun x hx => by simpa using h x hx

theorem below_map_range (f : Nat → Nat) (k i : Nat) :
    below ((List.range k).map f) i = (List.range k).countP (fun j => decide (f j < i)) := by
  rw [below, List.countP_map]
  rfl

/-- Below a position of an increasing list lie those that come before it. -/
theorem countP_range_lt {k j : Nat} (hj : j ≤ k) : (List.range k).countP (fun i => decide (i < j)) = j := by
  induction k with
  | zero => simp at hj; simp [hj]
  | succ k ih =>
    rw [List.range_succ, List.countP_append, List.countP_singleton]
    rcases Nat.lt_or_eq_of_le hj with hlt | rfl
    · rw [ih (by omega)]
      simp
      omega
    · have hall : (List.range k).countP (fun i => decide (i < k + 1)) = k := by
        rw [List.countP_eq_length.2, List.length_range]
        intro i hi
        have := List.mem_range.1 hi
        simp
        omega
      rw [hall]
      simp

theorem below_increasing {f : Nat → Nat} {k j c : Nat} (hj : j ≤ k) (h : ∀ i, i < k → (f i < c ↔ i < j)) :
    below ((List.range k).map f) c = j := by
  rw [below_map_range, ← countP_range_lt hj]
  refine List.countP_congr fun i hi => ?_
  simp [h i (List.mem_range.1 hi)]

/-! ## The positions of R111 and R112 -/

/-- The position of the junction j when n frames and k junctions are spread: floor((j + 1) n / (k + 1)) − 1. -/
def junction (n k j : Nat) : Nat := (j + 1) * n / (k + 1) - 1

theorem spread_eq (n k : Nat) : spread n k = (List.range k).map (junction n k) := rfl

section Junctions

variable {n k : Nat}

theorem junction_lt {j : Nat} (hj : j < k) (hn : k < n) : junction n k j + 1 < n := by
  have hle : (j + 1) * n ≤ k * n := Nat.mul_le_mul_right n hj
  have hlt : (j + 1) * n / (k + 1) < n := by
    rw [Nat.div_lt_iff_lt_mul (show 0 < k + 1 by omega)]
    have : k * n < n * (k + 1) := by rw [Nat.mul_comm n, Nat.add_mul]; omega
    omega
  unfold junction
  generalize (j + 1) * n / (k + 1) = a at *
  omega

/-- Two junctions in a row stand at least c apart when c (k + 1) frames are spread. -/
theorem junction_succ {c : Nat} (hc : 1 ≤ c) (hn : c * (k + 1) ≤ n) (j : Nat) :
    junction n k j + c ≤ junction n k (j + 1) := by
  have hstep : (j + 1) * n / (k + 1) + c ≤ (j + 1 + 1) * n / (k + 1) := by
    rw [← Nat.add_mul_div_right _ _ (show 0 < k + 1 by omega)]
    refine Nat.div_le_div_right ?_
    rw [Nat.add_mul (j + 1) 1 n, Nat.one_mul]
    omega
  have hone : c ≤ (j + 1) * n / (k + 1) := by
    rw [Nat.le_div_iff_mul_le (show 0 < k + 1 by omega)]
    exact hn.trans (Nat.le_mul_of_pos_left n (Nat.succ_pos j))
  unfold junction
  generalize (j + 1) * n / (k + 1) = a at *
  generalize (j + 1 + 1) * n / (k + 1) = b at *
  omega

theorem junction_apart {c : Nat} (hc : 1 ≤ c) (hn : c * (k + 1) ≤ n) {i j : Nat} (hij : i < j) :
    junction n k i + c ≤ junction n k j := by
  induction j, hij using Nat.le_induction with
  | base => exact junction_succ hc hn i
  | succ j _ ih => exact ih.trans ((Nat.le_add_right _ c).trans (junction_succ hc hn j))

theorem junction_injective (hn : k + 1 ≤ n) : Function.Injective (junction n k) := by
  intro i j h
  rcases Nat.lt_trichotomy i j with hij | rfl | hij
  · have := junction_apart (n := n) (k := k) (c := 1) (by omega) (by omega) hij
    omega
  · rfl
  · have := junction_apart (n := n) (k := k) (c := 1) (by omega) (by omega) hij
    omega

theorem spread_nodup (hn : k + 1 ≤ n) : (spread n k).Nodup := by
  rw [spread_eq]
  exact List.nodup_range.map (junction_injective hn)

theorem mem_spread (i : Nat) : i ∈ spread n k ↔ ∃ j, j < k ∧ junction n k j = i := by
  simp [spread_eq]

end Junctions

/-! ## Means -/

theorem sample_bounds (x : Sample) : -8388608 ≤ x.toInt ∧ x.toInt ≤ 8388607 := by
  have hlow := BitVec.le_toInt (x := x)
  have hhigh := BitVec.toInt_lt (x := x)
  norm_num at hlow hhigh
  omega

/-- The mean of two samples, with floor. -/
theorem mean_toInt (x y : Sample) : (mean x y).toInt = (x.toInt + y.toInt) / 2 := by
  have hx := sample_bounds x
  have hy := sample_bounds y
  rw [mean, sample_toInt] <;> omega

/-- One frame is the floor of the mean of two. -/
theorem meanFrame_toInt (a b : Frame) : (meanFrame a b).l.toInt = (a.l.toInt + b.l.toInt) / 2 ∧
    (meanFrame a b).r.toInt = (a.r.toInt + b.r.toInt) / 2 := ⟨mean_toInt .., mean_toInt ..⟩

/-! ## Stretching (R111) -/

/-- What stretching makes of frame i. -/
def stretchAt (k : Nat) (ts : List Frame) (i : Nat) : List Frame :=
  if (spread ts.length k).contains i then [frameAt ts i, meanFrame (frameAt ts i) (frameAt ts (i + 1))]
  else [frameAt ts i]

section Stretch

variable {k : Nat} {ts : List Frame}

theorem stretch_eq : stretch k ts = (List.range ts.length).flatMap (stretchAt k ts) := rfl

theorem stretchAt_length (i : Nat) :
    (stretchAt k ts i).length = 1 + if i ∈ spread ts.length k then 1 else 0 := by
  unfold stretchAt
  by_cases h : i ∈ spread ts.length k
  · rw [if_pos (by simpa using h), if_pos h]; rfl
  · rw [if_neg (by simpa using h), if_neg h]; rfl

theorem stretch_below (hn : k + 1 ≤ ts.length) (i : Nat) :
    placesBelow (stretchAt k ts) i = i + below (spread ts.length k) i := by
  induction i with
  | zero => rw [placesBelow_zero, below_zero]
  | succ i ih =>
    rw [placesBelow_succ, ih, stretchAt_length, below_succ (spread_nodup hn)]
    omega

theorem stretch_length (hn : k + 1 ≤ ts.length) : (stretch k ts).length = ts.length + k := by
  have h := stretch_below hn ts.length
  rw [below_all fun x hx => ?_] at h
  · rw [stretch_eq]
    simpa [placesBelow, spread] using h
  · obtain ⟨j, hj, rfl⟩ := (mem_spread x).1 hx
    have := junction_lt hj hn
    omega

/-- A frame keeps its place behind the frames inserted before it. -/
theorem stretch_keeps (hn : k + 1 ≤ ts.length) {i : Nat} (hi : i < ts.length) :
    frameAt (stretch k ts) (i + below (spread ts.length k) i) = frameAt ts i := by
  have h := frameAt_flatMap_range (stretchAt k ts) (r := 0) hi (by rw [stretchAt_length]; omega)
  rw [Nat.add_zero, stretch_below hn] at h
  rw [stretch_eq, h]
  unfold stretchAt
  split <;> rfl

/-- The frame inserted at junction j is the mean of the two it stands between. -/
theorem stretch_inserts (hn : k + 1 ≤ ts.length) {j : Nat} (hj : j < k) :
    frameAt (stretch k ts) (junction ts.length k j + j + 1) =
      meanFrame (frameAt ts (junction ts.length k j)) (frameAt ts (junction ts.length k j + 1)) := by
  have hmem : junction ts.length k j ∈ spread ts.length k := (mem_spread _).2 ⟨j, hj, rfl⟩
  have hin := junction_lt hj hn
  have h := frameAt_flatMap_range (stretchAt k ts) (i := junction ts.length k j) (r := 1) (Nat.lt_of_succ_lt hin)
    (by rw [stretchAt_length, if_pos hmem]; omega)
  have hbelow : below (spread ts.length k) (junction ts.length k j) = j := by
    rw [spread_eq]
    refine below_increasing (Nat.le_of_lt hj) fun i _ => ⟨fun hlt => ?_, fun hlt => ?_⟩
    · by_contra hge
      rcases Nat.lt_or_eq_of_le (Nat.le_of_not_lt hge) with hji | rfl
      · have := junction_apart (n := ts.length) (k := k) (c := 1) (by omega) (by omega) hji
        omega
      · omega
    · have := junction_apart (n := ts.length) (k := k) (c := 1) (by omega) (by omega) hlt
      omega
  rw [stretch_below hn, hbelow] at h
  rw [stretch_eq, h, stretchAt, if_pos (by simpa using hmem)]
  rfl

end Stretch

/-! ## Squeezing (R112) -/

/-- What squeezing makes of frame i. -/
def squeezeAt (k : Nat) (ts : List Frame) (i : Nat) : List Frame :=
  if (spread ts.length k).contains i then [meanFrame (frameAt ts i) (frameAt ts (i + 1))]
  else if 0 < i ∧ (spread ts.length k).contains (i - 1) then []
  else [frameAt ts i]

section Squeeze

variable {k : Nat} {ts : List Frame}

theorem squeeze_eq : squeeze k ts = (List.range ts.length).flatMap (squeezeAt k ts) := rfl

/-- The second frames of the merged pairs. -/
def pairSeconds (n k : Nat) : List Nat := (List.range k).map (fun j => junction n k j + 1)

theorem mem_pairSeconds {n k : Nat} (i : Nat) : i ∈ pairSeconds n k ↔ ∃ j, j < k ∧ junction n k j + 1 = i := by
  simp [pairSeconds]

theorem pairSeconds_nodup {n k : Nat} (hn : k + 1 ≤ n) : (pairSeconds n k).Nodup :=
  List.nodup_range.map fun _ _ h => junction_injective hn (Nat.succ.inj h)

/-- The pairs do not overlap. -/
theorem not_mem_pairSeconds {n k : Nat} (hn : 2 * (k + 1) ≤ n) {i : Nat} (h : i ∈ spread n k) : i ∉ pairSeconds n k := by
  intro hsecond
  obtain ⟨a, -, rfl⟩ := (mem_spread i).1 h
  obtain ⟨b, -, hb⟩ := (mem_pairSeconds _).1 hsecond
  rcases Nat.lt_trichotomy a b with hab | rfl | hab
  · have := junction_apart (c := 2) (by omega) hn hab
    omega
  · omega
  · have := junction_apart (c := 2) (by omega) hn hab
    omega

theorem second_iff {n k i : Nat} : (0 < i ∧ (spread n k).contains (i - 1) = true) ↔ i ∈ pairSeconds n k := by
  rw [mem_pairSeconds, List.contains_iff_mem, mem_spread]
  constructor
  · rintro ⟨hi, j, hj, h⟩
    exact ⟨j, hj, by omega⟩
  · rintro ⟨j, hj, h⟩
    exact ⟨by omega, j, hj, by omega⟩

theorem squeezeAt_length (hn : 2 * (k + 1) ≤ ts.length) (i : Nat) :
    (squeezeAt k ts i).length + (if i ∈ pairSeconds ts.length k then 1 else 0) = 1 := by
  unfold squeezeAt
  by_cases h : i ∈ spread ts.length k
  · rw [if_pos (by simpa using h), if_neg (not_mem_pairSeconds hn h)]; rfl
  · rw [if_neg (by simpa using h)]
    by_cases hs : i ∈ pairSeconds ts.length k
    · rw [if_pos (second_iff.2 hs), if_pos hs]; rfl
    · rw [if_neg (mt second_iff.1 hs), if_neg hs]; rfl

theorem squeeze_below (hn : 2 * (k + 1) ≤ ts.length) (i : Nat) :
    placesBelow (squeezeAt k ts) i + below (pairSeconds ts.length k) i = i := by
  induction i with
  | zero => rw [placesBelow_zero, below_zero]
  | succ i ih =>
    have hlen := squeezeAt_length hn i
    rw [placesBelow_succ, below_succ (pairSeconds_nodup (by omega))]
    omega

theorem squeeze_length (hn : 2 * (k + 1) ≤ ts.length) : (squeeze k ts).length + k = ts.length := by
  have h := squeeze_below hn ts.length
  rw [below_all fun x hx => ?_] at h
  · rw [squeeze_eq]
    simpa [placesBelow, pairSeconds] using h
  · obtain ⟨j, hj, rfl⟩ := (mem_pairSeconds x).1 hx
    exact junction_lt hj (by omega)

/-- A frame outside the pairs moves up by the pairs before it. -/
theorem squeeze_keeps (hn : 2 * (k + 1) ≤ ts.length) {i : Nat} (hi : i < ts.length)
    (hout : ∀ j, j < k → i ≠ junction ts.length k j ∧ i ≠ junction ts.length k j + 1) :
    frameAt (squeeze k ts) (i - below (spread ts.length k) i) = frameAt ts i := by
  have hfirst : i ∉ spread ts.length k := fun h => by
    obtain ⟨j, hj, rfl⟩ := (mem_spread i).1 h
    exact (hout j hj).1 rfl
  have hsecond : i ∉ pairSeconds ts.length k := fun h => by
    obtain ⟨j, hj, rfl⟩ := (mem_pairSeconds i).1 h
    exact (hout j hj).2 rfl
  have hat : squeezeAt k ts i = [frameAt ts i] := by
    rw [squeezeAt, if_neg (by simpa using hfirst), if_neg (mt second_iff.1 hsecond)]
  have hsame : below (spread ts.length k) i = below (pairSeconds ts.length k) i := by
    rw [spread_eq, pairSeconds, below_map_range, below_map_range]
    refine List.countP_congr fun j hj => ?_
    have := hout j (List.mem_range.1 hj)
    simp
    omega
  have h := frameAt_flatMap_range (squeezeAt k ts) (r := 0) hi (by rw [hat]; exact Nat.one_pos)
  have hpos := squeeze_below hn i
  rw [Nat.add_zero, hat] at h
  rw [hsame, show i - below (pairSeconds ts.length k) i = placesBelow (squeezeAt k ts) i by omega, squeeze_eq, h]
  rfl

/-- A merged pair stands as the mean of its two frames. -/
theorem squeeze_merges (hn : 2 * (k + 1) ≤ ts.length) {j : Nat} (hj : j < k) :
    frameAt (squeeze k ts) (junction ts.length k j - j) =
      meanFrame (frameAt ts (junction ts.length k j)) (frameAt ts (junction ts.length k j + 1)) := by
  have hmem : junction ts.length k j ∈ spread ts.length k := (mem_spread _).2 ⟨j, hj, rfl⟩
  have hin := junction_lt hj (show k < ts.length by omega)
  have hat : squeezeAt k ts (junction ts.length k j) =
      [meanFrame (frameAt ts (junction ts.length k j)) (frameAt ts (junction ts.length k j + 1))] := by
    rw [squeezeAt, if_pos (by simpa using hmem)]
  have hbelow : below (pairSeconds ts.length k) (junction ts.length k j) = j := by
    refine below_increasing (Nat.le_of_lt hj) fun i _ => ⟨fun hlt => ?_, fun hlt => ?_⟩
    · by_contra hge
      rcases Nat.lt_or_eq_of_le (Nat.le_of_not_lt hge) with hji | rfl
      · have := junction_apart (c := 2) (by omega) hn hji
        omega
      · omega
    · have := junction_apart (c := 2) (by omega) hn hlt
      omega
  have h := frameAt_flatMap_range (squeezeAt k ts) (i := junction ts.length k j) (r := 0) (Nat.lt_of_succ_lt hin)
    (by rw [hat]; exact Nat.one_pos)
  have hpos := squeeze_below hn (junction ts.length k j)
  rw [Nat.add_zero, hat] at h
  rw [show junction ts.length k j - j = placesBelow (squeezeAt k ts) (junction ts.length k j) by omega, squeeze_eq, h]
  rfl

end Squeeze

/-- Settles O38: the positions by counting what the places below give. -/
theorem stretchAndSqueezeFillTheBlock : Obligations.StretchAndSqueezeFillTheBlock := by
  unfold Obligations.StretchAndSqueezeFillTheBlock
  intro k ts hk isMean
  constructor
  · intro hlen
    have hn : k + 1 ≤ ts.length := by omega
    have hq : ∀ j, junction ts.length k j = (j + 1) * (240 - k) / (k + 1) - 1 := fun j => by rw [hlen]; rfl
    simp only [← hq]
    refine ⟨by rw [stretch_length hn]; omega, fun j hj => ?_, fun i hi => ?_⟩
    · rw [stretch_inserts hn hj]
      exact meanFrame_toInt ..
    · rw [← below_map_range, ← spread_eq]
      exact stretch_keeps hn (by omega)
  · intro hlen
    have hn : 2 * (k + 1) ≤ ts.length := by omega
    have hm : ∀ j, junction ts.length k j = (j + 1) * (240 + k) / (k + 1) - 1 := fun j => by rw [hlen]; rfl
    simp only [← hm]
    refine ⟨by have := squeeze_length hn; omega, fun j hj => ?_, fun i hi hout => ?_⟩
    · rw [squeeze_merges hn hj]
      exact meanFrame_toInt ..
    · rw [← below_map_range, ← spread_eq]
      exact squeeze_keeps hn (by omega) hout

end Sys2Proof.Machine


/-! # The delay line's blocks, requests and dumps (R107 to R121). -/

namespace Sys2Proof.Machine

open Sys2Proof

/-! ## A block by the state (R109 to R113) -/

section Run

variable {d : Delay} {input : List Frame} {t r : Nat}

theorem run_bypass (h : d.state = .bypass) : d.run t r input = d.give 240 id (d.mem ++ d.faded input) := by
  unfold Delay.run
  rw [h]

theorem run_holding (h : d.state = .holding) :
    d.run t r input = { d.give 240 id (d.mem ++ d.faded input) with acc := d.accNext r } := by
  unfold Delay.run
  rw [h]

theorem run_building (h : d.state = .building) : let k := min (d.share r) (t - d.depth)
    d.run t r input = { d.give (240 - k) (stretch k) (d.mem ++ d.faded input) with
      acc := d.accNext r, state := if t ≤ d.depth + k then .holding else .building } := by
  unfold Delay.run
  rw [h]
  dsimp only
  split
  · rfl
  · simp only [Delay.give, h]

theorem run_squeezing (h : d.state = .squeezing) : let k := min (d.share r) (d.depth - t)
    d.run t r input = { d.give (240 + k) (squeeze k) (d.mem ++ d.faded input) with
      acc := d.accNext r, state := if d.depth - k ≤ t then .holding else .squeezing } := by
  unfold Delay.run
  rw [h]
  dsimp only
  split
  · rfl
  · simp only [Delay.give, h]

theorem run_exiting (h : d.state = .exiting) : let k := min (d.share r) d.depth
    d.run t r input = { d.give (240 + k) (squeeze k) (d.mem ++ d.faded input) with
      acc := if d.depth - k = 0 then 0 else d.accNext r
      state := if d.depth - k = 0 then .bypass else .exiting } := by
  unfold Delay.run
  rw [h]
  dsimp only
  split
  · rfl
  · simp only [Delay.give, h]

/-- A block keeps the pause and marks itself made; what it gives comes from the head of the memory and the input. -/
theorem run_keeps : (d.run t r input).made = true ∧ (d.run t r input).pauseNow = d.pauseNow ∧
    (d.run t r input).pauseFlag = d.pauseFlag := by
  cases h : d.state
  · rw [run_bypass h]; exact ⟨rfl, rfl, rfl⟩
  · rw [run_building h]; exact ⟨rfl, rfl, rfl⟩
  · rw [run_holding h]; exact ⟨rfl, rfl, rfl⟩
  · rw [run_squeezing h]; exact ⟨rfl, rfl, rfl⟩
  · rw [run_exiting h]; exact ⟨rfl, rfl, rfl⟩

/-- The accumulator gives twelve frames at most in a block (R110). -/
theorem share_le (hacc : d.acc < 1000) (hr : r ≤ 50) : d.share r ≤ 12 := by
  rw [Delay.share, Nat.div_le_iff_le_mul_add_pred (by omega)]
  simp only [Config.blockFrames]
  omega

theorem stretch_block {k : Nat} {ts : List Frame} (hk : k ≤ 12) (hts : ts.length = 240 - k) :
    (stretch k ts).length = 240 := by
  rw [stretch_length (by omega)]
  omega

theorem squeeze_block {k : Nat} {ts : List Frame} (hk : k ≤ 12) (hts : ts.length = 240 + k) :
    (squeeze k ts).length = 240 := by
  have := squeeze_length (k := k) (ts := ts) (by omega)
  omega

/-- What a block gives is a whole block, whatever the state (R110 to R113). -/
theorem run_out (hin : input.length = 240) (hacc : d.acc < 1000) (hr : r ≤ 50) :
    ∃ out, (d.run t r input).out = some out ∧ out.length = 240 := by
  have hshare := share_le hacc hr
  have hjoined : (d.mem ++ d.faded input).length = d.depth + 240 := by
    rw [List.length_append, faded_length d hin, Delay.depth]
  cases h : d.state
  · rw [run_bypass h]
    exact ⟨_, rfl, by simp only [id, List.length_take, hjoined]; omega⟩
  · rw [run_building h]
    exact ⟨_, rfl, stretch_block (by omega) (by rw [List.length_take, hjoined]; omega)⟩
  · rw [run_holding h]
    exact ⟨_, rfl, by simp only [id, List.length_take, hjoined]; omega⟩
  · rw [run_squeezing h]
    exact ⟨_, rfl, squeeze_block (by omega) (by rw [List.length_take, hjoined]; omega)⟩
  · rw [run_exiting h]
    exact ⟨_, rfl, squeeze_block (by omega) (by rw [List.length_take, hjoined]; omega)⟩

end Run

/-! ## DELAY_BLOCK (R109, R121) -/

section Block

variable {s : State}

/-- A block that no pause holds back, with no held DUMP line. -/
theorem completes_delayBlock (hprog : s.onProgramme = true) (hmade : s.delay.made = false)
    (hpause : s.delay.pauseNow = false) (hheld : ∀ n, s.heldDump n = false) :
    Completes .delayBlock s (logDelay .reached s
      { s with delay := s.delay.run s.sections.station.target s.sections.station.rate s.mixBlock }) := by
  have hopen : ¬s.delay.held = true := by simp [Delay.held, hpause]
  unfold Completes
  show execDelayBlock s = _
  rw [execDelayBlock, if_pos (by simp [hprog, hmade])]
  dsimp only
  rw [if_neg hopen, noteDelay_idle _ _ (by exact hheld)]

/-- A block under a pause in force, with no held DUMP line. -/
theorem completes_pausedBlock (hprog : s.onProgramme = true) (hmade : s.delay.made = false)
    (hpause : s.delay.pauseNow = true) (heng : s.delay.state.engaged = true) (hheld : ∀ n, s.heldDump n = false) :
    Completes .delayBlock s (logDelay .pause s (delayOverflow (s.delay.overflow s.mixBlock)
      { s with delay := s.delay.pausedBlock s.sections.station.target s.mixBlock })) := by
  have hholds : s.delay.held = true := by
    unfold Delay.held
    rw [hpause]
    cases hst : s.delay.state <;> simp_all [DelayState.engaged]
  unfold Completes
  show execDelayBlock s = _
  rw [execDelayBlock, if_pos (by simp [hprog, hmade])]
  dsimp only
  rw [if_pos hholds, noteDelay_idle]
  intro n
  rw [← hheld n]
  unfold delayOverflow
  split
  · rfl
  · rw [raise_only]
    rfl

/-- The frames past a capacity are dropped, so the rest is within it. -/
theorem drop_past_length (fs gs : List Frame) (top : Nat) :
    ((fs ++ gs).drop (fs.length + gs.length - top)).length = min (fs.length + gs.length) top := by
  rw [List.length_drop, List.length_append]
  omega

theorem overflow_eq (d : Delay) {input : List Frame} (hin : input.length = 240) :
    d.overflow input = d.mem.length + 240 - Config.delayFrames := by
  unfold Delay.overflow Delay.depth
  rw [faded_length d hin]

theorem drop_overflow_length (d : Delay) {input : List Frame} (hin : input.length = 240) :
    ((d.mem ++ d.faded input).drop (d.overflow input)).length = min (d.mem.length + 240) Config.delayFrames := by
  have h := drop_past_length d.mem (d.faded input) Config.delayFrames
  rw [faded_length d hin] at h
  rw [overflow_eq d hin]
  exact h

/-- A paused block of a memory given: the state is worked out again (R121). -/
theorem paused_rework {d : Delay} (t : Nat) (heng : d.state.engaged = true) (mem : List Frame) :
    let e := Delay.rework t { d with mem := mem, out := none, fadeIn := false, made := true }
    e.out = none ∧ e.made = true ∧ e.pauseNow = d.pauseNow ∧ e.acc = d.acc ∧ e.overflowRaised = d.overflowRaised ∧
      e.mem = mem ∧ e.state = workOut t mem.length := by
  intro e
  have hstate : e.state = workOut t mem.length := rework_engaged heng
  have he : e = { d with mem := mem, out := none, fadeIn := false, made := true, state := e.state } := rework_only ..
  refine ⟨?_, ?_, ?_, ?_, ?_, ?_, hstate⟩ <;> rw [he]

/-- What a paused block makes of the line (R121). -/
theorem pausedBlock_says {d : Delay} {input : List Frame} (t : Nat) (hin : input.length = 240)
    (heng : d.state.engaged = true) : let e := d.pausedBlock t input
    e.out = none ∧ e.made = true ∧ e.pauseNow = d.pauseNow ∧ e.acc = d.acc ∧ e.overflowRaised = d.overflowRaised ∧
      e.mem.length = min (d.mem.length + 240) Config.delayFrames ∧ e.state = workOut t e.mem.length := by
  have hlen := drop_overflow_length d hin
  intro e
  have he : e = Delay.rework t { d with
      mem := (d.mem ++ d.faded input).drop (d.overflow input), out := none, fadeIn := false, made := true } := rfl
  clear_value e
  generalize (d.mem ++ d.faded input).drop (d.overflow input) = mem at *
  obtain ⟨h1, h2, h3, h4, h5, hmem, hstate⟩ := paused_rework t heng mem
  rw [← he] at h1 h2 h3 h4 h5 hmem hstate
  rw [hmem]
  exact ⟨h1, h2, h3, h4, h5, hlen, hstate⟩

/-- The first overflowing block of a pause raises DELAY_OVERFLOW with the frames past the capacity (R121). -/
theorem delayOverflow_faults (n : Nat) (u : State) :
    (n = 0 ∨ u.delay.overflowRaised = true → (delayOverflow n u).faults = u.faults) ∧
      (n ≠ 0 → u.delay.overflowRaised = false →
        (delayOverflow n u).faults = (raise ⟨.delayOverflow, .delayLine, 0, 0, n, zeros16⟩ u).faults) := by
  refine ⟨fun h => by rw [delayOverflow, if_pos h], fun hn hr => ?_⟩
  rw [delayOverflow, if_neg (by simp [hn, hr]), raise_faults, raise_faults]
  rfl

theorem delayOverflow_only (n : Nat) (u : State) : delayOverflow n u = { u with
    delay := { u.delay with overflowRaised := (delayOverflow n u).delay.overflowRaised }
    faults := (delayOverflow n u).faults, log := (delayOverflow n u).log } := by
  unfold delayOverflow
  split
  · rfl
  · rw [raise_only]

/-- What DELAY_BLOCK makes of a paused line that the outcome of a block is given for. -/
theorem paused_outcome {d : Delay} {n : Nat}
    (hout : d.out = none ∧ d.made = true ∧ d.pauseNow = true ∧ d.overflowRaised = s.delay.overflowRaised) :
    let u := logDelay .pause s (delayOverflow n { s with delay := d })
    u.delay.out = none ∧ u.delay.made = true ∧ u.delay.pauseNow = true ∧ u.delay.mem = d.mem ∧ u.delay.acc = d.acc ∧
      u.delay.state = d.state ∧
      (n ≠ 0 → s.delay.overflowRaised = false →
        u.faults = (raise ⟨.delayOverflow, .delayLine, 0, 0, n, zeros16⟩ s).faults) ∧
      (n = 0 → u.faults = s.faults) ∧ u = { s with delay := u.delay, faults := u.faults, log := u.log } := by
  obtain ⟨h1, h2, h3, h4⟩ := hout
  have honly := delayOverflow_only n { s with delay := d }
  obtain ⟨hquiet, hloud⟩ := delayOverflow_faults n { s with delay := d }
  generalize delayOverflow n { s with delay := d } = w at *
  intro u
  have hu : u = { w with log := u.log } := logDelay_only ..
  clear_value u
  have hwdelay : w.delay = { d with overflowRaised := w.delay.overflowRaised } := by rw [honly]
  have hdelay : u.delay = { d with overflowRaised := w.delay.overflowRaised } := by rw [hu]; exact hwdelay
  have hfaults : u.faults = w.faults := by rw [hu]
  refine ⟨by rw [hdelay]; exact h1, by rw [hdelay]; exact h2, by rw [hdelay]; exact h3, by rw [hdelay], by rw [hdelay],
    by rw [hdelay], fun hn hfirst => ?_, fun hn => ?_, ?_⟩
  · rw [hfaults, hloud hn (by exact h4.trans hfirst), raise_faults, raise_faults]
  · rw [hfaults, hquiet (.inl hn)]
  · rw [hu, honly]

theorem pausedBlock_clause (hprog : s.onProgramme = true) (hmade : s.delay.made = false)
    (hpause : s.delay.pauseNow = true) (heng : s.delay.state.engaged = true) (hheld : ∀ n, s.heldDump n = false) :
    ∃ u, Completes .delayBlock s u ∧ u.delay.out = none ∧ u.delay.made = true ∧ u.delay.pauseNow = true ∧
      u.delay.mem.length = min (s.delay.mem.length + 240) Config.delayFrames ∧ u.delay.acc = s.delay.acc ∧
      (u.delay.state = workOut s.sections.station.target u.delay.mem.length) ∧
      (s.delay.overflow s.mixBlock ≠ 0 → s.delay.overflowRaised = false →
        u.faults = (raise ⟨.delayOverflow, .delayLine, 0, 0, s.delay.overflow s.mixBlock, zeros16⟩ s).faults) ∧
      (s.delay.overflow s.mixBlock = 0 → u.faults = s.faults) ∧
      u = { s with delay := u.delay, faults := u.faults, log := u.log } := by
  have hdone := completes_pausedBlock hprog hmade hpause heng hheld
  obtain ⟨hout, hmark, hnow, hacc, hraised, hlen, hstate⟩ :=
    pausedBlock_says s.sections.station.target (mixBlock_length s) heng
  generalize s.delay.overflow s.mixBlock = n at *
  generalize s.delay.pausedBlock s.sections.station.target s.mixBlock = d at *
  obtain ⟨h1, h2, h3, h4, h5, h6, h7, h8, h9⟩ := paused_outcome (n := n) ⟨hout, hmark, hnow.trans hpause, hraised⟩
  refine ⟨_, hdone, h1, h2, h3, ?_, h5.trans hacc, ?_, h7, h8, h9⟩
  · rw [h4, hlen]
  · rw [h6, h4, hstate]

/-- What a block makes of the line by its state, the memory and the input joined (R109 to R113). -/
theorem run_says {d : Delay} {input : List Frame} {t r : Nat} (hin : input.length = 240)
    (hacc : d.acc < 1000) (hr : r ≤ 50) (hby : d.state = .bypass → d.mem = []) :
    let n := d.mem.length
    let k := (d.acc + 240 * r) / 1000
    let joined := d.mem ++ d.faded input
    let e := d.run t r input
    ∀ out, e.out = some out →
      (d.state = .bypass → e.mem = [] ∧ e.state = .bypass ∧ out = joined) ∧
      (d.state = .holding → e.mem.length = n ∧ e.state = .holding ∧ out = joined.take 240 ∧ e.mem = joined.drop 240) ∧
      (d.state = .building → e.mem.length = n + min k (t - n) ∧
        out = stretch (min k (t - n)) (joined.take (240 - min k (t - n))) ∧
        e.mem = joined.drop (240 - min k (t - n)) ∧ e.state = if t ≤ n + k then .holding else .building) ∧
      (d.state = .squeezing → e.mem.length = n - min k (n - t) ∧
        out = squeeze (min k (n - t)) (joined.take (240 + min k (n - t))) ∧
        e.mem = joined.drop (240 + min k (n - t)) ∧ e.state = if n ≤ t + k then .holding else .squeezing) ∧
      (d.state = .exiting → e.mem.length = n - k ∧ out = squeeze (min k n) (joined.take (240 + min k n)) ∧
        e.mem = joined.drop (240 + min k n) ∧ e.state = if n ≤ k then .bypass else .exiting) := by
  have hjoined : (d.mem ++ d.faded input).length = d.mem.length + 240 := by
    rw [List.length_append, faded_length d hin]
  have hk : d.share r = (d.acc + 240 * r) / 1000 := rfl
  have hdepth : d.depth = d.mem.length := rfl
  have hshare := share_le hacc hr
  generalize (d.acc + 240 * r) / 1000 = q at hk ⊢
  intro n k joined e out hout
  have hn : n = d.mem.length := rfl
  have hkq : k = q := rfl
  have he : e = d.run t r input := rfl
  clear_value e
  refine ⟨fun h => ?_, fun h => ?_, fun h => ?_, fun h => ?_, fun h => ?_⟩
  · rw [run_bypass h] at he
    have hlen : joined.length = 240 := by rw [show joined.length = d.mem.length + 240 from hjoined, hby h]; rfl
    rw [he] at hout ⊢
    cases hout
    exact ⟨List.drop_eq_nil_of_le (Nat.le_of_eq hlen), h, List.take_of_length_le (Nat.le_of_eq hlen)⟩
  · rw [run_holding h] at he
    rw [he] at hout ⊢
    cases hout
    refine ⟨?_, h, rfl, rfl⟩
    simp only [Delay.give, List.length_drop, hjoined]
    omega
  · rw [run_building h, hk, hdepth] at he
    rw [he] at hout ⊢
    cases hout
    refine ⟨?_, rfl, rfl, ?_⟩
    · simp only [Delay.give, List.length_drop, hjoined]
      omega
    · refine if_congr ?_ rfl rfl
      omega
  · rw [run_squeezing h, hk, hdepth] at he
    rw [he] at hout ⊢
    cases hout
    refine ⟨?_, rfl, rfl, ?_⟩
    · simp only [Delay.give, List.length_drop, hjoined]
      omega
    · refine if_congr ?_ rfl rfl
      omega
  · rw [run_exiting h, hk, hdepth] at he
    rw [he] at hout ⊢
    cases hout
    refine ⟨?_, rfl, rfl, ?_⟩
    · simp only [Delay.give, List.length_drop, hjoined]
      omega
    · refine if_congr ?_ rfl rfl
      omega

end Block

/-- Settles O39: a free block by `run_says`, a paused one by `pausedBlock_clause`. -/
theorem delayBlockMovesTowardItsTarget : Obligations.DelayBlockMovesTowardItsTarget := by
  unfold Obligations.DelayBlockMovesTowardItsTarget
  refine ⟨fun s hprog hmade hpause hacc _ hrate hby hheld => ?_, fun s hprog hmade hpause heng hheld _ => ?_,
    fun s i => ⟨_, completes_blockBoundary i s, ?_⟩⟩
  · have hdone := completes_delayBlock hprog hmade hpause hheld
    have hin := mixBlock_length s
    obtain ⟨out, hout, hlen⟩ := run_out (t := s.sections.station.target) hin hacc hrate
    obtain ⟨hmark, hnow, hflag⟩ := run_keeps (d := s.delay) (input := s.mixBlock) (t := s.sections.station.target)
      (r := s.sections.station.rate)
    obtain ⟨h1, h2, h3, h4, h5⟩ := run_says (t := s.sections.station.target) (r := s.sections.station.rate) hin hacc hrate
      hby out hout
    rw [logDelay_only] at hdone
    exact ⟨_, out, hdone, hout, hlen, hmark, hnow.trans hpause, hflag, h1, h2, h3, h4, h5, rfl⟩
  · obtain ⟨u, hdone, h1, h2, h3, h4, h5, h6, h7, h8, h9⟩ := pausedBlock_clause hprog hmade hpause heng hheld
    rw [overflow_eq s.delay (mixBlock_length s)] at h7 h8
    exact ⟨u, hdone, h1, h2, h3, h4, h5, h6, fun hover => h7 (Nat.sub_ne_zero_of_lt hover),
      fun hfits => h8 (Nat.sub_eq_zero_of_le hfits), h9⟩
  · rw [beginBlock_delay, boundary_only]

/-! ## DELAY_ENGAGE and DELAY_EXIT (R114, R115) -/

/-- An event that leaves the line short of SAFE hands its DELAY_STATE entry alone. -/
theorem noteDelay_unsafe {s : State} (h : s.safe = false) (c : DelayCause) (o : State) :
    noteDelay c o s = logDelay c o s := by
  rw [noteDelay, if_neg (by simp [h])]

theorem safe_of_state {s : State} (h : s.delay.state.engaged = false) : s.safe = false := by
  simp [State.safe, h]

section Requests

variable {s : State}

theorem delayEngage_short (h : s.delay.state = .bypass) (ht : s.sections.station.target < 48000) :
    delayEngage s = (.targetTooShort, s) := by
  unfold delayEngage
  rw [h]
  exact if_pos ht

theorem delayEngage_bypass (h : s.delay.state = .bypass) (ht : 48000 ≤ s.sections.station.target) : delayEngage s =
    (.done, noteDelay .request s { s with delay := { s.delay with state := .building, acc := 0 } }) := by
  unfold delayEngage
  rw [h]
  exact if_neg (Nat.not_lt.2 ht)

theorem delayEngage_exiting (h : s.delay.state = .exiting) : delayEngage s = (.done, noteDelay .request s
    { s with delay := { s.delay with state := workOut s.sections.station.target s.delay.depth } }) := by
  unfold delayEngage
  rw [h]

theorem delayEngage_engaged (h : s.delay.state = .building ∨ s.delay.state = .holding ∨ s.delay.state = .squeezing) :
    delayEngage s = (.done, s) := by
  unfold delayEngage
  rcases h with h | h | h <;> rw [h]

/-- With frames to dump wanted and none held, an engagement is not SAFE. -/
theorem engaged_unsafe (ht : 48000 ≤ s.sections.station.target) (hm : s.delay.mem = [])
    (hd : 48000 ≤ s.sections.station.dumpSize) : s.safe = false := by
  have hdump : ¬s.effDump ≤ s.delay.depth := by
    rw [State.effDump, Delay.depth, hm]
    simp
    omega
  simp [State.safe, hdump]

/-- The guard bars DELAY_EXIT with callers on air (R115). -/
theorem delayExit_guard (hg : s.sections.callers.guardSet = true) (hon : s.callers.onAir ≠ []) :
    delayExit s = (.callersOnAir, s) := by
  rw [delayExit, if_pos (by simp [hg, hon])]

/-- DELAY_EXIT past its guard. -/
theorem delayExit_free (h : s.sections.callers.guardSet = false ∨ s.callers.onAir = []) :
    delayExit s = if s.delay.state = .bypass then (.notEngaged, s)
      else if s.delay.state = .exiting then (.done, s)
      else if s.delay.depth = 0 ∧ !s.delay.pauseNow then
        (.done, noteDelay .request s { s with delay := { s.delay with state := .bypass, acc := 0 } })
      else (.done, noteDelay .request s { s with delay := { s.delay with state := .exiting } }) := by
  have hopen : ¬(s.sections.callers.guardSet && !s.callers.onAir.isEmpty) = true := by
    rcases h with h | h <;> simp [h]
  rw [delayExit, if_neg hopen]

theorem engaged_ne {d : DelayState} (h : d.engaged = true) : d ≠ .bypass ∧ d ≠ .exiting := by
  cases d <;> simp_all [DelayState.engaged]

/-- A change of the line that leaves it short of SAFE: what it changes. -/
theorem logDelay_changes (c : DelayCause) (d : Delay) : let t := logDelay c s { s with delay := d }
    t.delay = d ∧ t.sections = s.sections ∧ t = { s with delay := t.delay, log := t.log } := by
  intro t
  have ht : t = { ({ s with delay := d } : State) with log := t.log } := logDelay_only ..
  clear_value t
  rw [ht]
  exact ⟨rfl, rfl, rfl⟩

end Requests

/-! ## Dumps (R117 to R119) -/

/-- A faded sample is the product over 240, truncated toward zero. -/
theorem fadeSample_toInt {n : Nat} (hn : n ≤ 240) (x : Sample) : (fadeSample n x).toInt = (x.toInt * n).tdiv 240 := by
  have hx := BitVec.toInt_lt (x := x)
  have hx' := BitVec.le_toInt (x := x)
  norm_num at hx hx'
  have hn0 : (0 : Int) ≤ n := Int.natCast_nonneg n
  have hn1 : (n : Int) ≤ 240 := by exact_mod_cast hn
  have hhigh : x.toInt * n ≤ 8388607 * 240 := by nlinarith
  have hlow : -(8388608 * 240) ≤ x.toInt * n := by nlinarith
  have hsign : Int.sign 240 = 1 := rfl
  rw [fadeSample, sample_toInt]
  · rw [Int.tdiv_eq_ediv]
    generalize x.toInt * (n : Int) = p at *
    split <;> omega
  · rw [Int.tdiv_eq_ediv]
    generalize x.toInt * (n : Int) = p at *
    split <;> omega

/-- The frames of the tail, faded by how many follow them. -/
theorem frameAt_fadeTail {fs : List Frame} {i : Nat} (hi : i < fs.length) :
    frameAt (fadeTail fs) i = fadeFrame (fs.length - i) (frameAt fs i) := by
  induction fs generalizing i with
  | nil => exact absurd hi (Nat.not_lt_zero i)
  | cons x xs ih =>
    cases i with
    | zero => rfl
    | succ i =>
      have hrest := ih (Nat.lt_of_succ_lt_succ hi)
      rw [List.length_cons, Nat.add_sub_add_right]
      exact hrest

/-- The newest 240 frames of a softened memory are faded toward its end; the older ones stay. -/
theorem soften_says (fs : List Frame) :
    (soften fs).take (fs.length - 240) = fs.take (fs.length - 240) ∧
      ∀ i, fs.length - 240 ≤ i → i < fs.length → frameAt (soften fs) i = fadeFrame (fs.length - i) (frameAt fs i) := by
  have hfirst : (fs.take (fs.length - 240)).length = fs.length - 240 := by
    rw [List.length_take]
    omega
  refine ⟨?_, fun i hlow hhigh => ?_⟩
  · rw [soften, List.take_append_of_le_length (Nat.le_of_eq hfirst.symm), List.take_take, Nat.min_self]
  · have htail : i - (fs.length - 240) < (fs.drop (fs.length - 240)).length := by
      rw [List.length_drop]
      omega
    have hat : frameAt (soften fs) i = frameAt (fadeTail (fs.drop (fs.length - 240))) (i - (fs.length - 240)) := by
      simp only [frameAt, soften, List.getD_eq_getElem?_getD]
      rw [List.getElem?_append_right (by omega), hfirst]
    have hdrop : frameAt (fs.drop (fs.length - 240)) (i - (fs.length - 240)) = frameAt fs i := by
      simp only [frameAt, List.getD_eq_getElem?_getD, List.getElem?_drop]
      rw [Nat.add_sub_cancel' hlow]
    have hleft : fs.length - (fs.length - 240) - (i - (fs.length - 240)) = fs.length - i := by omega
    rw [hat, frameAt_fadeTail htail, hdrop, List.length_drop, hleft]

theorem frameAt_take {fs : List Frame} {n i : Nat} (h : i < n) : frameAt (fs.take n) i = frameAt fs i := by
  simp only [frameAt, List.getD_eq_getElem?_getD, List.getElem?_take, if_pos h]

/-- The line after a dump: its memory softened, the accumulator cleared, a fade-in pending, its state by D. -/
theorem dumped_says (target n : Nat) (d : Delay) : let e := d.dumped target n
    e.mem = soften (d.mem.take (d.depth - n)) ∧ e.acc = 0 ∧ e.fadeIn = true ∧
      (d.state = .exiting → e.state =
        if d.depth - n = 0 ∧ d.pauseNow = false then .bypass else .exiting) ∧
      (d.state.engaged = true → e.state = workOut target (d.depth - n)) := by
  have hlen : (soften (d.mem.take (d.depth - n))).length = d.depth - n := by
    rw [soften_length, List.length_take, Delay.depth]
    omega
  unfold Delay.dumped
  dsimp only
  generalize soften (d.mem.take (d.depth - n)) = kept at *
  by_cases hx : d.state = .exiting
  · rw [if_pos hx]
    have hgone : (kept.isEmpty && !d.pauseNow) = true ↔ d.depth - n = 0 ∧ d.pauseNow = false := by
      rw [Bool.and_eq_true, List.isEmpty_iff, ← List.length_eq_zero_iff, hlen]
      simp
    by_cases hg : d.depth - n = 0 ∧ d.pauseNow = false
    · rw [if_pos (hgone.2 hg)]
      exact ⟨rfl, rfl, rfl, fun _ => (if_pos hg).symm, fun he => absurd hx (engaged_ne he).2⟩
    · rw [if_neg (mt hgone.1 hg)]
      exact ⟨rfl, rfl, rfl, fun _ => hx.trans (if_neg hg).symm, fun he => absurd hx (engaged_ne he).2⟩
  · rw [if_neg hx]
    refine ⟨?_, ?_, ?_, fun h => absurd h hx, fun he => ?_⟩
    · rw [rework_only]
    · rw [rework_only]
    · rw [rework_only]
    · rw [rework_engaged (by exact he), Delay.depth, hlen]

/-- A dump taken: what it makes of the line. -/
theorem dump_taken {s : State} (hst : s.delay.state ≠ .bypass) (hprog : s.onProgramme = true) (src : DumpSource) :
    ∃ t, dump src s = (.done, t) ∧ t.delay = s.delay.dumped s.sections.station.target s.dumpCount ∧
      t = { s with delay := t.delay, log := t.log } := by
  have hok : s.dumpRefusal = .done := by rw [State.dumpRefusal, if_neg hst, if_neg (by simp [hprog])]
  unfold dump
  rw [hok]
  refine ⟨_, rfl, ?_, ?_⟩
  · rw [logDelay_only]
    rfl
  · rw [logDelay_only]
    rfl

/-- Settles O36. -/
theorem delayEngageExitAndDumpAnswer : Obligations.DelayEngageExitAndDumpAnswer := by
  unfold Obligations.DelayEngageExitAndDumpAnswer
  refine ⟨fun s => ⟨delayEngage_short, fun h ht hm hd => ?_, fun h => ?_, delayEngage_engaged⟩,
    fun s => ⟨delayExit_guard, fun hfree => ?_⟩, fun s src => ⟨fun h => ?_, fun h hoff => ?_, fun h hprog => ?_⟩⟩
  · have hun : ({ s with delay := { s.delay with state := .building, acc := 0 } } : State).safe = false :=
      engaged_unsafe ht hm hd
    obtain ⟨hdelay, hsec, honly⟩ := logDelay_changes (s := s) .request { s.delay with state := .building, acc := 0 }
    refine ⟨_, delayEngage_bypass h ht, ?_⟩
    rw [noteDelay_unsafe hun]
    refine ⟨hdelay, ?_, honly⟩
    rw [← hun]
    exact safe_eq hdelay hsec
  · rw [delayEngage_exiting h]
    refine ⟨rfl, fun hheld => ?_⟩
    have hnone : ∀ n, s.heldDump n = false := fun n => by
      have hn := List.all_eq_true.1 hheld n (by fin_cases n <;> decide)
      simpa using hn
    rw [noteDelay_idle _ _ (by exact hnone), logDelay_only]
    rfl
  · rw [delayExit_free hfree]
    have hexits : ∀ d : Delay, d.state.engaged = false →
        noteDelay .request s { s with delay := d } = logDelay .request s { s with delay := d } :=
      fun d hd => noteDelay_unsafe (safe_of_state (by exact hd)) ..
    refine ⟨fun h => if_pos h, fun h => ?_, fun h hpos => ?_, fun h hzero hnow => ?_⟩
    · rw [if_neg (by simp [h]), if_pos h]
    · obtain ⟨hdelay, -, honly⟩ := logDelay_changes (s := s) .request { s.delay with state := .exiting }
      rw [if_neg (engaged_ne h).1, if_neg (engaged_ne h).2, if_neg (by omega), hexits _ rfl]
      exact ⟨_, rfl, hdelay, honly⟩
    · obtain ⟨hdelay, -, honly⟩ := logDelay_changes (s := s) .request { s.delay with state := .bypass, acc := 0 }
      rw [if_neg (engaged_ne h).1, if_neg (engaged_ne h).2, if_pos ⟨hzero, by simp [hnow]⟩, hexits _ rfl]
      exact ⟨_, rfl, hdelay, honly⟩
  · have href : s.dumpRefusal = .notEngaged := if_pos h
    unfold dump
    rw [href]
  · have href : s.dumpRefusal = .wrongState := by rw [State.dumpRefusal, if_neg h, if_pos (by simp [hoff])]
    unfold dump
    rw [href]
  · obtain ⟨t, hdump, hdelay, honly⟩ := dump_taken h hprog src
    obtain ⟨hmem, hacc, hfade, hexit, heng⟩ := dumped_says s.sections.station.target s.dumpCount s.delay
    rw [← hdelay] at hmem hacc hfade hexit heng
    intro e kept
    have hkept : s.delay.depth - s.dumpCount = kept := rfl
    rw [hkept] at hmem hexit heng
    have hle : kept ≤ s.delay.mem.length := Nat.sub_le ..
    clear_value kept
    have hlen : (s.delay.mem.take kept).length = kept := by rw [List.length_take, Nat.min_eq_left hle]
    obtain ⟨hold, hnew⟩ := soften_says (s.delay.mem.take kept)
    rw [hlen, ← hmem] at hold
    rw [hlen, ← hmem] at hnew
    refine ⟨t, hdump, by rw [hmem, soften_length, hlen], ?_, fun i hlow hhigh => ?_, hacc, hfade, hexit, fun hne => ?_, honly⟩
    · rw [hold, List.take_take, Nat.min_eq_left (Nat.sub_le ..)]
    · rw [hnew i hlow hhigh, frameAt_take hhigh]
      exact ⟨fadeSample_toInt (by omega) _, fadeSample_toInt (by omega) _⟩
    · refine heng ?_
      revert h hne
      cases s.delay.state <;> simp [DelayState.engaged]

end Sys2Proof.Machine


/-! # The mix, the returns and the air block (R88, R92 to R98, R103, R154, R157). -/

namespace Sys2Proof.Machine

open Sys2Proof

/-! ## Sample arithmetic -/

theorem saturate_toInt (v : Int) : (saturate v).toInt = max (-8388608) (min 8388607 v) := by
  unfold saturate
  split
  · rw [sample_toInt] <;> omega
  · split <;> rw [sample_toInt] <;> omega

/-- A sample under a gain at most unity stays in 38 bits. -/
theorem product_bounds (x : Sample) {g : Nat} (hg : g ≤ 32768) :
    -274877906944 ≤ x.toInt * (g : Int) ∧ x.toInt * (g : Int) ≤ 274877906944 := by
  obtain ⟨hlow, hhigh⟩ := sample_bounds x
  have hg0 : (0 : Int) ≤ g := Int.natCast_nonneg g
  have hg1 : (g : Int) ≤ 32768 := by exact_mod_cast hg
  constructor <;> nlinarith

/-- A sample scaled by a gain at most unity is a sample. -/
theorem scaled_bounds (x : Sample) {g : Nat} (hg : g ≤ 32768) :
    -8388608 ≤ x.toInt * (g : Int) / 32768 ∧ x.toInt * (g : Int) / 32768 ≤ 8388607 := by
  obtain ⟨hlow, hhigh⟩ := sample_bounds x
  have hg0 : (0 : Int) ≤ g := Int.natCast_nonneg g
  have hg1 : (g : Int) ≤ 32768 := by exact_mod_cast hg
  have h1 : -8388608 * 32768 ≤ x.toInt * (g : Int) := by nlinarith
  have h2 : x.toInt * (g : Int) ≤ 8388607 * 32768 := by nlinarith
  generalize x.toInt * (g : Int) = p at *
  omega

theorem frameAt_makeBlock (f : Nat → Frame) {i : Nat} (hi : i < 240) : frameAt (makeBlock f) i = f i :=
  makeBlock_getD f _ i hi

theorem sampleAt_makeBlock (f : Nat → Sample) {i : Nat} (hi : i < 240) : sampleAt (makeBlock f) i = f i :=
  makeBlock_getD f _ i hi

theorem frameAt_silentBlock {i : Nat} (hi : i < 240) : frameAt silentBlock i = Frame.silence := frameAt_makeBlock _ hi

/-! ## The programme mix (R92, R93) -/

/-- A caller's product, its sample 0 while its framing is LOST. -/
theorem callerProduct_eq (s : State) (n : LineNo) (i : Nat) : s.callerProduct n i =
    if (s.line n).framingGood then
      (sampleAt (s.mixer.input.callers.get n) i).toInt * ((s.mixer.line.get n).blk : Int) else 0 := by
  unfold State.callerProduct State.callerSample State.line
  split
  · rfl
  · exact Int.zero_mul _

/-- The sums lie within ±2⁴¹ when no gain is above unity. -/
theorem sums_bounds {s : State} (hd : ∀ d, (s.mixer.deckRamp.get d).blk ≤ 32768) (hs : s.mixer.studio.blk ≤ 32768)
    (hf : s.mixer.fill.blk ≤ 32768) (hl : ∀ n, (s.mixer.line.get n).blk ≤ 32768) (i : Nat) :
    -(2 ^ 41) ≤ (s.sums i).1 ∧ (s.sums i).1 ≤ 2 ^ 41 ∧ -(2 ^ 41) ≤ (s.sums i).2 ∧ (s.sums i).2 ≤ 2 ^ 41 := by
  have ha : s.mixer.deckRamp.a.blk ≤ 32768 := hd .a
  have hb : s.mixer.deckRamp.b.blk ≤ 32768 := hd .b
  have hcaller : ∀ n, -274877906944 ≤ s.callerProduct n i ∧ s.callerProduct n i ≤ 274877906944 :=
    fun n => product_bounds _ (hl n)
  have h0 := hcaller 0
  have h1 := hcaller 1
  have h2 := hcaller 2
  have h3 := hcaller 3
  have xa := product_bounds (frameAt s.mixer.deckFrames.a i).l ha
  have ya := product_bounds (frameAt s.mixer.deckFrames.a i).r ha
  have xb := product_bounds (frameAt s.mixer.deckFrames.b i).l hb
  have yb := product_bounds (frameAt s.mixer.deckFrames.b i).r hb
  have xs := product_bounds (frameAt s.mixer.input.studio i).l hs
  have ys := product_bounds (frameAt s.mixer.input.studio i).r hs
  have xf := product_bounds (frameAt s.decks.fillBlock i).l hf
  have yf := product_bounds (frameAt s.decks.fillBlock i).r hf
  simp only [State.sums, stereoProduct]
  norm_num
  omega

/-- A frame of the mix is the sums over 32,768 with floor, saturated. -/
theorem mixBlock_frame (s : State) {i : Nat} (hi : i < 240) :
    (frameAt s.mixBlock i).l.toInt = max (-8388608) (min 8388607 ((s.sums i).1 / 32768)) ∧
      (frameAt s.mixBlock i).r.toInt = max (-8388608) (min 8388607 ((s.sums i).2 / 32768)) := by
  rw [State.mixBlock, frameAt_makeBlock _ hi]
  exact ⟨saturate_toInt _, saturate_toInt _⟩

/-! ## The returns (R88, R94) -/

section Returns

variable (s : State) (air : List Frame) (n : LineNo)

theorem returnOf_length : (s.returnOf air n).length = 240 := by
  unfold State.returnOf
  split
  · exact makeBlock_length _
  · exact makeBlock_length _
  · exact makeBlock_length _
  all_goals exact makeBlock_length _

variable {n}

theorem returnOf_onAir (h : (s.line n).atStart = .onAir) : s.returnOf air n = s.mixMinus n := by
  unfold State.line at h
  unfold State.returnOf
  rw [h]

theorem returnOf_hold (h : (s.line n).atStart = .screening ∨ (s.line n).atStart = .hold) :
    s.returnOf air n = holdFeed s.callers.holdGain air := by
  unfold State.line at h
  unfold State.returnOf
  rcases h with h | h <;> rw [h]

theorem returnOf_silent
    (h : (s.line n).atStart = .idle ∨ (s.line n).atStart = .clearing ∨ (s.line n).atStart = .outOfService) :
    s.returnOf air n = makeBlock (fun _ => 0) := by
  unfold State.line at h
  unfold State.returnOf
  rcases h with h | h | h <;> rw [h]

/-- The return of each line by its state at the start of the block that ends. -/
theorem returnOf_says {i : Nat} (hi : i < 240) : let z := (sampleAt (s.returnOf air n) i).toInt
    let x := frameAt air i
    let h : Int := s.callers.holdGain
    ((s.line n).atStart = .onAir → z = max (-8388608) (min 8388607
      (((s.sums i).1 - s.callerProduct n i + ((s.sums i).2 - s.callerProduct n i)) / 65536))) ∧
    ((s.line n).atStart = .screening ∨ (s.line n).atStart = .hold → h ≤ 32768 →
      z = (x.l.toInt * h + x.r.toInt * h) / 65536) ∧
    ((s.line n).atStart = .idle ∨ (s.line n).atStart = .clearing ∨ (s.line n).atStart = .outOfService → z = 0) := by
  intro z x h
  refine ⟨fun hst => ?_, fun hst hh => ?_, fun hst => ?_⟩
  · show (sampleAt (s.returnOf air n) i).toInt = _
    rw [returnOf_onAir s air hst, State.mixMinus, sampleAt_makeBlock _ hi]
    exact saturate_toInt _
  · have hg : s.callers.holdGain ≤ 32768 := Int.ofNat_le.1 hh
    have hl := scaled_bounds x.l hg
    have hr := scaled_bounds x.r hg
    show (sampleAt (s.returnOf air n) i).toInt = _
    rw [returnOf_hold s air hst, holdFeed, sampleAt_makeBlock _ hi, sample_toInt]
    · show -8388608 ≤ (x.l.toInt * (s.callers.holdGain : Int) + x.r.toInt * (s.callers.holdGain : Int)) / 65536
      generalize x.l.toInt * (s.callers.holdGain : Int) = a at *
      generalize x.r.toInt * (s.callers.holdGain : Int) = b at *
      omega
    · show (x.l.toInt * (s.callers.holdGain : Int) + x.r.toInt * (s.callers.holdGain : Int)) / 65536 ≤ 8388607
      generalize x.l.toInt * (s.callers.holdGain : Int) = a at *
      generalize x.r.toInt * (s.callers.holdGain : Int) = b at *
      omega
  · show (sampleAt (s.returnOf air n) i).toInt = _
    rw [returnOf_silent s air hst, sampleAt_makeBlock _ hi]
    rfl

end Returns

theorem runOutBegins_returns (s : State) : (runOutBegins s).mixer.returns = s.mixer.returns := by
  unfold runOutBegins
  split
  · rfl
  · split
    · split <;> rfl
    · rfl

/-- A line as a block begins: its state is taken for the returns. -/
theorem blockBegins_line (g : Nat) (c : Callers) (n : LineNo) : ((c.blockBegins g).line.get n).atStart = (c.line.get n).state ∧
    ((c.blockBegins g).line.get n).state = (c.line.get n).state := by
  unfold Callers.blockBegins
  rw [Four.get_map]
  exact ⟨rfl, rfl⟩

/-- Settles O21. -/
theorem mixSumsStayExact : Obligations.MixSumsStayExact := by
  unfold Obligations.MixSumsStayExact
  refine ⟨fun s i => ?_, fun s input => ?_, fun s hd hs hf hl i => ?_⟩
  · dsimp only
    rw [← callerProduct_eq, ← callerProduct_eq, ← callerProduct_eq, ← callerProduct_eq]
    exact ⟨rfl, rfl⟩
  · have hout : (runOutBegins (stepRamps (advanceTime (completeBlock s)))).mixer.output = s.mixBlock := by
      rw [runOutBegins_output]
      exact congrArg Mixer.output (completeBlock_mixer s)
    have hreturns : (runOutBegins (stepRamps (advanceTime (completeBlock s)))).mixer.returns =
        Four.ofFn (fun n => s.returnOf s.airFrames n) := by
      rw [runOutBegins_returns]
      exact congrArg Mixer.returns (completeBlock_mixer s)
    have hblock := beginBlock_airBlock input s.airBlockNow.flags (advanceTime (completeBlock s))
    have hair : (advanceTime (completeBlock s)).air.block = some s.airBlockNow :=
      congrArg Air.block (completeBlock_air s)
    have hcallers : (advanceTime (completeBlock s)).callers = s.callers := by rw [boundary_only]
    have hsections : (advanceTime (completeBlock s)).sections = s.sections := by rw [boundary_only]
    refine ⟨_, completes_blockBoundary input s, ?_⟩
    generalize advanceTime (completeBlock s) = u at *
    rw [beginBlock_only]
    refine ⟨hout, ⟨s.airBlockNow, hblock.trans hair, rfl⟩, ?_, fun n => ?_⟩
    · show u.sections.callers.holdGain = _
      rw [hsections]
    · obtain ⟨hstart, hstate⟩ := blockBegins_line u.sections.callers.holdGain u.callers n
      have hline : ∀ i : Nat, Four.get (runOutBegins (stepRamps u)).mixer.returns n = s.returnOf s.airFrames n := fun _ => by
        rw [hreturns, Four.get_ofFn]
      refine ⟨hstart.trans hstate.symm, hstate.trans (by rw [hcallers]; rfl), ?_, fun i hi => ?_⟩
      · exact (congrArg List.length (hline 0)).trans (returnOf_length ..)
      · have h := returnOf_says s s.airFrames (n := n) hi
        rw [← hline i, callerProduct_eq] at h
        exact h
  · obtain ⟨h1, h2, h3, h4⟩ := sums_bounds hd hs hf hl i
    exact ⟨h1, h2, h3, h4, fun hi => mixBlock_frame s hi⟩

/-! ## The alert block (R154, R157) -/

/-- The tone stays within a quarter of full scale. -/
theorem toneSample_bounds {i : Nat} (hi : i < 48) : -2097152 ≤ toneSample i ∧ toneSample i ≤ 2097152 := by
  have hall : ∀ j : Fin 48, -2097152 ≤ toneSample j.val ∧ toneSample j.val ≤ 2097152 := by decide
  exact hall ⟨i, hi⟩

/-- A sample of tone or recording under a gain at most unity stays a sample. -/
theorem gained_bounds {x : Int} (h : -8388608 ≤ x ∧ x ≤ 8388607) {g : Nat} (hg : g ≤ 32768) :
    -8388608 ≤ x * (g : Int) / 32768 ∧ x * (g : Int) / 32768 ≤ 8388607 := by
  have hx : (BitVec.ofInt 24 x).toInt = x := sample_toInt x h.1 h.2
  have hb := scaled_bounds (BitVec.ofInt 24 x) hg
  rwa [hx] at hb

theorem fadeOut_toInt (x : Sample) {i : Nat} (hi : i < 240) :
    (fadeOutSample x i).toInt = (x.toInt * (239 - (i : Int))).tdiv 240 := by
  obtain ⟨hlow, hhigh⟩ := sample_bounds x
  have hi0 : (0 : Int) ≤ 239 - (i : Int) := by omega
  have hi1 : 239 - (i : Int) ≤ 239 := by omega
  have h1 : -(8388608 * 239) ≤ x.toInt * (239 - (i : Int)) := by nlinarith
  have h2 : x.toInt * (239 - (i : Int)) ≤ 8388607 * 239 := by nlinarith
  have hsign : Int.sign 240 = 1 := rfl
  rw [fadeOutSample]
  generalize x.toInt * (239 - (i : Int)) = p at *
  rw [sample_toInt]
  · rw [Int.tdiv_eq_ediv]
    split <;> omega
  · rw [Int.tdiv_eq_ediv]
    split <;> omega

section Alert

variable {s : State} {i : Nat}

/-- The mono sample at the alert gain, with floor. -/
theorem alertSample_toInt (hg : s.airing.gain.blk ≤ 32768)
    (hx : -8388608 ≤ s.airingSample i ∧ s.airingSample i ≤ 8388607) :
    (s.alertSample i).toInt = s.airingSample i * (s.airing.gain.blk : Int) / 32768 := by
  obtain ⟨hlow, hhigh⟩ := gained_bounds hx hg
  rw [State.alertSample, sample_toInt _ hlow hhigh]

theorem airingSample_tone (h : s.airing.given < s.airing.tone) : s.airingSample i = toneSample (i % 48) := if_pos h

theorem airingSample_recording {e : EntryNo} {k : SlotId} (h : s.airing.tone ≤ s.airing.given)
    (he : s.airing.entry = some e) (hk : (s.entry e).slot = some k) : s.airingSample i =
      (sampleAt (s.alerts.slot.get k) ((s.airing.given - s.airing.tone) * 240 + i)).toInt := by
  have hsamples : s.airingSamples = s.alerts.slot.get k := by
    unfold State.airingSamples
    unfold State.entry at hk
    rw [he]
    dsimp only
    rw [hk]
  rw [State.airingSample, if_neg (Nat.not_lt.2 h), hsamples]

theorem silence_toInt : Frame.silence.l.toInt = 0 ∧ Frame.silence.r.toInt = 0 := by decide

theorem alertBlock_frame (hi : i < 240) : frameAt (s.sourceBlock .alert) i =
    if s.airing.state = .tone ∨ s.airing.state = .message then Frame.mono (s.alertSample i)
    else if s.airing.state = .fade then Frame.mono (fadeOutSample (s.alertSample i) i) else Frame.silence := by
  show frameAt s.alertBlock i = _
  unfold State.alertBlock
  cases s.airing.state <;> exact frameAt_makeBlock _ hi

/-- A frame of the alert block, its mono sample given. -/
theorem alertBlock_says (hi : i < 240) (hg : s.airing.gain.blk ≤ 32768) {x : Int} (hsample : s.airingSample i = x)
    (hx : -8388608 ≤ x ∧ x ≤ 8388607) : let out := frameAt (s.sourceBlock .alert) i
    let g : Int := s.airing.gain.blk
    out.l = out.r ∧ (s.airing.state = .tone ∨ s.airing.state = .message → out.l.toInt = x * g / 32768) ∧
      (s.airing.state = .fade → out.l.toInt = (x * g / 32768 * (239 - i)).tdiv 240) ∧
      (s.airing.state = .idle ∨ s.airing.state = .gap → out.l.toInt = 0) := by
  have halert := alertSample_toInt (i := i) hg (by rw [hsample]; exact hx)
  rw [hsample] at halert
  intro out g
  have hout : out = _ := alertBlock_frame hi
  clear_value out
  refine ⟨?_, fun h => ?_, fun h => ?_, fun h => ?_⟩
  · rw [hout]
    split_ifs <;> rfl
  · rw [hout, if_pos h]
    exact halert
  · rw [hout, if_neg (by simp [h]), if_pos h, ← halert]
    exact fadeOut_toInt _ hi
  · rw [hout, if_neg (by rcases h with h | h <;> simp [h]), if_neg (by rcases h with h | h <;> simp [h])]
    exact silence_toInt.1

end Alert

/-! ## The air block (R95, R96, R103) -/

section Air

variable (s : State) {i : Nat}

/-- A frame of the rescue reader under the fill gain. -/
theorem rescueBlock_says (hi : i < 240) (hg : s.mixer.fillGain.blk ≤ 32768) :
    let x := frameAt s.rescueFrames i
    let g : Int := s.mixer.fillGain.blk
    (frameAt (s.sourceBlock .rescue) i).l.toInt = x.l.toInt * g / 32768 ∧
      (frameAt (s.sourceBlock .rescue) i).r.toInt = x.r.toInt * g / 32768 := by
  intro x g
  have hout : frameAt (s.sourceBlock .rescue) i = ⟨BitVec.ofInt 24 (scaled x.l s.mixer.fillGain.blk),
      BitVec.ofInt 24 (scaled x.r s.mixer.fillGain.blk)⟩ := frameAt_makeBlock _ hi
  have hl := scaled_bounds x.l hg
  have hr := scaled_bounds x.r hg
  rw [hout]
  exact ⟨sample_toInt _ hl.1 hl.2, sample_toInt _ hr.1 hr.2⟩

theorem airFrames_plain (hi : i < 240) (hc : s.air.crossfade = none) (hf : s.air.fading = false) :
    frameAt s.airFrames i = frameAt (s.sourceBlock s.air.now) i := by
  unfold State.airFrames
  rw [hc, hf]
  exact frameAt_makeBlock _ hi

/-- With a return fade the rescue reader's frames are added at the fade's gain, saturated. -/
theorem airFrames_fading (hi : i < 240) (hc : s.air.crossfade = none) (hf : s.air.fading = true) :
    let here := frameAt (s.sourceBlock s.air.now) i
    let r := frameAt s.rescueFrames i
    let g : Int := s.air.fade.blk
    (frameAt s.airFrames i).l.toInt = max (-8388608) (min 8388607 (here.l.toInt + r.l.toInt * g / 32768)) ∧
      (frameAt s.airFrames i).r.toInt = max (-8388608) (min 8388607 (here.r.toInt + r.r.toInt * g / 32768)) := by
  have hout : frameAt s.airFrames i = frameAt (s.overlay (s.sourceBlock s.air.now)) i := by
    unfold State.airFrames
    rw [hc, hf]
    rfl
  rw [hout, State.overlay, frameAt_makeBlock _ hi]
  exact ⟨saturate_toInt _, saturate_toInt _⟩

/-- In a crossfade block each sample is the floor of the mean of the two sources. -/
theorem airFrames_crossfade (hi : i < 240) {c : Crossfade} (hc : s.air.crossfade = some c) :
    (frameAt s.airFrames i).l.toInt =
        ((frameAt (s.departing c) i).l.toInt + (frameAt (s.sourceBlock s.air.now) i).l.toInt) / 2 ∧
      (frameAt s.airFrames i).r.toInt =
        ((frameAt (s.departing c) i).r.toInt + (frameAt (s.sourceBlock s.air.now) i).r.toInt) / 2 := by
  unfold State.airFrames
  rw [hc]
  dsimp only
  rw [frameAt_makeBlock _ hi]
  exact ⟨mean_toInt .., mean_toInt ..⟩

theorem departing_sounding (s : State) (src : AirSource) : s.departing ⟨src, true, false⟩ = s.sourceBlock src := by
  unfold State.departing
  rw [if_neg Bool.false_ne_true, if_pos rfl]

end Air

/-- Settles O35. -/
theorem airBlockFollowsTheSwitch : Obligations.AirBlockFollowsTheSwitch := by
  unfold Obligations.AirBlockFollowsTheSwitch
  refine ⟨⟨by decide, fun i hi => ?_, fun i hi => ?_⟩, fun s i hi hg => ?_, fun s => ⟨rfl, fun out hout => ?_, ?_⟩,
    fun s i hi => ?_⟩
  · have hall : ∀ j : Fin 25, toneSample (24 - j.val) = toneSample j.val := by decide
    exact hall ⟨i, Nat.lt_succ_of_le hi⟩
  · have hall : ∀ j : Fin 24, toneSample (j.val + 24) = -toneSample j.val := by decide
    exact hall ⟨i, hi⟩
  · refine ⟨fun h => ?_, fun e k h he hk => ?_⟩
    · have htone := toneSample_bounds (Nat.mod_lt i (show 0 < 48 by decide))
      exact alertBlock_says hi hg (airingSample_tone h) ⟨by omega, by omega⟩
    · exact alertBlock_says hi hg (airingSample_recording h he hk) (sample_bounds _)
  · show s.delay.out.getD silentBlock = out
    rw [hout]
    rfl
  · exact fun i hi hg => rescueBlock_says s hi hg
  · refine ⟨airFrames_plain s hi, airFrames_fading s hi, fun src hc => ?_, fun src hc => ?_⟩
    · have h := airFrames_crossfade s hi hc
      rw [departing_sounding] at h
      exact h
    have h := airFrames_crossfade s hi hc
    have haway : s.departing ⟨src, false, false⟩ = silentBlock := rfl
    rw [haway, frameAt_silentBlock hi, silence_toInt.1, silence_toInt.2, Int.zero_add, Int.zero_add] at h
    exact h

end Sys2Proof.Machine


/-! # Caller lines: presence, framing, requests and buttons (O32, O33) -/

namespace Sys2Proof.Machine

open Sys2Proof

section Clearing
variable {s : State} {n : LineNo}

/-- A line as it enters CLEARING. -/
def Line.clears (now : Time) (l : Line) : Line :=
  { l with state := .clearing, since := now, heldForAlert := false, clearing := 2 }

/-- The part as a line enters CLEARING, before its gain and its log entry. -/
def State.clears (n : LineNo) (s : State) : State :=
  { s with callers := { s.callers.without n with line := s.callers.line.set n ((s.line n).clears s.time) } }

@[simp] theorem clears_line_self (n : LineNo) (s : State) : (s.clears n).line n = (s.line n).clears s.time :=
  Four.get_set_self _ _ _
theorem clears_line_ne (s : State) {n m : LineNo} (h : m ≠ n) : (s.clears n).line m = s.line m := Four.get_set_ne _ _ h

theorem toClearing_quiet (c : CallerCause) (h : (s.line n).state ≠ .onAir) :
    toClearing n c s = handLog (callerEntry n (s.line n).state c (s.clears n)) (s.clears n) := by
  unfold toClearing
  extract_lets l calls s1 s2
  have h2 : s2 = s1 := if_neg h
  rw [h2]
  rfl

/-- A line on air fades over 2 blocks as it leaves. -/
theorem toClearing_onAir (c : CallerCause) (h : (s.line n).state = .onAir) :
    toClearing n c s = handLog (callerEntry n .onAir c (s.clears n)) ((s.clears n).rampLine n 0 2) := by
  unfold toClearing
  extract_lets l calls s1 s2
  have h2 : s2 = s1.rampLine n 0 2 := if_pos h
  have hl : l.state = .onAir := h
  rw [h2, hl]
  rfl

theorem toClearing_callers (n : LineNo) (c : CallerCause) (s : State) : (toClearing n c s).callers = (s.clears n).callers := by
  by_cases h : (s.line n).state = .onAir
  · rw [toClearing_onAir c h]
    rfl
  · rw [toClearing_quiet c h]
    rfl

theorem toClearing_line_self (n : LineNo) (c : CallerCause) (s : State) :
    (toClearing n c s).line n = (s.line n).clears s.time := by
  rw [State.line, toClearing_callers]
  exact clears_line_self n s

theorem toClearing_line_ne (c : CallerCause) (s : State) {m : LineNo} (h : m ≠ n) :
    (toClearing n c s).line m = s.line m := by
  rw [State.line, toClearing_callers]
  exact clears_line_ne s h

theorem rampLine_mixer_self (n : LineNo) (g len : Nat) (s : State) :
    (s.rampLine n g len).mixer.line.get n = (s.mixer.line.get n).start g len := Four.get_set_self _ _ _

theorem rampLine_mixer_ne (g len : Nat) (s : State) {m : LineNo} (h : m ≠ n) :
    (s.rampLine n g len).mixer.line.get m = s.mixer.line.get m := Four.get_set_ne _ _ h

end Clearing

/-! ## Presence and framing (R76 to R78) -/

section Presence
variable {s : State} {n : LineNo}

/-- What a line's entry to SCREENING leaves as it was. -/
theorem toScreening_only (n : LineNo) (s : State) : toScreening n s = { s with
    callers := { s.callers with line := (toScreening n s).callers.line }, log := (toScreening n s).log } := rfl

theorem toScreening_line_self (n : LineNo) (s : State) : (toScreening n s).line n = { s.line n with
    state := .screening, tag := (s.sections.callers.lines.get n).tag, since := s.time, heldForAlert := false,
    remembered := false } := Four.get_set_self _ _ _

theorem toScreening_line_ne (s : State) {m : LineNo} (h : m ≠ n) : (toScreening n s).line m = s.line m :=
  Four.get_set_ne _ _ h

theorem toService_only (n : LineNo) (s : State) : toService n s = { s with
    callers := { s.callers with line := (toService n s).callers.line }, log := (toService n s).log } := rfl

theorem toService_line_self (n : LineNo) (s : State) :
    (toService n s).line n = { s.line n with state := .idle, since := s.time, oos := false } := Four.get_set_self _ _ _

theorem toService_line_ne (s : State) {m : LineNo} (h : m ≠ n) : (toService n s).line m = s.line m :=
  Four.get_set_ne _ _ h

theorem completes_presenceRise (h : (s.line n).presence = false) : Completes (.presenceRise n) s (presenceRise n s) := by
  unfold Completes
  show execPresenceRise n s = _
  rw [execPresenceRise, h, if_neg Bool.false_ne_true]

theorem completes_presenceFall (h : (s.line n).presence = true) : Completes (.presenceFall n) s (presenceFall n s) := by
  unfold Completes
  show execPresenceFall n s = _
  rw [execPresenceFall, if_pos h]

theorem completes_framingLost (h : (s.line n).framingGood = true) : Completes (.framingLost n) s (framingLost n s) := by
  unfold Completes
  show execFramingLost n s = _
  rw [execFramingLost, if_pos h]

theorem completes_framingRegained (h : (s.line n).framingGood = false) :
    Completes (.framingRegained n) s (framingRegained n s) := by
  unfold Completes
  show execFramingRegained n s = _
  rw [execFramingRegained, h, if_neg Bool.false_ne_true]

theorem completes_clearingEnd (h : (s.line n).state = .clearing) (h0 : (s.line n).clearing = 0) :
    Completes (.clearingEnd n) s (clearingEnd n s) := by
  unfold Completes
  show execClearingEnd n s = _
  rw [execClearingEnd, if_pos ⟨h, h0⟩]

theorem presenceRise_idle (h : (s.line n).state = .idle) :
    presenceRise n s = toScreening n (s.setLine n { s.line n with presence := true }) := by
  unfold presenceRise
  dsimp only
  rw [h]

theorem presenceRise_clearing (h : (s.line n).state = .clearing) :
    presenceRise n s = s.setLine n { s.line n with presence := true, remembered := true } := by
  unfold presenceRise
  dsimp only
  rw [h]

theorem presenceFall_onAir (h : (s.line n).state = .onAir) :
    presenceFall n s = toClearing n .presence (s.setLine n { s.line n with presence := false, remembered := false }) := by
  unfold presenceFall
  extract_lets l s'
  have hl : l.state.call = true := by
    show (s.line n).state.call = true
    rw [h]
    rfl
  rw [if_pos hl]

theorem framingRegained_out (h : (s.line n).state = .outOfService) :
    framingRegained n s = toService n (s.setLine n { s.line n with framingGood := true }) := if_pos h

/-- The raising of R78. -/
def lineFault (n : LineNo) : Raising := ⟨.lineFault, .callerUnit, BitVec.ofNat 64 (n.val + 1), 0, 0, zeros16⟩

theorem framingLost_idle (h : (s.line n).state = .idle) :
    framingLost n s = toClearing n .framing
      ((raise (lineFault n) s).setLine n { s.line n with framingGood := false, oos := true }) := by
  have hline : (raise (lineFault n) s).line n = s.line n := raise_line ..
  have heq : framingLost n s = if ((raise (lineFault n) s).line n).state.call || ((raise (lineFault n) s).line n).state == .idle
      then toClearing n .framing ((raise (lineFault n) s).setLine n
        { (raise (lineFault n) s).line n with framingGood := false, oos := true })
      else (raise (lineFault n) s).setLine n
        { (raise (lineFault n) s).line n with framingGood := false, oos := true } := rfl
  rw [heq, hline, h]
  rfl

/-- A line just out of CLEARING, before framing or a remembered rise takes it on. -/
def State.clearedLine (n : LineNo) (s : State) : State :=
  let s1 := s.setLine n { s.line n with
    state := if (s.line n).oos then .outOfService else .idle, tag := none, since := s.time, remembered := false }
  handLog (callerEntry n (s.line n).state .cleared s1) s1

theorem clearedLine_line_self (n : LineNo) (s : State) : (s.clearedLine n).line n = { s.line n with
    state := if (s.line n).oos then .outOfService else .idle, tag := none, since := s.time, remembered := false } :=
  Four.get_set_self _ _ _

theorem clearedLine_line_ne (s : State) {m : LineNo} (h : m ≠ n) : (s.clearedLine n).line m = s.line m :=
  Four.get_set_ne _ _ h

theorem clearedLine_only (n : LineNo) (s : State) : s.clearedLine n = { s with
    callers := { s.callers with line := (s.clearedLine n).callers.line }, log := (s.clearedLine n).log } := rfl

/-- The three ways on from CLEARING (R76 to R78). -/
theorem clearingEnd_eq (n : LineNo) (s : State) : clearingEnd n s =
    if (s.line n).oos then (if (s.line n).framingGood then toService n (s.clearedLine n) else s.clearedLine n)
    else if (s.line n).remembered then toScreening n (s.clearedLine n) else s.clearedLine n := rfl

/-- Where clearing ends, the state and the marks follow the fault and the remembered rise. -/
theorem clearingEnd_says (n : LineNo) (s : State) :
    ((clearingEnd n s).line n).state =
        (if (s.line n).oos then (if (s.line n).framingGood then .idle else .outOfService)
          else if (s.line n).remembered then .screening else .idle) ∧
      ((clearingEnd n s).line n).remembered = false ∧
      ((s.line n).oos = true → ((clearingEnd n s).line n).tag = none) ∧
      (∀ m, m ≠ n → (clearingEnd n s).line m = s.line m) ∧
      clearingEnd n s = { s with
        callers := { s.callers with line := (clearingEnd n s).callers.line }, log := (clearingEnd n s).log } := by
  rw [clearingEnd_eq]
  have hself := clearedLine_line_self n s
  have hne := fun m (h : m ≠ n) => clearedLine_line_ne s h
  cases ho : (s.line n).oos
  · rw [ho] at hself
    cases hr : (s.line n).remembered
    · exact ⟨by rw [if_neg Bool.false_ne_true, if_neg Bool.false_ne_true, hself]; rfl,
        by rw [if_neg Bool.false_ne_true, if_neg Bool.false_ne_true, hself], fun hc => absurd hc Bool.false_ne_true,
        fun m h => hne m h, clearedLine_only n s⟩
    · exact ⟨by simp [toScreening_line_self], by simp [toScreening_line_self], fun hc => absurd hc Bool.false_ne_true,
        fun m h => (toScreening_line_ne _ h).trans (hne m h), rfl⟩
  · rw [ho] at hself
    cases hf : (s.line n).framingGood
    · exact ⟨by simp [hself], by simp [hself], fun _ => by simp [hself], fun m h => hne m h, clearedLine_only n s⟩
    · exact ⟨by simp [toService_line_self], by simp [toService_line_self, hself], fun _ => by simp [toService_line_self, hself],
        fun m h => (toService_line_ne _ h).trans (hne m h), rfl⟩

end Presence

/-- Settles O32. -/
theorem linesFollowPresenceAndFraming : Obligations.LinesFollowPresenceAndFraming := by
  unfold Obligations.LinesFollowPresenceAndFraming
  refine ⟨fun s n => ⟨fun hp hst => ?_, fun hp hst => ?_, fun hp hst => ?_⟩,
    fun s n => ⟨fun hf hst => ?_, fun hst h0 => ?_, fun hf hst => ?_⟩⟩
  · refine ⟨_, completes_presenceRise hp, ?_⟩
    rw [presenceRise_idle hst, toScreening_line_self, State.line_setLine_self]
    exact ⟨rfl, rfl, rfl, rfl, rfl, rfl, rfl,
      fun m hm => (toScreening_line_ne _ hm).trans (s.line_setLine_ne _ hm), rfl⟩
  · exact presenceRise_clearing hst ▸ completes_presenceRise hp
  · refine ⟨_, completes_presenceFall hp, ?_⟩
    have hs' : ((s.setLine n { s.line n with presence := false, remembered := false }).line n).state = .onAir := by
      rw [State.line_setLine_self]
      exact hst
    rw [presenceFall_onAir hst, toClearing_line_self, State.line_setLine_self]
    refine ⟨rfl, rfl, by rw [toClearing_callers]; rfl, ?_, ?_,
      fun m hm => (toClearing_line_ne _ _ hm).trans (s.line_setLine_ne _ hm), ?_⟩
    · rw [toClearing_onAir _ hs', handLog_mixer, rampLine_mixer_self]
      rfl
    · rw [toClearing_onAir _ hs', handLog_mixer, rampLine_mixer_self]
      rfl
    · rw [toClearing_onAir _ hs']
      rfl
  · refine ⟨_, completes_framingLost hf, ?_⟩
    have hs' : (((raise (lineFault n) s).setLine n { s.line n with framingGood := false, oos := true }).line n).state
        = .idle := by
      rw [State.line_setLine_self]
      exact hst
    rw [framingLost_idle hst, toClearing_line_self, State.line_setLine_self]
    refine ⟨rfl, rfl, rfl, rfl, fun m hm => ?_, ?_⟩
    · rw [toClearing_line_ne _ _ hm, State.line_setLine_ne _ _ hm, raise_line]
    · rw [toClearing_quiet _ (by rw [hs']; decide), hs']
      rfl
  · obtain ⟨hstate, hrem, htag, hne, honly⟩ := clearingEnd_says n s
    refine ⟨_, completes_clearingEnd hst h0, hstate, hrem, htag, ?_, ?_, hne, ?_⟩
    · rw [honly]
    · rw [honly]
    · rw [honly]
  · refine ⟨_, completes_framingRegained hf, ?_⟩
    rw [framingRegained_out hst, toService_line_self, State.line_setLine_self]
    exact ⟨rfl, rfl, rfl, fun m hm => (toService_line_ne _ hm).trans (s.line_setLine_ne _ hm), rfl, rfl⟩

/-! ## Requests and buttons (R79 to R85) -/

section Requests
variable {s : State} {w p : Word} {n : LineNo}

theorem lineOf_none (h : w = 0 ∨ 4 < w.toNat) : lineOf w = none := by
  have hne : ∀ k : Word, 1 ≤ k.toNat → k.toNat ≤ 4 → w ≠ k := by
    rintro k hk1 hk4 rfl
    rcases h with rfl | h
    · exact absurd hk1 (by decide)
    · omega
  rw [lineOf, if_neg (hne 1 (by decide) (by decide)), if_neg (hne 2 (by decide) (by decide)),
    if_neg (hne 3 (by decide) (by decide)), if_neg (hne 4 (by decide) (by decide))]

theorem callerHold_screening (hl : lineOf w = some n) (h : (s.line n).state = .screening) :
    (callerHold w s).1 = .done ∧ ((callerHold w s).2.line n).state = .hold ∧
      (callerHold w s).2.callers.queue = s.callers.queue ++ [n] ∧ (callerHold w s).2.mixer = s.mixer := by
  unfold callerHold
  rw [hl]
  dsimp only
  rw [h]
  exact ⟨rfl, congrArg Line.state (Four.get_set_self ..), rfl, rfl⟩

theorem callerHold_onAir (hl : lineOf w = some n) (h : (s.line n).state = .onAir) :
    callerHold w s = (.done, holdGroup false false .request [n] s) := by
  unfold callerHold
  rw [hl]
  dsimp only
  rw [h]

theorem callerHold_hold (hl : lineOf w = some n) (h : (s.line n).state = .hold) :
    callerHold w s = (.done, s.setLine n { s.line n with heldForAlert := false }) := by
  unfold callerHold
  rw [hl]
  dsimp only
  rw [h]

theorem callerHold_wrong (hl : lineOf w = some n)
    (h : (s.line n).state = .idle ∨ (s.line n).state = .clearing ∨ (s.line n).state = .outOfService) :
    callerHold w s = (.wrongState, s) := by
  unfold callerHold
  rw [hl]
  dsimp only
  rcases h with h | h | h <;> rw [h]

/-- A held line's gain fades over 2 blocks, when the hold is not made at a boundary. -/
theorem holdGroup_says (flag : Bool) (c : CallerCause) {ls : List LineNo} (s : State) (h : n ∈ ls) :
    (holdGroup false flag c ls s).callers.queue = ls ++ s.callers.queue ∧
      (holdGroup false flag c ls s).callers.onAir = s.callers.onAir.filter (fun m => !ls.contains m) ∧
      (holdGroup false flag c ls s).mixer.line.get n = (s.mixer.line.get n).start 0 2 := by
  unfold holdGroup
  rw [handLogs_only]
  refine ⟨rfl, rfl, (Four.get_ofFn _ _).trans (if_pos ?_)⟩
  rw [List.contains_iff_mem]
  exact h

/-- The line of a CALLER_QUEUE moves to its place, and the others keep their order. -/
theorem insertPlace_says (n : LineNo) (k : Nat) (q : List LineNo) (h : n ∉ q) :
    (insertPlace n k q).filter (· != n) = q ∧
      (insertPlace n k q)[min (k - 1) ((insertPlace n k q).length - 1)]? = some n := by
  have hfilter : q.filter (· != n) = q := List.filter_eq_self.2 fun m hm => by simpa using ne_of_mem_of_not_mem hm h
  have hlen : (insertPlace n k q).length = q.length + 1 := by
    simp only [insertPlace, List.length_append, List.length_cons, List.length_take, List.length_drop]
    omega
  refine ⟨?_, ?_⟩
  · rw [insertPlace, List.filter_append, List.filter_cons_of_neg (by simp), ← List.filter_append,
      List.take_append_drop, hfilter]
  · have hat : min (k - 1) (q.length + 1 - 1) = (q.take (k - 1)).length := by
      rw [List.length_take]
      omega
    rw [hlen, hat, insertPlace, List.getElem?_append_right (le_refl _)]
    simp

theorem callerQueue_says (hl : lineOf w = some n) (hp0 : p ≠ 0) (hp4 : p.toNat ≤ 4) (h : (s.line n).state = .hold) :
    callerQueue w p s = (.done, { s with callers := { s.callers with
      queue := insertPlace n p.toNat (s.callers.queue.filter (· != n)) } }) := by
  unfold callerQueue
  rw [hl]
  dsimp only
  rw [if_neg (not_or.2 ⟨hp0, by omega⟩), if_neg (not_not.2 h)]

theorem callerQueue_wrongState (hl : lineOf w = some n) (hp0 : p ≠ 0) (hp4 : p.toNat ≤ 4)
    (h : (s.line n).state ≠ .hold) : callerQueue w p s = (.wrongState, s) := by
  unfold callerQueue
  rw [hl]
  dsimp only
  rw [if_neg (not_or.2 ⟨hp0, by omega⟩), if_pos h]

theorem callerQueue_badPlace (hl : lineOf w = some n) (hp : p = 0 ∨ 4 < p.toNat) :
    callerQueue w p s = (.badArgument, s) := by
  unfold callerQueue
  rw [hl]
  exact if_pos hp

theorem callerDrop_call (hl : lineOf w = some n) (h : (s.line n).state.call = true) :
    callerDrop w s = (.done, toClearing n .request s) := by
  unfold callerDrop
  rw [hl]
  exact if_pos h

theorem callerDrop_wrong (hl : lineOf w = some n) (h : (s.line n).state.call = false) :
    callerDrop w s = (.wrongState, s) := by
  unfold callerDrop
  rw [hl]
  dsimp only
  rw [h, if_neg Bool.false_ne_true]

/-! Entry to air (R80, R81, R84, R85). -/

/-- A line enters the air: last in the on-air order, its gain ramping to its line gain over 2 blocks. -/
theorem toAir_says (c : CallerCause) (h : n ∉ s.callers.onAir) :
    ((toAir n c s).line n).state = .onAir ∧ ((toAir n c s).line n).since = s.time ∧
      ((toAir n c s).line n).heldForAlert = false ∧ (toAir n c s).callers.onAir = s.callers.onAir ++ [n] ∧
      (toAir n c s).callers.queue = s.callers.queue.filter (· != n) ∧
      ((toAir n c s).mixer.line.get n).target = (s.line n).gain ∧ ((toAir n c s).mixer.line.get n).m = 2 ∧
      (∀ m, m ≠ n → (toAir n c s).line m = s.line m ∧ (toAir n c s).mixer.line.get m = s.mixer.line.get m) ∧
      (toAir n c s).log = (handLog (callerEntry n (s.line n).state c (toAir n c s)) s).log ∧
      toAir n c s = { s with
        callers := (toAir n c s).callers, mixer := (toAir n c s).mixer, log := (toAir n c s).log } := by
  have hline : (toAir n c s).line n = { s.line n with state := .onAir, since := s.time, heldForAlert := false, taken := true } :=
    Four.get_set_self ..
  have hramp : (toAir n c s).mixer.line.get n = (s.mixer.line.get n).start (s.line n).gain 2 := rampLine_mixer_self ..
  have hair : s.callers.onAir.filter (· != n) = s.callers.onAir :=
    List.filter_eq_self.2 fun m hm => by simpa using ne_of_mem_of_not_mem hm h
  rw [hline, hramp]
  refine ⟨rfl, rfl, rfl, ?_, rfl, rfl, rfl, fun m hm => ⟨Four.get_set_ne _ _ hm, rampLine_mixer_ne _ _ _ hm⟩, rfl, rfl⟩
  show s.callers.onAir.filter (· != n) ++ [n] = _
  rw [hair]

theorem guardBars_iff : s.guardBars = true ↔ s.sections.callers.guardSet = true ∧ s.safe = false := by
  rw [State.guardBars, Bool.and_eq_true, Bool.not_eq_true']

theorem atLimit_iff : s.atLimit = true ↔ s.sections.callers.limit ≤ s.callers.onAir.length := decide_eq_true_iff

theorem callerTake_says (c : CallerCause) (s : State) :
    (s.onProgramme = false → callerTake c s = (.wrongState, s)) ∧
      (s.onProgramme = true → s.guardBars = true → callerTake c s = (.notSafe, s)) ∧
      (s.onProgramme = true → ¬s.guardBars = true → s.atLimit = true → callerTake c s = (.atLimit, s)) ∧
      (s.onProgramme = true → ¬s.guardBars = true → ¬s.atLimit = true →
        (s.callers.queue = [] → callerTake c s = (.queueEmpty, s)) ∧
        ∀ n rest, s.callers.queue = n :: rest → callerTake c s = (.done, toAir n c s)) := by
  unfold callerTake
  refine ⟨fun h => ?_, fun h hg => ?_, fun h hg hf => ?_, fun h hg hf => ⟨fun hq => ?_, fun n rest hq => ?_⟩⟩
  · simp [h]
  · simp [h, hg]
  · simp [h, hg, hf]
  · simp [h, hg, hf, hq]
  · simp [h, hg, hf, hq]

theorem callerOnAir_says (hl : lineOf w = some n) :
    (¬((s.line n).state = .screening ∨ (s.line n).state = .hold) ∨ s.onProgramme = false →
        callerOnAir w s = (.wrongState, s)) ∧
      ((s.line n).state = .screening ∨ (s.line n).state = .hold → s.onProgramme = true →
        (s.guardBars = true → callerOnAir w s = (.notSafe, s)) ∧
        (¬s.guardBars = true → s.atLimit = true → callerOnAir w s = (.atLimit, s)) ∧
        (¬s.guardBars = true → ¬s.atLimit = true → callerOnAir w s = (.done, toAir n .request s))) := by
  unfold callerOnAir
  rw [hl]
  refine ⟨fun h => if_pos ?_, fun hw hp => ?_⟩
  · rcases h with h | h
    · simp only [not_or] at h
      simp [h.1, h.2]
    · simp [h]
  · have hno : ¬(!((s.line n).state == .screening || (s.line n).state == .hold) || !s.onProgramme) = true := by
      rcases hw with hw | hw <;> simp [hw, hp]
    dsimp only
    rw [if_neg hno]
    exact ⟨fun hg => if_pos hg, fun hg hf => (if_neg hg).trans (if_pos hf),
      fun hg hf => (if_neg hg).trans (if_neg hf)⟩

/-! The DROP_CALLERS button (R82). -/

/-- What a series of lines' entries to CLEARING leaves. -/
structure Dropped (ls : List LineNo) (s t : State) : Prop where
  onAir : t.callers.onAir = s.callers.onAir.filter (fun n => !ls.contains n)
  queue : t.callers.queue = s.callers.queue.filter (fun n => !ls.contains n)
  gone : ∀ n, n ∈ ls → t.line n = (s.line n).clears s.time ∧ t.mixer.line.get n = (s.mixer.line.get n).start 0 2
  stays : ∀ n, n ∉ ls → t.line n = s.line n ∧ t.mixer.line.get n = s.mixer.line.get n
  only : t = { s with callers := t.callers, mixer := t.mixer, log := t.log }

theorem filter_contains_cons (n : LineNo) (ls l : List LineNo) :
    (l.filter (· != n)).filter (fun m => !ls.contains m) = l.filter (fun m => !(n :: ls).contains m) := by
  rw [List.filter_filter]
  congr 1
  funext m
  rw [List.contains_cons, Bool.not_or, Bool.and_comm]
  rfl

theorem foldl_toClearing (c : CallerCause) (ls : List LineNo) (s : State) (hn : ls.Nodup)
    (hon : ∀ n ∈ ls, (s.line n).state = .onAir) : Dropped ls s (ls.foldl (fun s n => toClearing n c s) s) := by
  induction ls generalizing s with
  | nil => exact ⟨by simp, by simp, fun n h => absurd h List.not_mem_nil, fun n _ => ⟨rfl, rfl⟩, rfl⟩
  | cons n rest ih =>
    obtain ⟨hnot, hrest⟩ := List.nodup_cons.1 hn
    have hst : (s.line n).state = .onAir := hon n List.mem_cons_self
    have hne : ∀ m, m ∈ rest → m ≠ n := fun m hm => ne_of_mem_of_not_mem hm hnot
    have hmid := toClearing_onAir c hst
    have hself := toClearing_line_self n c s
    have hother := fun m (hm : m ≠ n) => toClearing_line_ne c s hm
    have hcallers := toClearing_callers n c s
    have honly := toClearing_only n c s
    have hramp : (toClearing n c s).mixer.line.get n = (s.mixer.line.get n).start 0 2 := by
      rw [hmid, handLog_mixer, rampLine_mixer_self]
      rfl
    have hkeep : ∀ m, m ≠ n → (toClearing n c s).mixer.line.get m = s.mixer.line.get m := fun m hm => by
      rw [hmid, handLog_mixer, rampLine_mixer_ne _ _ _ hm]
      rfl
    rw [List.foldl_cons]
    have htime : (toClearing n c s).time = s.time := by rw [honly]
    generalize toClearing n c s = u at hself hother hcallers honly hramp hkeep htime
    have h := ih u hrest fun m hm => by rw [hother m (hne m hm)]; exact hon m (List.mem_cons_of_mem _ hm)
    generalize List.foldl (fun s n => toClearing n c s) u rest = t at h
    have hair : u.callers.onAir = s.callers.onAir.filter (· != n) := by rw [hcallers]; rfl
    have hqueue : u.callers.queue = s.callers.queue.filter (· != n) := by rw [hcallers]; rfl
    refine ⟨?_, ?_, fun m hm => ?_, fun m hm => ?_, ?_⟩
    · rw [h.onAir, hair, filter_contains_cons]
    · rw [h.queue, hqueue, filter_contains_cons]
    · rcases List.mem_cons.1 hm with rfl | hm
      · obtain ⟨hline, hmix⟩ := h.stays m hnot
        exact ⟨hline.trans hself, hmix.trans hramp⟩
      · obtain ⟨hline, hmix⟩ := h.gone m hm
        rw [hother m (hne m hm), htime] at hline
        rw [hkeep m (hne m hm)] at hmix
        exact ⟨hline, hmix⟩
    · obtain ⟨hmn, hmr⟩ := not_or.1 (mt List.mem_cons.2 hm)
      obtain ⟨hline, hmix⟩ := h.stays m hmr
      exact ⟨hline.trans (hother m hmn), hmix.trans (hkeep m hmn)⟩
    · rw [h.only, honly]

theorem dropCallers_some (h : s.callers.onAir ≠ []) :
    dropCallers s = (.done, s.callers.onAir.foldl (fun s n => toClearing n .button s) s) := by
  unfold dropCallers
  split
  · rename_i hnil
    exact absurd hnil h
  · rfl

end Requests

/-- Settles O33. -/
theorem callerRequestsAnswer : Obligations.CallerRequestsAnswer := by
  unfold Obligations.CallerRequestsAnswer
  refine ⟨fun s => ⟨fun w p hw => ?_, fun w n hl => ⟨fun h => callerHold_screening hl h, fun h => ?_,
      fun h => callerHold_hold hl h, fun h => callerHold_wrong hl h⟩⟩,
    fun s w p n hl => ⟨fun h => callerDrop_wrong hl h, fun h => ?_, fun hp => callerQueue_badPlace hl hp,
      fun h0 h4 h => callerQueue_wrongState hl h0 h4 h, fun h0 h4 h => ?_⟩,
    fun s => ⟨fun h => ?_, fun hne hnodup hon => ?_⟩, fun s => ?_⟩
  · have hl := lineOf_none hw
    simp only [callerHold, callerDrop, callerQueue, callerOnAir, hl, and_self]
  · obtain ⟨hq, ha, hm⟩ := holdGroup_says false .request s (List.mem_singleton_self n)
    rw [callerHold_onAir hl h, hq, ha, hm, holdGroup_line, if_pos (List.mem_singleton_self n)]
    refine ⟨rfl, rfl, rfl, ?_, rfl, rfl⟩
    congr 1
    funext m
    rw [List.contains_cons, List.contains_nil, Bool.or_false]
    rfl
  · have hcall : (s.line n).state.call = true := by rw [h]; rfl
    rw [callerDrop_call hl hcall, toClearing_line_self]
    refine ⟨rfl, rfl, ?_, fun m hm => toClearing_line_ne _ _ hm⟩
    rw [toClearing_quiet _ (by rw [h]; decide)]
    rfl
  · obtain ⟨hrest, hplace⟩ := insertPlace_says n p.toNat (s.callers.queue.filter (· != n)) (by simp)
    exact ⟨_, callerQueue_says hl h0 h4 h, hrest, hplace⟩
  · unfold dropCallers
    rw [h]
  · have h := foldl_toClearing .button _ s hnodup hon
    refine ⟨_, dropCallers_some hne, ?_, h.queue, fun n hn => ?_, h.stays, fun n hn => ?_, h.only⟩
    · rw [h.onAir]
      exact List.filter_eq_nil_iff.2 fun m hm => by simp [hm]
    · obtain ⟨hline, hmix⟩ := h.gone n hn
      rw [hline, hmix]
      exact ⟨rfl, rfl, rfl⟩
    · have hst : (s.line n).state = .onAir := hon n (by rw [hn]; exact List.mem_singleton_self n)
      rw [hn, List.foldl_cons, List.foldl_nil, toClearing_onAir _ hst]
      rfl
  · rw [← guardBars_iff, ← atLimit_iff]
    extract_lets barred full airs
    refine ⟨fun c => ?_, fun w n hl => ?_⟩
    · obtain ⟨hwrong, hguard, hfull, hgo⟩ := callerTake_says c s
      refine ⟨hwrong, hguard, hfull, fun hp hg hf => ⟨(hgo hp hg hf).1, fun n rest hq hn => ?_⟩⟩
      exact ⟨_, (hgo hp hg hf).2 n rest hq, toAir_says c hn⟩
    · obtain ⟨hwrong, hright⟩ := callerOnAir_says (s := s) hl
      refine ⟨hwrong, fun hw hp => ?_⟩
      obtain ⟨hguard, hfull, hgo⟩ := hright hw hp
      exact ⟨hguard, hfull, fun hg hf hn => ⟨_, hgo hg hf, toAir_says .request hn⟩⟩

end Sys2Proof.Machine


/-! # Dead air and the rescue (O34) -/

namespace Sys2Proof.Machine

open Sys2Proof

section DeadAir
variable {s : State}

/-- The raising of R100. -/
def deadAir : Raising := ⟨.deadAir, .airSwitch, 0, 0, 0, zeros16⟩

/-- A monitor that finds the silence time reached. -/
def State.dies (s : State) : State := { s with monitor := { s.monitor with state := .dead, recovery := 0, judged := none } }

/-- A monitor that recovers. -/
def State.revives (s : State) : State :=
  { s with monitor := { s.monitor with state := .watching, silence := 0, recovery := 0, rescue := false, judged := none } }

theorem mayRescue_iff : s.mayRescue = true ↔ s.sections.station.rescueEnabled = true ∧ s.rescue.state = .ready := by
  rw [State.mayRescue, Bool.and_eq_true, beq_iff_eq]

theorem mayRescue_eq_false : s.mayRescue = false ↔ s.sections.station.rescueEnabled = false ∨ s.rescue.state ≠ .ready := by
  rw [← Bool.not_eq_true, mayRescue_iff, not_and_or, Bool.not_eq_true]

theorem completes_silenceTimeReached (hw : s.monitor.state = .watching) (hj : s.monitor.judged = some true)
    (ht : s.sections.station.silenceTime ≤ s.monitor.silence) : Completes .silenceTimeReached s
      (if (raise deadAir s.dies).mayRescue then beginRescue (raise deadAir s.dies) else raise deadAir s.dies) := by
  have hd : s.goesDead = true := by
    rw [State.goesDead, hw, hj, decide_eq_true ht]
    rfl
  have hmay : (raise deadAir s.dies).mayRescue = s.mayRescue := by
    simp only [State.mayRescue, raise_sections, raise_rescue]
    rfl
  unfold Completes
  show execSilenceTimeReached s = _
  rw [execSilenceTimeReached, if_pos hd, hmay]
  rfl

/-- A raising made while the monitor dies is that of the part as it was. -/
theorem raise_dies : raise deadAir s.dies = { raise deadAir s with monitor := s.dies.monitor } := by
  rw [raise_eq deadAir (s := s) (t := s.dies) rfl rfl rfl rfl rfl, raise_only deadAir s]
  rfl

theorem beginRescue_only (s : State) : beginRescue s = { s with
    monitor := { s.monitor with rescue := true, pos := 0, live := s.rescue.state == .ready }
    air := (beginRescue s).air } := rfl

theorem topSource_rescue (hr : s.monitor.rescue = true) (hi : s.airing.state = .idle) : s.topSource = .rescue := by
  rw [State.topSource, hi, if_neg (by decide), if_pos hr]

theorem topSource_programme (hr : s.monitor.rescue = false) (hp : s.onProgramme = true) (hi : s.airing.state = .idle) :
    s.topSource = .programme := by
  rw [State.topSource, hi, if_neg (by decide), hr, if_neg Bool.false_ne_true, if_pos hp]

theorem topSource_ne_rescue (hr : s.monitor.rescue = false) : s.topSource ≠ .rescue := by
  unfold State.topSource
  rw [hr, if_neg Bool.false_ne_true]
  split_ifs <;> decide

theorem beginRescue_now (hi : s.airing.state = .idle) : (beginRescue s).air.now = .rescue := by
  show State.topSource { s with monitor := { s.monitor with rescue := true, pos := 0, live := s.rescue.state == .ready } } = _
  exact topSource_rescue rfl hi

theorem completes_rescueStart (hd : s.monitor.state = .dead) (hr : s.monitor.rescue = false) (hm : s.mayRescue = true) :
    Completes .rescueStart s (beginRescue s) := by
  unfold Completes
  show execRescueStart s = _
  rw [execRescueStart, if_pos ⟨hd, by simp [hr], hm⟩]

/-- The return by a fade of 20 blocks, whose first step is made at the boundary (R103). -/
def State.returns (s : State) : State :=
  { s with air := { s.air with
      now := .programme, before := .programme, crossfade := none, fading := true
      fade := (Ramp.settled s.mixer.fillGain.base).startAt 0 Config.returnFadeBlocks } }

/-- What a recovery does: the return fade from RESCUE to PROGRAMME, or the switch worked out anew. -/
theorem completes_recovery (hd : s.monitor.state = .dead) (hr : 40 ≤ s.monitor.recovery) : Completes .recovery s
      (if s.monitor.rescue = true ∧ s.air.before = .rescue ∧ s.revives.topSource = .programme then s.revives.returns
        else arbitrate s.revives) := by
  have hrec : s.recovers = true := by
    rw [State.recovers, hd]
    exact Bool.and_eq_true_iff.2 ⟨rfl, decide_eq_true hr⟩
  unfold Completes
  show execRecovery s = _
  rw [execRecovery, if_pos hrec]
  rfl

theorem completes_rescueStop (hr : s.monitor.rescue = true) (he : s.sections.station.rescueEnabled = false) :
    Completes .rescueStop s (arbitrate { s with monitor := { s.monitor with rescue := false } }) := by
  unfold Completes
  show execRescueStop s = _
  rw [execRescueStop, if_pos (by rw [hr, he]; rfl)]

end DeadAir

/-- Settles O34. -/
theorem deadAirBringsAndEndsRescue : Obligations.DeadAirBringsAndEndsRescue := by
  unfold Obligations.DeadAirBringsAndEndsRescue
  refine ⟨fun s => ⟨fun hw hj ht => ?_, fun hd hr he hready => ?_⟩,
    fun s => ⟨fun hd hr => ?_, fun hf hc => ?_, fun hr he => ?_⟩⟩
  · have hcomp := completes_silenceTimeReached hw hj ht
    have hmay : (raise deadAir s.dies).mayRescue = s.mayRescue := by
      simp only [State.mayRescue, raise_sections, raise_rescue]
      rfl
    rw [hmay] at hcomp
    cases hm : s.mayRescue
    · rw [hm, if_neg Bool.false_ne_true, raise_dies] at hcomp
      refine ⟨_, hcomp, rfl, rfl, rfl, fun he hready => ?_, fun _ => rfl, ?_⟩
      · exact absurd (mayRescue_iff.2 ⟨he, hready⟩) (by rw [hm]; exact Bool.false_ne_true)
      · rfl
    · rw [hm, if_pos rfl, raise_dies] at hcomp
      refine ⟨_, hcomp, rfl, rfl, rfl, fun _ _ => ⟨rfl, rfl⟩, fun hno => ?_, rfl⟩
      rw [← mayRescue_eq_false, hm] at hno
      exact absurd hno.symm Bool.false_ne_true
  · refine ⟨_, completes_rescueStart hd hr (mayRescue_iff.2 ⟨he, hready⟩), ?_, beginRescue_now, rfl⟩
    rw [beginRescue_only, hready]
    rfl
  · refine ⟨_, completes_recovery hd hr, ?_⟩
    split
    · exact ⟨rfl, rfl, rfl, rfl, fun _ _ _ _ => ⟨rfl, rfl, rfl, rfl, rfl⟩, rfl⟩
    · rename_i hnot
      refine ⟨rfl, rfl, rfl, rfl, fun hres hb hp hi => ?_, rfl⟩
      exact absurd ⟨hres, hb, topSource_programme rfl hp hi⟩ hnot
  · unfold Completes
    show execReturnFadeEnd s = _
    rw [execReturnFadeEnd, if_pos (by rw [hf, hc]; rfl)]
  · exact ⟨_, completes_rescueStop hr he, rfl, topSource_ne_rescue rfl, rfl⟩

end Sys2Proof.Machine


/-! # Alert frames from their characters (O40) -/

namespace Sys2Proof.Machine

open Sys2Proof

section Frames
variable {s : State} {p : PortId} {bs : List Byte}

/-- The raising of an abandoned frame (R130). -/
def frameFault (p : PortId) (why : AlertReason) (held : List Byte) : Raising :=
  ⟨.alertFrame, decoderUnit p, BitVec.ofNat 64 (sideCode p), 0, why.code, snapshot16 held⟩

theorem badFrame_setDecoder (p : PortId) (why : AlertReason) (held : List Byte) (d : Decoder) (s : State) :
    badFrame p why held (s.setDecoder p d) = { raise (frameFault p why held) s with decoder := s.decoder.set p d.hunt } := by
  rw [badFrame, State.decoder_setDecoder_self, State.setDecoder_setDecoder]
  exact raise_setDecoder ..

theorem handFrame_setDecoder (p : PortId) (bs : List Byte) (d : Decoder) (s : State) :
    handFrame p bs (s.setDecoder p d) = s.setDecoder p { d.hunt with handed := d.handed ++ [⟨bs, s.time⟩] } := by
  unfold handFrame
  rw [State.decoder_setDecoder_self, State.setDecoder_setDecoder]
  rfl

theorem frameLength_iff (bs : List Byte) : frameLength bs = some bs.length ↔
    if bs.getD 1 0 = 0x45 then bs.length = 14 else 23 ≤ bs.length ∧ bs.length = 25 + 3 * headerAreaCount bs := by
  unfold frameLength alertTypeEnd
  split_ifs with he hl
  · exact (Option.some_inj).trans eq_comm
  · exact (Option.some_inj).trans (eq_comm.trans (and_iff_right hl).symm)
  · exact iff_of_false (fun h => nomatch h) fun h => hl h.1

theorem completeFrame_crc (h : alertCheckRight bs = false) : completeFrame p bs s = badFrame p .crc bs s := by
  rw [completeFrame, h]
  rfl

theorem completeFrame_fault (h : alertCheckRight bs = true) (hh : isAlertHeader bs = true) {why : AlertReason}
    (hw : headerFault bs = some why) : completeFrame p bs s = badFrame p why bs s := by
  rw [completeFrame, h, hh, hw]
  rfl

theorem completeFrame_good (h : alertCheckRight bs = true) (hg : isAlertHeader bs = false ∨ headerFault bs = none) :
    completeFrame p bs s = handFrame p bs s := by
  rw [completeFrame, h]
  cases hh : isAlertHeader bs
  · rfl
  · rcases hg with hg | hg
    · rw [hh] at hg
      exact absurd hg.symm Bool.false_ne_true
    · rw [hg]
      rfl

/-- The decoder in IN_FRAME that has taken a character. -/
def Decoder.took (d : Decoder) (bs : List Byte) (at0 : Nat) : Decoder :=
  { d with bytes := bs, expected := frameLength bs, lineBreak := false, lastAt := at0 }

/-- A good character in IN_FRAME: no type, complete, or held. -/
theorem goodCharacter_inFrame (v : Byte) (at0 : Nat) (h : (s.decoder.get p).inFrame = true) :
    let bs := (s.decoder.get p).bytes ++ [v]
    let u := s.setDecoder p ((s.decoder.get p).took bs at0)
    goodCharacter p v at0 s = if bs.length = 2 ∧ v ≠ 0x48 ∧ v ≠ 0x45 then badFrame p .type bs u
      else if frameLength bs = some bs.length then completeFrame p bs u else u := by
  intro bs u
  unfold goodCharacter
  exact if_pos h

/-- Every good character sets the line status to NORMAL and leaves the other port. -/
theorem badFrame_took (why : AlertReason) (bs : List Byte) (at0 : Nat) (s : State) :
    let t := badFrame p why bs (s.setDecoder p ((s.decoder.get p).took bs at0))
    (t.decoder.get p).lineBreak = false ∧ t.decoder.get p.other = s.decoder.get p.other ∧
      (t.decoder.get p).inFrame = false ∧ (t.decoder.get p).bytes = [] ∧
      (t.decoder.get p).handed = (s.decoder.get p).handed ∧
      t = { raise (frameFault p why bs) s with decoder := t.decoder } := by
  intro t
  have ht : t = { raise (frameFault p why bs) s with decoder := s.decoder.set p ((s.decoder.get p).took bs at0).hunt } :=
    badFrame_setDecoder ..
  have hd : t.decoder = s.decoder.set p ((s.decoder.get p).took bs at0).hunt := by rw [ht]
  rw [hd, Two.get_set_self, Two.get_set_other]
  exact ⟨rfl, rfl, rfl, rfl, rfl, ht⟩

theorem handFrame_took (bs : List Byte) (at0 : Nat) (s : State) :
    let t := handFrame p bs (s.setDecoder p ((s.decoder.get p).took bs at0))
    (t.decoder.get p).lineBreak = false ∧ t.decoder.get p.other = s.decoder.get p.other ∧
      (t.decoder.get p).inFrame = false ∧ (t.decoder.get p).bytes = [] ∧
      (t.decoder.get p).handed = (s.decoder.get p).handed ++ [⟨bs, s.time⟩] ∧ t = { s with decoder := t.decoder } := by
  intro t
  have ht : t = s.setDecoder p { ((s.decoder.get p).took bs at0).hunt with
      handed := (s.decoder.get p).handed ++ [⟨bs, s.time⟩] } := handFrame_setDecoder ..
  have hd : t.decoder = s.decoder.set p { ((s.decoder.get p).took bs at0).hunt with
      handed := (s.decoder.get p).handed ++ [⟨bs, s.time⟩] } := by rw [ht]; rfl
  rw [hd, Two.get_set_self, Two.get_set_other]
  exact ⟨rfl, rfl, rfl, rfl, rfl, by rw [ht]; rfl⟩

/-! A break (R129, R140). -/

theorem markBreak_entry (p : PortId) (s : State) (n : EntryNo) : (markBreak p s).entry n =
    if (s.entry n).state = .recording ∧ (s.entry n).recPort = p then (s.entry n).marked .lineBreak else s.entry n :=
  Eight.get_map _ _ _

theorem marked_recLen (m : RecMark) (e : AlertEntry) : (e.marked m).recLen = e.recLen := by
  unfold AlertEntry.marked
  split <;> rfl

theorem marked_mark (m : RecMark) {e : AlertEntry} (h : e.mark = none) : (e.marked m).mark = some m := by
  rw [AlertEntry.marked, h]
  rfl

/-- The part as a break leaves it, before its recordings are marked: the line status is BREAK and no frame is held. -/
def State.broken (s : State) (p : PortId) : State :=
  { (if (s.decoder.get p).inFrame = true then raise (frameFault p .lineBreak (s.decoder.get p).bytes) s else s) with
    decoder := s.decoder.set p { (if (s.decoder.get p).inFrame = true then (s.decoder.get p).hunt else s.decoder.get p) with
      lineBreak := true } }

/-- The part with the frame in progress abandoned, if there is one. -/
def State.abandons (s : State) (p : PortId) : State :=
  if (s.decoder.get p).inFrame then badFrame p .lineBreak (s.decoder.get p).bytes s else s

theorem broken_eq (s : State) (p : PortId) :
    (s.abandons p).setDecoder p { (s.abandons p).decoder.get p with lineBreak := true } = s.broken p := by
  unfold State.abandons State.broken
  split_ifs
  · rw [badFrame_eq]
    simp only [State.setDecoder, Two.get_set_self, Two.set_set]
    rfl
  · rfl

theorem breakCharacter_eq (p : PortId) (s : State) : breakCharacter p s =
    if (s.decoder.get p).lineBreak = true then s.broken p else markBreak p (s.broken p) := by
  rw [← broken_eq]
  rfl

theorem broken_entry (p : PortId) (s : State) (n : EntryNo) : (s.broken p).entry n = s.entry n := by
  unfold State.broken
  split
  · exact congrArg (·.entry.get n) (raise_alerts ..)
  · rfl

theorem broken_alerts (p : PortId) (s : State) : (s.broken p).alerts = s.alerts := by
  unfold State.broken
  split
  · exact raise_alerts ..
  · rfl

end Frames

/-- Settles O40. -/
theorem alertCharactersBuildFrames : Obligations.AlertCharactersBuildFrames := by
  unfold Obligations.AlertCharactersBuildFrames
  refine ⟨fun s p v at0 => ⟨fun hout => ⟨fun hv => ?_, fun hv => ?_⟩, fun hin _ => ?_⟩, fun s p => ?_⟩
  · have h : goodCharacter p v at0 s = _ := (if_neg (ne_true_of_eq_false hout)).trans (if_pos hv)
    rw [hv] at h ⊢
    exact (completes_goodCharacter p 0x7E at0 s).trans (congrArg Host.Outcome.next h)
  · have h : goodCharacter p v at0 s = _ := (if_neg (ne_true_of_eq_false hout)).trans (if_neg hv)
    exact (completes_goodCharacter p v at0 s).trans (congrArg Host.Outcome.next h)
  · extract_lets bs abandoned wrongType complete
    refine ⟨_, completes_goodCharacter p v at0 s, ?_⟩
    have hlen := frameLength_iff bs
    have heq := goodCharacter_inFrame v at0 hin
    dsimp only at heq
    by_cases hw : wrongType
    · rw [if_pos hw] at heq
      obtain ⟨hb, ho, hrest⟩ := badFrame_took (p := p) .type bs at0 s
      rw [heq]
      exact ⟨hb, ho, fun _ => hrest, fun h => absurd hw h, fun h => absurd hw h⟩
    rw [if_neg hw] at heq
    by_cases hc : complete
    · rw [if_pos (hlen.2 hc)] at heq
      cases hcheck : alertCheckRight bs
      · obtain ⟨hb, ho, hrest⟩ := badFrame_took (p := p) .crc bs at0 s
        rw [heq, completeFrame_crc hcheck]
        exact ⟨hb, ho, fun h => absurd h hw, fun _ h => absurd hc h, fun _ _ => ⟨fun _ => hrest, fun h => nomatch h⟩⟩
      · by_cases hg : isAlertHeader bs = false ∨ headerFault bs = none
        · obtain ⟨hb, ho, hrest⟩ := handFrame_took (p := p) bs at0 s
          rw [heq, completeFrame_good hcheck hg]
          refine ⟨hb, ho, fun h => absurd h hw, fun _ h => absurd hc h, fun _ _ => ⟨fun h => Bool.noConfusion h, fun _ =>
            ⟨fun hh why hwhy => ?_, fun _ => hrest⟩⟩⟩
          rcases hg with hg | hg
          · rw [hh] at hg
            exact absurd hg.symm Bool.false_ne_true
          · rw [hwhy] at hg
            exact nomatch hg
        · obtain ⟨hh, hf⟩ := not_or.1 hg
          obtain ⟨why, hwhy⟩ := Option.ne_none_iff_exists'.1 hf
          obtain ⟨hb, ho, hrest⟩ := badFrame_took (p := p) why bs at0 s
          rw [heq, completeFrame_fault hcheck (by simpa using hh) hwhy]
          refine ⟨hb, ho, fun h => absurd h hw, fun _ h => absurd hc h, fun _ _ => ⟨fun h => Bool.noConfusion h, fun _ =>
            ⟨fun _ why' hwhy' => ?_, fun h => absurd h hg⟩⟩⟩
          rw [hwhy, Option.some_inj] at hwhy'
          rw [← hwhy']
          exact hrest
    · rw [if_neg (mt hlen.1 hc)] at heq
      rw [heq, State.decoder_setDecoder_self]
      refine ⟨rfl, Two.get_set_other .., fun h => absurd h hw, fun _ _ => ⟨hin, rfl, rfl, rfl, rfl⟩, fun _ h => absurd h hc⟩
  · intro d gone
    refine ⟨fun hin => ?_, fun hin => ?_, _, rfl, ?_⟩
    · unfold Completes
      show execFramingError p s = _
      have hgone : gone .framing s = raise (frameFault p .framing d.bytes) s := if_pos hin
      rw [hgone, execFramingError, if_pos hin, badFrame_eq]
      rfl
    · unfold Ignored
      show execFramingError p s = _
      have hd : (s.decoder.get p).inFrame = false := hin
      rw [execFramingError, hd, if_neg Bool.false_ne_true]
    · have hgone : gone .lineBreak s = { s.broken p with decoder := s.decoder } := by
        show (if d.inFrame = true then raise (frameFault p .lineBreak d.bytes) s else s) = _
        unfold State.broken
        split_ifs
        · rw [raise_only]
        · rfl
      have hdec : ((s.broken p).decoder.get p).lineBreak = true ∧ ((s.broken p).decoder.get p).inFrame = false := by
        have hd : (s.broken p).decoder.get p = { (if d.inFrame = true then d.hunt else d) with lineBreak := true } :=
          Two.get_set_self ..
        rw [hd]
        refine ⟨rfl, ?_⟩
        split_ifs with hin
        · rfl
        · simpa using hin
      rw [hgone, breakCharacter_eq]
      cases d.lineBreak
      · rw [if_neg Bool.false_ne_true]
        refine ⟨hdec.1, hdec.2, fun h => Bool.noConfusion h, fun _ n hst hp hm => ?_, fun n => ?_, rfl⟩
        · rw [markBreak_entry, broken_entry, if_pos ⟨hst, hp⟩]
          exact marked_mark _ hm
        · rw [markBreak_entry, broken_entry]
          split_ifs
          · exact ⟨(marked_state ..).1, marked_recLen ..⟩
          · exact ⟨rfl, rfl⟩
      · rw [if_pos rfl]
        refine ⟨hdec.1, hdec.2, fun _ => broken_alerts p s, fun h => Bool.noConfusion h, fun n => ?_, rfl⟩
        rw [broken_entry]
        exact ⟨rfl, rfl⟩

end Sys2Proof.Machine


/-! # Alerts queued and cancelled (O46) -/

namespace Sys2Proof.Machine

open Sys2Proof

section Queue
variable {s : State} {n : EntryNo}

/-! ## An entry into the air queue, and out of the table's live states -/

/-- An entry as it enters QUEUED. -/
def AlertEntry.queued (c : AlertCause) (e : AlertEntry) : AlertEntry :=
  { e with
    state := .queued, holdUntil := none, deadline := none
    flags := { e.flags with forwardOnCompletion := false, deadline := e.flags.deadline || c == .deadline } }

theorem enterQueued_entry (n m : EntryNo) (c : AlertCause) (s : State) :
    (enterQueued n c s).entry m = if m = n then (s.entry n).queued c else s.entry m := setEntry_entry s n m _

theorem enterQueued_entry_self (n : EntryNo) (c : AlertCause) (s : State) :
    (enterQueued n c s).entry n = (s.entry n).queued c := (enterQueued_entry n n c s).trans (if_pos rfl)

theorem enterQueued_entry_ne (c : AlertCause) (s : State) {m : EntryNo} (h : m ≠ n) :
    (enterQueued n c s).entry m = s.entry m := (enterQueued_entry n m c s).trans (if_neg h)

theorem mem_enterQueued_queue (n : EntryNo) (c : AlertCause) (s : State) :
    ⟨n, s.time⟩ ∈ (enterQueued n c s).alerts.queue := by
  have hq : (enterQueued n c s).alerts.queue = (s.setEntry n ((s.entry n).queued c)).placeQueued ⟨n, s.time⟩ s.alerts.queue :=
    rfl
  rw [hq]
  exact (placeQueued_perm ..).mem_iff.2 List.mem_cons_self

theorem enterQueued_faults (c : AlertCause) (r : Raising) : (raise r (enterQueued n c s)).faults = (raise r s).faults := by
  rw [raise_faults, raise_faults, enterQueued_only]

/-- A cancel before air ends the entry, which leaves the queue and its slot. -/
theorem cancelEntry_ends (h : (s.entry n).state = .recording ∨ (s.entry n).state = .pending ∨ (s.entry n).state = .queued) :
    cancelEntry n s = (.done, logAlert n (s.entry n).state .cancel 0 (finishEntry n .cancelled s)) := by
  unfold cancelEntry
  dsimp only
  rcases h with h | h | h <;> rw [h]

theorem cancelled_says (n : EntryNo) (s : State) :
    let t := logAlert n (s.entry n).state .cancel 0 (finishEntry n .cancelled s)
    (t.entry n).state = .cancelled ∧ (t.entry n).slot = none ∧
      t.alerts.queue = s.alerts.queue.filter (fun q => q.entry != n) ∧
      (∀ m, m ≠ n → t.entry m = s.entry m) ∧ t = { s with alerts := t.alerts, log := t.log } := by
  intro t
  have hentry : ∀ m, t.entry m = if m = n then (s.entry n).finished .cancelled else s.entry m :=
    fun m => finishEntry_entry n m .cancelled s
  refine ⟨?_, ?_, rfl, fun m hm => (hentry m).trans (if_neg hm), rfl⟩
  · rw [hentry, if_pos rfl]
    rfl
  · rw [hentry, if_pos rfl]
    rfl

theorem cancelEntry_airing (h : (s.entry n).state = .airing) :
    cancelEntry n s = (.done, { s with airing := { s.airing with cancel := true } }) := by
  unfold cancelEntry
  dsimp only
  rw [h]

theorem cancelEntry_final (h : (s.entry n).state.final = true) : cancelEntry n s = (.wrongState, s) := by
  unfold cancelEntry
  dsimp only
  cases hst : (s.entry n).state with
  | aired | cancelled | expired | noted | free => rfl
  | recording | pending | queued | airing =>
    rw [hst] at h
    exact absurd h Bool.false_ne_true

end Queue

/-! ## The identity a request names (R149, R150) -/

section Requests
variable {s : State} {w0 w1 w2 : Word} {n : EntryNo}

theorem highHalf_iff (w : Word) : w >>> 16 ≠ 0 ↔ 65536 ≤ w.toNat := by
  have hval : (w >>> 16).toNat = w.toNat / 65536 := by
    rw [BitVec.toNat_ushiftRight, Nat.shiftRight_eq_div_pow]
  have hz : w >>> 16 = 0 ↔ (w >>> 16).toNat = 0 := by
    rw [← BitVec.toNat_inj]
    rfl
  rw [Ne, hz, hval]
  omega

theorem alertForward_badArgument (h : 65536 ≤ w2.toNat) : alertForward w0 w1 w2 s = (.badArgument, s) := by
  rw [alertForward, if_pos ((highHalf_iff w2).2 h)]

theorem alertCancel_badArgument (h : 65536 ≤ w2.toNat) : alertCancel w0 w1 w2 s = (.badArgument, s) := by
  rw [alertCancel, if_pos ((highHalf_iff w2).2 h)]

theorem alertForward_unknown (hw : w2.toNat < 65536) (h : s.holder (namedIdentity w0 w1 w2) = none) :
    alertForward w0 w1 w2 s = (.noSuchAlert, s) := by
  rw [alertForward, if_neg (mt (highHalf_iff w2).1 (by omega)), h]

theorem alertCancel_unknown (hw : w2.toNat < 65536) (h : s.holder (namedIdentity w0 w1 w2) = none) :
    alertCancel w0 w1 w2 s = (.noSuchAlert, s) := by
  rw [alertCancel, if_neg (mt (highHalf_iff w2).1 (by omega)), h]

theorem alertCancel_known (hw : w2.toNat < 65536) (h : s.holder (namedIdentity w0 w1 w2) = some n) :
    alertCancel w0 w1 w2 s = cancelEntry n s := by
  rw [alertCancel, if_neg (mt (highHalf_iff w2).1 (by omega)), h]

/-- A forward of an entry, decided by its policy and its state. -/
theorem alertForward_known (hw : w2.toNat < 65536) (h : s.holder (namedIdentity w0 w1 w2) = some n) :
    alertForward w0 w1 w2 s = if (s.entry n).policy ≠ .manual then (.wrongState, s)
      else if (s.entry n).state = .recording then
        (.done, s.setEntry n { s.entry n with flags := { (s.entry n).flags with forwardOnCompletion := true } })
      else if (s.entry n).state = .pending then (.done, enterQueued n .forward s)
      else (.wrongState, s) := by
  rw [alertForward, if_neg (mt (highHalf_iff w2).1 (by omega)), h]

end Requests

/-! ## The entry a button acts on (R34) -/

section Buttons
variable {s : State} {q : AlertEntry → Bool}

theorem earliest_none (h : ∀ m, q (s.entry m) = false) : s.earliest q = none := by
  have hnil : places8.filter (fun n => q (s.entry n)) = [] := List.filter_eq_nil_iff.2 fun m _ => by simp [h m]
  rw [State.earliest, hnil]
  rfl

theorem fold_mem_of_some (d : EntryNo → EntryNo → Prop) [DecidableRel d] (l : List EntryNo) (b : EntryNo) :
    ∃ x, l.foldl (fun best n => match best with
        | none => some n
        | some m => if d n m then some n else some m) (some b) = some x ∧ (x = b ∨ x ∈ l) := by
  induction l generalizing b with
  | nil => exact ⟨b, rfl, .inl rfl⟩
  | cons a l ih =>
    rw [List.foldl_cons]
    dsimp only
    split_ifs
    · obtain ⟨x, hx, hm⟩ := ih a
      exact ⟨x, hx, .inr (List.mem_cons.2 hm)⟩
    · obtain ⟨x, hx, hm⟩ := ih b
      exact ⟨x, hx, hm.imp_right (List.mem_cons_of_mem a)⟩

/-- Where an entry qualifies, the entry taken is one that does. -/
theorem earliest_some {n : EntryNo} (h : q (s.entry n) = true) : ∃ m, s.earliest q = some m ∧ q (s.entry m) = true := by
  have hmem := mem_places8_filter (fun n => q (s.entry n)) n h
  unfold State.earliest
  have hall : ∀ m ∈ places8.filter (fun n => q (s.entry n)), q (s.entry m) = true := fun m hm => (List.mem_filter.1 hm).2
  generalize places8.filter (fun n => q (s.entry n)) = l at hmem hall
  cases l with
  | nil => exact absurd hmem List.not_mem_nil
  | cons a l =>
    obtain ⟨x, hx, hm⟩ := fold_mem_of_some
      (fun n m => (s.entry n).received.toNat < (s.entry m).received.toNat) l a
    exact ⟨x, hx, hall x (List.mem_cons.2 hm)⟩

theorem forwards_iff (e : AlertEntry) : (e.state == .pending && e.policy == .manual) = true ↔
    e.state = .pending ∧ e.policy = .manual := by
  rw [Bool.and_eq_true, beq_iff_eq, beq_iff_eq]

theorem cancels_iff (e : AlertEntry) : (e.state == .pending || e.state == .queued) = true ↔
    e.state = .pending ∨ e.state = .queued := by
  rw [Bool.or_eq_true, beq_iff_eq, beq_iff_eq]

end Buttons

theorem timerPassed_iff {now at0 : Time} {e : AlertEntry} (hst : e.state = .pending) (hf : e.fresh = false)
    (hr : reached now at0 = true) : e.timerPassed now (some at0) = true := by
  rw [AlertEntry.timerPassed, hst, hf]
  exact hr

/-- Settles O46. -/
theorem alertsAreQueuedOrCancelled : Obligations.AlertsAreQueuedOrCancelled := by
  unfold Obligations.AlertsAreQueuedOrCancelled
  refine ⟨fun s n at0 hst hf hr => ⟨fun hh => ?_, fun hd => ?_⟩, fun s w0 w1 w2 => ⟨fun hw => ?_, fun hw => ⟨fun hn => ?_,
    fun n hn => ⟨fun hp => ?_, fun hp hst => ?_, fun hp hst => ?_, fun hst => ?_, fun hst => ?_, fun hst => ?_⟩⟩⟩, fun s => ?_⟩
  · have hpass := timerPassed_iff hst hf hr
    rw [← hh] at hpass
    have hcomp : Completes (.holdUntilPassed n) s (enterQueued n .hold s) := by
      unfold Completes
      show execHoldUntilPassed n s = _
      rw [execHoldUntilPassed, if_pos hpass]
    refine ⟨_, hcomp, ?_, mem_enterQueued_queue .., ?_, fun m hm => enterQueued_entry_ne _ _ hm, rfl⟩
    · rw [enterQueued_entry_self]
      rfl
    · rw [enterQueued_entry_self]
      rfl
  · have hpass := timerPassed_iff hst hf hr
    rw [← hd] at hpass
    have hcomp : Completes (.manualDeadlinePassed n) s (raise ⟨.alertDeadline, .alertUnit, (s.entry n).ident.sender,
        (s.entry n).ident.message, 0, zeros16⟩ (enterQueued n .deadline s)) := by
      unfold Completes
      show execManualDeadlinePassed n s = _
      rw [execManualDeadlinePassed, if_pos hpass]
      rfl
    have hentry : ∀ (r : Raising) m, (raise r (enterQueued n .deadline s)).entry m = (enterQueued n .deadline s).entry m :=
      fun r m => by rw [State.entry, raise_alerts]; rfl
    refine ⟨_, hcomp, ?_, ?_, ?_, enterQueued_faults .., fun m hm => ?_, ?_⟩
    · rw [hentry, enterQueued_entry_self]
      rfl
    · rw [raise_alerts]
      exact mem_enterQueued_queue ..
    · rw [hentry, enterQueued_entry_self]
      exact Bool.or_true _
    · rw [hentry, enterQueued_entry_ne _ _ hm]
    · rw [raise_only]
      rfl
  · exact ⟨alertForward_badArgument hw, alertCancel_badArgument hw⟩
  · exact ⟨alertForward_unknown hw hn, alertCancel_unknown hw hn⟩
  · rw [alertForward_known hw hn, if_pos hp]
  · refine ⟨_, ?_, ?_, mem_enterQueued_queue n .forward s, rfl⟩
    · rw [alertForward_known hw hn, if_neg (not_not.2 hp), if_neg (by rw [hst]; decide), if_pos hst]
    · rw [enterQueued_entry_self]
      rfl
  · rw [alertForward_known hw hn, if_neg (not_not.2 hp), if_pos hst]
  · obtain ⟨hcancel, -, hqueue, -, honly⟩ := cancelled_says n s
    refine ⟨_, ?_, hcancel, ?_, honly⟩
    · rw [alertCancel_known hw hn, cancelEntry_ends (.inr (.inr hst))]
    · rw [hqueue]
      exact fun q hq => bne_iff_ne.1 (List.mem_filter.1 hq).2
  · rw [alertCancel_known hw hn, cancelEntry_airing hst]
  · rw [alertCancel_known hw hn, cancelEntry_final hst]
  · extract_lets forwardable cancellable first
    have hnoAir : (∀ m, (s.entry m).state ≠ .airing) → s.earliest (fun e => e.state == .airing) = none :=
      fun h => earliest_none fun m => beq_eq_false_iff_ne.2 (h m)
    refine ⟨fun hno => ?_, fun n hn => ?_, fun n hn => ?_, fun hair => ⟨fun hno => ?_, fun n hn => ?_⟩⟩
    · rw [forwardButton, earliest_none fun m => Bool.eq_false_iff.2 (mt (forwards_iff _).1 (hno m))]
    · have he := earliest_eq s (fun e => e.state == .pending && e.policy == .manual) n ((forwards_iff _).2 hn.1)
        fun m hm hq => hn.2 m hm ((forwards_iff _).1 hq)
      refine ⟨_, by rw [forwardButton, he], ?_, mem_enterQueued_queue .., fun m hm => enterQueued_entry_ne _ _ hm, rfl⟩
      rw [enterQueued_entry_self]
      rfl
    · obtain ⟨m, hm, hst⟩ := earliest_some (s := s) (q := fun e => e.state == .airing) (n := n) (by simp [hn])
      rw [cancelButton, hm]
      exact cancelEntry_airing (beq_iff_eq.1 hst)
    · rw [cancelButton, hnoAir hair,
        earliest_none fun m => Bool.eq_false_iff.2 (mt (cancels_iff _).1 (hno m))]
    · have he := earliest_eq s (fun e => e.state == .pending || e.state == .queued) n ((cancels_iff _).2 hn.1)
        fun m hm hq => hn.2 m hm ((cancels_iff _).1 hq)
      refine ⟨_, ?_, cancelled_says n s⟩
      rw [cancelButton, hnoAir hair, he]
      exact cancelEntry_ends (.inr hn.1)

end Sys2Proof.Machine


/-! # New alerts: admission, eviction, refusal, duplicates and conflicts (O44) -/

namespace Sys2Proof.Machine

open Sys2Proof

/-! ## The places chosen (R137) -/

section Places
variable {s : State} {n : EntryNo}

/-- Among the eight entries the lowest that satisfies a test is found. -/
theorem find_places8 {q : EntryNo → Bool} (hq : q n = true) (hlow : ∀ m, m < n → q m = false) :
    places8.find? q = some n := by
  have hsplit : ∀ n : EntryNo, places8 = places8.take n.val ++ n :: places8.drop (n.val + 1) ∧
      ∀ m ∈ places8.take n.val, m < n := by decide
  obtain ⟨heq, hbefore⟩ := hsplit n
  exact List.find?_eq_some_iff_append.2 ⟨hq, _, _, heq, fun m hm => by rw [hlow m (hbefore m hm)]; rfl⟩

theorem freeEntry_eq (hf : (s.entry n).state = .free) (hlow : ∀ m, m < n → (s.entry m).state ≠ .free) :
    s.freeEntry = some n := find_places8 (beq_iff_eq.2 hf) fun m hm => beq_eq_false_iff_ne.2 (hlow m hm)

theorem freeEntry_none (h : ∀ m, (s.entry m).state ≠ .free) : s.freeEntry = none :=
  List.find?_eq_none.2 fun m _ => by simpa using h m

theorem evictable_none (h : ∀ m, (s.entry m).state.final = false) : s.evictable = none := by
  have hnil : places8.filter (fun n => (s.entry n).state.final) = [] := List.filter_eq_nil_iff.2 fun m _ => by simp [h m]
  rw [State.evictable, hnil]
  rfl

theorem exists_get_of_mem {t : Eight AlertEntry} {e : AlertEntry} (h : e ∈ t.toList) : ∃ n : EntryNo, t.get n = e := by
  simp only [Eight.toList, List.mem_cons, List.not_mem_nil, or_false] at h
  rcases h with rfl | rfl | rfl | rfl | rfl | rfl | rfl | rfl
  exacts [⟨0, rfl⟩, ⟨1, rfl⟩, ⟨2, rfl⟩, ⟨3, rfl⟩, ⟨4, rfl⟩, ⟨5, rfl⟩, ⟨6, rfl⟩, ⟨7, rfl⟩]

theorem slotFree_iff (s : State) (k : SlotId) : s.slotFree k = true ↔ ∀ m, (s.entry m).slot ≠ some k := by
  rw [State.slotFree, Bool.not_eq_true', List.any_eq_false]
  simp only [beq_iff_eq]
  refine ⟨fun h m => h _ (mem_toList _ m), fun h e he => ?_⟩
  obtain ⟨m, rfl⟩ := exists_get_of_mem he
  exact h m

/-- The lowest free record slot is taken. -/
theorem freeSlot_eq {k : SlotId} (hk : s.slotFree k = true) (hlow : k = .b → ¬s.slotFree .a = true) :
    s.freeSlot = some k := by
  unfold State.freeSlot
  cases k with
  | a => exact if_pos hk
  | b => exact (if_neg (hlow rfl)).trans (if_pos hk)

theorem freeSlot_none (ha : ¬s.slotFree .a = true) (hb : ¬s.slotFree .b = true) : s.freeSlot = none :=
  (if_neg ha).trans (if_neg hb)

end Places

/-! ## Admission -/

section Admission
variable {s v : State} {n : EntryNo} {p : PortId} {f : HandedFrame} {r : Policy × Resolution}

/-- A PENDING entry's timers as its policy sets them. -/
def AlertEntry.timed (now : Time) (x : AlertSettings) (e : AlertEntry) : AlertEntry :=
  if e.policy = .auto then { e with holdUntil := some (later now (seconds x.forwardHold)) }
  else if e.policy = .manual ∧ x.manualDeadline ≠ 0 then
    { e with deadline := some (later now (seconds x.manualDeadline)) }
  else e

theorem setEntry_self (s : State) (n : EntryNo) : s.setEntry n (s.entry n) = s := by
  unfold State.setEntry State.entry
  rw [Eight.set_get_self]

theorem settlePending_timed (h : (s.entry n).flags.forwardOnCompletion = false) :
    settlePending n s = s.setEntry n ((s.entry n).timed s.time s.sections.policy) := by
  unfold settlePending AlertEntry.timed
  dsimp only
  rw [h, if_neg (fun hc => Bool.false_ne_true hc.2)]
  split_ifs
  · rfl
  · rfl
  · exact (setEntry_self s n).symm

/-- The entry that an admission leaves: with its timers where it is PENDING at once. -/
def admittedNow (p : PortId) (f : HandedFrame) (r : Policy × Resolution) (s : State) : AlertEntry :=
  let e := admittedEntry p f r s.freeSlot
  if e.state = .pending then e.timed s.time s.sections.policy else e

/-- The part with the entry taken and ALERT_RECEIVED handed, before any timer. -/
def State.admitting (n : EntryNo) (p : PortId) (f : HandedFrame) (r : Policy × Resolution) (v : State) : State :=
  { handLog (receivedEntry v.time true (n.val + 1) p f.bytes (admittedEntry p f r v.freeSlot).state r) v with
    alerts := { v.alerts with
      entry := v.alerts.entry.set n (admittedEntry p f r v.freeSlot)
      full := if (admittedEntry p f r v.freeSlot).state.final then false else v.alerts.full } }

theorem admitAlert_admitting (n : EntryNo) (p : PortId) (f : HandedFrame) (r : Policy × Resolution) (v : State) :
    admitAlert n p f r v = if (admittedEntry p f r v.freeSlot).state = .pending
      then settlePending n (v.admitting n p f r) else v.admitting n p f r := by
  unfold admitAlert State.admitting
  by_cases hf : (admittedEntry p f r v.freeSlot).state.final = true
  · simp only [if_pos hf]
    rfl
  · simp only [if_neg hf]
    rfl

/-- What an admission does: the entry, the end of the table's fullness, and ALERT_RECEIVED. -/
theorem admitAlert_eq (n : EntryNo) (p : PortId) (f : HandedFrame) (r : Policy × Resolution) (v : State) :
    admitAlert n p f r v = { v.admitting n p f r with
      alerts := { (v.admitting n p f r).alerts with entry := v.alerts.entry.set n (admittedNow p f r v) } } := by
  have hentry : (v.admitting n p f r).entry n = admittedEntry p f r v.freeSlot := Eight.get_set_self ..
  rw [admitAlert_admitting]
  unfold admittedNow
  dsimp only
  split_ifs with hp
  · rw [settlePending_timed (by rw [hentry]; rfl), hentry]
    simp only [State.setEntry, State.admitting, Eight.set_set]
    rfl
  · rfl

/-- An alert that is to air takes a slot and records, or is PENDING with NO_AUDIO. -/
theorem admittedEntry_airs (slot : Option SlotId) (h : r.1 = .auto ∨ r.1 = .manual) :
    (admittedEntry p f r slot).state = (if slot.isSome then .recording else .pending) ∧
      (admittedEntry p f r slot).slot = slot ∧ (admittedEntry p f r slot).flags.noAudio = slot.isNone := by
  have hairs : (r.1 == .auto || r.1 == .manual) = true := by simpa using h
  simp only [admittedEntry, hairs]
  exact ⟨rfl, rfl, rfl⟩

/-- Any other is NOTED. -/
theorem admittedEntry_noted (slot : Option SlotId) (h : r.1 = .ignore ∨ r.1 = .logOnly) :
    (admittedEntry p f r slot).state = .noted ∧ (admittedEntry p f r slot).slot = none ∧
      (admittedEntry p f r slot).flags.noAudio = false := by
  have hairs : (r.1 == .auto || r.1 == .manual) = false := by
    rcases h with h | h <;> rw [h] <;> rfl
  simp only [admittedEntry, hairs]
  exact ⟨rfl, rfl, rfl⟩

theorem timed_only (now : Time) (x : AlertSettings) (e : AlertEntry) :
    e.timed now x = { e with holdUntil := (e.timed now x).holdUntil, deadline := (e.timed now x).deadline } := by
  unfold AlertEntry.timed
  split_ifs <;> rfl

theorem admittedNow_only (p : PortId) (f : HandedFrame) (r : Policy × Resolution) (v : State) :
    admittedNow p f r v = { admittedEntry p f r v.freeSlot with
      holdUntil := (admittedNow p f r v).holdUntil, deadline := (admittedNow p f r v).deadline } := by
  unfold admittedNow
  dsimp only
  split_ifs
  · rw [← timed_only]
  · rfl

/-- What R137 says of the entry that a new alert takes. -/
def Admits (p : PortId) (f : HandedFrame) (r : Policy × Resolution) (s : State) (n : EntryNo) (e : AlertEntry) : Prop :=
  let unheld (k : SlotId) : Prop := ∀ m, m ≠ n → (s.entry m).slot ≠ some k
  (e.ident = headerIdentity f.bytes ∧ e.originClass = headerClass f.bytes ∧ e.event = headerEvent f.bytes ∧
    e.areas = headerAreas f.bytes ∧ e.issue = headerIssue f.bytes ∧ e.duration = headerDuration f.bytes ∧
    e.received = f.time ∧ e.expiry = f.time + BitVec.ofNat 48 (headerDuration f.bytes * 2880000) ∧
    e.heardA = (p == .a) ∧ e.heardB = (p == .b) ∧ e.copies = 1 ∧ e.policy = r.1 ∧ e.resolution = r.2 ∧
    e.recPort = p ∧ e.recLen = 0 ∧ e.flags.truncated = false) ∧
  (r.1 = .ignore ∨ r.1 = .logOnly → e.state = .noted ∧ e.slot = none ∧ e.flags.noAudio = false) ∧
  (r.1 = .auto ∨ r.1 = .manual →
    (∀ k, unheld k → (k = .b → ¬unheld .a) → e.state = .recording ∧ e.slot = some k ∧ e.flags.noAudio = false) ∧
    (¬unheld .a → ¬unheld .b → e.state = .pending ∧ e.slot = none ∧ e.flags.noAudio = true ∧
      (r.1 = .auto → e.holdUntil = some (s.time + BitVec.ofNat 48 (s.sections.policy.forwardHold * 48000))) ∧
      (r.1 = .manual → e.holdUntil = none ∧ e.deadline = if s.sections.policy.manualDeadline = 0 then none
        else some (s.time + BitVec.ofNat 48 (s.sections.policy.manualDeadline * 48000)))))

/-- Where the entry taken holds no slot, the slots held are those of the others. -/
theorem slotFree_unheld (h : (v.entry n).slot = none) (k : SlotId) :
    v.slotFree k = true ↔ ∀ m, m ≠ n → (v.entry m).slot ≠ some k := by
  rw [slotFree_iff]
  refine ⟨fun hs m _ => hs m, fun hs m => ?_⟩
  by_cases hm : m = n
  · rw [hm, h]
    exact fun hc => nomatch hc
  · exact hs m hm

/-- The entry an admission leaves is as R137 says. -/
theorem admits_admittedNow (h : (v.entry n).slot = none) : Admits p f r v n (admittedNow p f r v) := by
  unfold Admits
  extract_lets unheld
  have hfree : ∀ k, v.slotFree k = true ↔ unheld k := fun k => slotFree_unheld h k
  have honly := admittedNow_only p f r v
  refine ⟨?_, fun hp => ?_, fun hp => ⟨fun k hk hlow => ?_, fun ha hb => ?_⟩⟩
  · rw [honly]
    exact ⟨rfl, rfl, rfl, rfl, rfl, rfl, rfl, rfl, rfl, rfl, rfl, rfl, rfl, rfl, rfl, rfl⟩
  · rw [honly]
    exact admittedEntry_noted (p := p) (f := f) v.freeSlot hp
  · have hslot := freeSlot_eq ((hfree k).2 hk) fun hb => mt (hfree .a).1 (hlow hb)
    have hair := admittedEntry_airs (p := p) (f := f) v.freeSlot hp
    rw [honly]
    rw [hslot] at hair ⊢
    exact hair
  · have hslot := freeSlot_none (mt (hfree .a).1 ha) (mt (hfree .b).1 hb)
    obtain ⟨hstate, hnone, haudio⟩ := admittedEntry_airs (p := p) (f := f) v.freeSlot hp
    rw [hslot] at hstate hnone haudio
    have hnow : admittedNow p f r v = (admittedEntry p f r none).timed v.time v.sections.policy := by
      unfold admittedNow
      rw [hslot]
      exact if_pos hstate
    have hpol : (admittedEntry p f r none).policy = r.1 := rfl
    refine ⟨?_, ?_, ?_, fun hauto => ?_, fun hman => ?_⟩
    · rw [hnow, timed_only]
      exact hstate
    · rw [hnow, timed_only]
      exact hnone
    · rw [hnow, timed_only]
      exact haudio
    · rw [hnow, AlertEntry.timed, hpol, if_pos hauto]
      rfl
    · rw [hnow, AlertEntry.timed, hpol, hman, if_neg (by decide)]
      by_cases hz : v.sections.policy.manualDeadline = 0
      · rw [if_neg (fun hc => hc.2 hz), if_pos hz]
        exact ⟨rfl, rfl⟩
      · rw [if_pos ⟨rfl, hz⟩, if_neg hz]
        exact ⟨rfl, rfl⟩

theorem admittedNow_state (p : PortId) (f : HandedFrame) (r : Policy × Resolution) (v : State) :
    (admittedNow p f r v).state = (admittedEntry p f r v.freeSlot).state := by
  rw [admittedNow_only]

/-- What an admission changes and what it hands. -/
theorem admitAlert_says (h : (v.entry n).slot = none) :
    let t := admitAlert n p f r v
    Admits p f r v n (t.entry n) ∧ (∀ m, m ≠ n → t.entry m = v.entry m) ∧ t.alerts.queue = v.alerts.queue ∧
      t.alerts.slot = v.alerts.slot ∧
      t.log = (handLog (receivedEntry v.time true (n.val + 1) p f.bytes (t.entry n).state r) v).log ∧
      t.decoder = v.decoder ∧ t = { v with alerts := t.alerts, log := t.log } := by
  intro t
  have ht : t = _ := admitAlert_eq n p f r v
  have hself : t.entry n = admittedNow p f r v := by
    rw [ht]
    exact Eight.get_set_self ..
  have hother : ∀ m, m ≠ n → t.entry m = v.entry m := fun m hm => by
    rw [ht]
    exact Eight.get_set_ne _ _ hm
  refine ⟨?_, hother, ?_, ?_, ?_, ?_, ?_⟩
  · rw [hself]
    exact admits_admittedNow h
  · rw [ht]
    rfl
  · rw [ht]
    rfl
  · rw [hself, admittedNow_state, ht]
    rfl
  · rw [ht]
    rfl
  · rw [ht]
    rfl

end Admission

/-! ## The frame taken from the decoder (R132) -/

section Taking
variable {s : State} {p : PortId} {f : HandedFrame} {rest : List HandedFrame}

theorem firstHanded_header (h : (s.decoder.get p).handed = f :: rest) (hh : isAlertHeader f.bytes = true) :
    s.firstHanded p true = some f := by
  unfold State.firstHanded
  rw [h]
  exact if_pos hh

theorem completes_alertHeader (h : (s.decoder.get p).handed = f :: rest) (hh : isAlertHeader f.bytes = true) :
    Completes (.alertHeader p) s (tableHeader p f (takeHanded p s)) := by
  unfold Completes
  show execAlertHeader p s = _
  rw [execAlertHeader, firstHanded_header h hh]

theorem takeHanded_handed (h : (s.decoder.get p).handed = f :: rest) :
    ((takeHanded p s).decoder.get p).handed = rest := by
  rw [takeHanded, State.decoder_setDecoder_self, h]
  rfl

end Taking

/-! ## Eviction and refusal (R137) -/

section Full
variable {s v : State} {n : EntryNo} {p : PortId} {f : HandedFrame} {r : Policy × Resolution}

theorem Admits.congr {e : AlertEntry} (h : Admits p f r v n e) (he : ∀ m, m ≠ n → v.entry m = s.entry m)
    (ht : v.time = s.time) (hs : v.sections = s.sections) : Admits p f r s n e := by
  have hu : ∀ k : SlotId, (∀ m, m ≠ n → (v.entry m).slot ≠ some k) ↔ (∀ m, m ≠ n → (s.entry m).slot ≠ some k) :=
    fun k => forall_congr' fun m => forall_congr' fun hm => by rw [he m hm]
  unfold Admits at h ⊢
  simp only [hu, ht, hs] at h
  exact h

theorem evict_entry_self (n : EntryNo) (s : State) : (evict n s).entry n = AlertEntry.blank := Eight.get_set_self ..

theorem evict_entry_ne (s : State) {m : EntryNo} (h : m ≠ n) : (evict n s).entry m = s.entry m := Eight.get_set_ne _ _ h

/-- A refusal raises ALERT_TABLE_FULL where the condition is new, and hands ALERT_RECEIVED. -/
theorem refuseAlert_eq (p : PortId) (f : HandedFrame) (r : Policy × Resolution) (s : State) :
    refuseAlert p f r s = { handLog (receivedEntry s.time false 0 p f.bytes .free r)
        (if s.alerts.full then s else raise ⟨.alertTableFull, .alertUnit, (headerIdentity f.bytes).sender,
          (headerIdentity f.bytes).message, 0, zeros16⟩ s) with
      alerts := { s.alerts with full := true } } := by
  unfold refuseAlert
  cases hf : s.alerts.full
  · have hr := raise_eq ⟨.alertTableFull, .alertUnit, (headerIdentity f.bytes).sender,
      (headerIdentity f.bytes).message, 0, zeros16⟩ (s := s) (t := { s with alerts := { s.alerts with full := true } })
      rfl rfl rfl rfl rfl
    simp only [Raising.plain, if_neg Bool.false_ne_true]
    rw [hr, raise_only _ s]
    rfl
  · have hsame : { s.alerts with full := true } = s.alerts := by rw [← hf]
    simp only [if_pos]
    rw [hsame]
    rfl

end Full

/-! ## Duplicates and conflicts (R132, R133) -/

section Known
variable {s : State} {n : EntryNo} {p : PortId}

theorem hear_heard (p : PortId) (e : AlertEntry) :
    (e.hear p).heardA = (e.heardA || p == .a) ∧ (e.hear p).heardB = (e.heardB || p == .b) ∧
      (e.hear p).copies = e.copies ∧ (e.hear p).policy = e.policy := by
  cases p
  · exact ⟨(Bool.or_true _).symm, (Bool.or_false _).symm, rfl, rfl⟩
  · exact ⟨(Bool.or_false _).symm, (Bool.or_true _).symm, rfl, rfl⟩

theorem satInc_eq (top n : Nat) : satInc top n = min (n + 1) (max top n) := by
  unfold satInc
  split_ifs <;> omega

/-- What a duplicate leaves. -/
theorem duplicateHeader_says (n : EntryNo) (p : PortId) (s : State) :
    let t := duplicateHeader n p s
    (t.entry n).copies = min ((s.entry n).copies + 1) (max 65535 (s.entry n).copies) ∧
      (t.entry n).heardA = ((s.entry n).heardA || p == .a) ∧ (t.entry n).heardB = ((s.entry n).heardB || p == .b) ∧
      (t.entry n).state = (s.entry n).state ∧ (t.entry n).policy = (s.entry n).policy ∧
      (∀ m, m ≠ n → t.entry m = s.entry m) ∧ ((s.entry n).policy = .ignore → t.log = s.log) ∧
      t = { s with alerts := t.alerts, log := t.log } := by
  intro t
  have halerts : t.alerts = (s.setEntry n (({ s.entry n with copies := satInc 65535 (s.entry n).copies }).hear p)).alerts := by
    simp only [t, duplicateHeader]
    split_ifs <;> rfl
  have hself : t.entry n = ({ s.entry n with copies := satInc 65535 (s.entry n).copies }).hear p := by
    rw [State.entry, halerts]
    exact Eight.get_set_self ..
  obtain ⟨ha, hb, hc, hp⟩ := hear_heard p { s.entry n with copies := satInc 65535 (s.entry n).copies }
  rw [hself, ha, hb, hc, hp, (hear_state ..).1]
  refine ⟨satInc_eq .., rfl, rfl, rfl, rfl, fun m hm => ?_, fun hi => ?_, ?_⟩
  · rw [State.entry, halerts]
    exact Eight.get_set_ne _ _ hm
  · simp only [t, duplicateHeader]
    rw [if_pos hi]
    rfl
  · simp only [t, duplicateHeader]
    split_ifs <;> rfl

end Known

/-- A refusal after the frame has been taken from its decoder. -/
theorem refuseAlert_taken (p : PortId) (f : HandedFrame) (r : Policy × Resolution) (s : State) :
    refuseAlert p f r (takeHanded p s) = { handLog (receivedEntry s.time false 0 p f.bytes .free r)
        (if s.alerts.full then s else raise ⟨.alertTableFull, .alertUnit, (headerIdentity f.bytes).sender,
          (headerIdentity f.bytes).message, 0, zeros16⟩ s) with
      decoder := (takeHanded p s).decoder, alerts := { s.alerts with full := true } } := by
  rw [refuseAlert_eq, takeHanded, raise_setDecoder]
  cases hf : s.alerts.full
  · rw [show (s.setDecoder p _).alerts.full = false from hf]
    rfl
  · rw [show (s.setDecoder p _).alerts.full = true from hf]
    rfl

/-- Settles O44. -/
theorem newAlertIsAdmitted : Obligations.NewAlertIsAdmitted := by
  unfold Obligations.NewAlertIsAdmitted
  intro s p f rest hhand hhead i r free final distance unheld admitted taken
  have hcomp := completes_alertHeader hhand hhead
  have hrest := takeHanded_handed hhand
  have htable : ∀ t, tableHeader p f (takeHanded p s) = t → t.decoder = (takeHanded p s).decoder → taken t := by
    intro t ht hd
    refine ⟨ht ▸ hcomp, ?_⟩
    rw [hd]
    exact hrest
  have hholder : (takeHanded p s).holder (headerIdentity f.bytes) = s.holder i := rfl
  refine ⟨fun hnew => ?_, fun n hold => ?_⟩
  · have htab : tableHeader p f (takeHanded p s) = newAlert p f (takeHanded p s) := by
      rw [tableHeader, hholder, hnew]
    refine ⟨fun n hf hlow hslot => ?_, fun n hnone hfin hleast => ?_, fun hno => ?_⟩
    · have hfree : (takeHanded p s).freeEntry = some n := freeEntry_eq hf hlow
      have hadm : newAlert p f (takeHanded p s) = admitAlert n p f r (takeHanded p s) := by
        rw [newAlert, hfree]
        rfl
      obtain ⟨hsays, hother, hqueue, hslots, hlog, hdec, honly⟩ :=
        admitAlert_says (v := takeHanded p s) (n := n) (p := p) (f := f) (r := r) hslot
      refine ⟨_, htable _ (htab.trans hadm) hdec, ?_⟩
      obtain ⟨hfields, hnoted, hairs⟩ := hsays
      refine ⟨hfields, hnoted, hairs, hother, hqueue, hslots, hlog, ?_⟩
      rw [honly]
      rfl
    · have hfree : (takeHanded p s).freeEntry = none := freeEntry_none hnone
      have hev : (takeHanded p s).evictable = some n := evictable_eq _ n hfin hleast
      have hadm : newAlert p f (takeHanded p s) = admitAlert n p f r (evict n (takeHanded p s)) := by
        rw [newAlert, hfree, hev]
        rfl
      have hslot : ((evict n (takeHanded p s)).entry n).slot = none := by
        rw [evict_entry_self]
        rfl
      obtain ⟨hsays, hother, hqueue, hslots, hlog, hdec, honly⟩ :=
        admitAlert_says (p := p) (f := f) (r := r) hslot
      refine ⟨_, htable _ (htab.trans hadm) hdec, ?_⟩
      obtain ⟨hfields, hnoted, hairs⟩ := hsays.congr (s := s) (fun m hm => evict_entry_ne _ hm) rfl rfl
      refine ⟨hfields, hnoted, hairs, fun m hm => (hother m hm).trans (evict_entry_ne _ hm), hqueue, hslots, hlog, ?_⟩
      rw [honly]
      rfl
    · have hfree : (takeHanded p s).freeEntry = none := freeEntry_none fun m => (hno m).1
      have hev : (takeHanded p s).evictable = none := evictable_none fun m => Bool.eq_false_iff.2 (hno m).2
      have hrefuse : newAlert p f (takeHanded p s) = refuseAlert p f r (takeHanded p s) := by
        rw [newAlert, hfree, hev]
        rfl
      rw [refuseAlert_taken] at hrefuse
      refine ⟨_, htable _ (htab.trans hrefuse) rfl, fun m => rfl, rfl, rfl⟩
  · extract_lets differ
    have htab : tableHeader p f (takeHanded p s) =
        if differ.any id then conflictHeader n p f.bytes (takeHanded p s) else duplicateHeader n p (takeHanded p s) := by
      rw [tableHeader, hholder, hold]
      rfl
    refine ⟨fun hd => ?_, fun hd => ?_⟩
    · rw [if_pos hd] at htab
      exact ⟨_, htable _ htab rfl, rfl⟩
    · rw [hd, if_neg Bool.false_ne_true] at htab
      obtain ⟨hcopies, hheardA, hheardB, hstate, hpolicy, hother, hlog, honly⟩ := duplicateHeader_says n p (takeHanded p s)
      refine ⟨_, htable _ htab ?_, hcopies, hheardA, hheardB, hstate, hpolicy, hother, ?_, hlog, ?_⟩
      · rw [honly]
      · rw [honly]
        rfl
      · rw [honly]
        rfl


end Sys2Proof.Machine


/-! # Recordings and expiry (O45) -/

namespace Sys2Proof.Machine

open Sys2Proof

/-! ## A block of a recording (R138) -/

section Recording
variable {s t : State} {n : EntryNo} {k : SlotId}

/-- An entry's recorder writes at this boundary. -/
def AlertEntry.records (e : AlertEntry) : Prop := e.state = .recording ∧ e.started = true ∧ e.recLen < 5760000

theorem recordBlock_off (h : ¬(s.entry n).records) : recordBlock n s = s := by
  unfold recordBlock
  dsimp only
  split
  · rfl
  · exact if_neg h

theorem recordBlock_on (hk : (s.entry n).slot = some k) (h : (s.entry n).records) :
    recordBlock n s = State.setEntry
      { s with alerts := { s.alerts with
          slot := s.alerts.slot.set k (writeBlock (s.entry n).recLen
            (makeBlock (sampleAt (s.mixer.input.alertAudio.get (s.entry n).recPort))) (s.alerts.slot.get k)) } }
      n { s.entry n with recLen := (s.entry n).recLen + 240 } := by
  unfold recordBlock
  dsimp only
  rw [hk]
  exact if_pos h

/-- The entry n, its slot k and the audio stand in t as in s, and every entry has its slot. -/
structure Apart (n : EntryNo) (k : SlotId) (s t : State) : Prop where
  entry : t.entry n = s.entry n
  slot : t.alerts.slot.get k = s.alerts.slot.get k
  mixer : t.mixer = s.mixer
  held : ∀ m, (t.entry m).slot = (s.entry m).slot

theorem Apart.refl (n : EntryNo) (k : SlotId) (s : State) : Apart n k s s := ⟨rfl, rfl, rfl, fun _ => rfl⟩

theorem Apart.trans {u : State} (h : Apart n k s t) (h' : Apart n k t u) : Apart n k s u :=
  ⟨h'.entry.trans h.entry, h'.slot.trans h.slot, h'.mixer.trans h.mixer, fun m => (h'.held m).trans (h.held m)⟩

theorem recordBlock_mixer (m : EntryNo) (s : State) : (recordBlock m s).mixer = s.mixer := by rw [recordBlock_only]

theorem recordBlock_held (m j : EntryNo) (s : State) : ((recordBlock m s).entry j).slot = (s.entry j).slot := by
  by_cases h : (s.entry m).records
  · cases hk : (s.entry m).slot with
    | none =>
      unfold recordBlock
      dsimp only
      rw [hk]
    | some k =>
      rw [recordBlock_on hk h, setEntry_entry]
      split
      · rename_i hj
        rw [hj]
      · rfl
  · rw [recordBlock_off h]

/-- Another entry's recorder leaves the entry and its slot. -/
theorem recordBlock_apart {m : EntryNo} (hm : m ≠ n) (hk : (s.entry m).slot ≠ some k) : Apart n k s (recordBlock m s) := by
  refine ⟨?_, ?_, recordBlock_mixer m s, fun j => recordBlock_held m j s⟩
  · by_cases h : (s.entry m).records
    · cases hj : (s.entry m).slot with
      | none =>
        unfold recordBlock
        dsimp only
        rw [hj]
      | some j =>
        rw [recordBlock_on hj h, setEntry_entry, if_neg hm.symm]
        rfl
    · rw [recordBlock_off h]
  · by_cases h : (s.entry m).records
    · cases hj : (s.entry m).slot with
      | none =>
        unfold recordBlock
        dsimp only
        rw [hj]
      | some j =>
        have hne : k = j.other := (Side.eq_or_other j k).resolve_left fun e => hk (e ▸ hj)
        rw [recordBlock_on hj h, hne]
        exact Two.get_set_other ..
    · rw [recordBlock_off h]

theorem recordBlocks_apart (l : List EntryNo) (s : State) (hl : n ∉ l) (hk : ∀ m, m ≠ n → (s.entry m).slot ≠ some k) :
    Apart n k s (l.foldl (fun s n => recordBlock n s) s) := by
  induction l generalizing s with
  | nil => exact .refl n k s
  | cons m l ih =>
    obtain ⟨hmn, hml⟩ := not_or.1 (mt List.mem_cons.2 hl)
    have h := recordBlock_apart (Ne.symm hmn) (hk m (Ne.symm hmn))
    exact h.trans (ih _ hml fun j hj => by rw [h.held j]; exact hk j hj)

/-- An entry and its slot after every recorder's block are those after its own. -/
theorem completeRecordings_says (hk : ∀ m, m ≠ n → (s.entry m).slot ≠ some k) (hn : (s.entry n).slot = some k) :
    ((completeRecordings s).entry n = if (s.entry n).state = .recording ∧ (s.entry n).started = true ∧
        (s.entry n).recLen < 5760000 then { s.entry n with recLen := (s.entry n).recLen + 240 } else s.entry n) ∧
      (completeRecordings s).alerts.slot.get k = if (s.entry n).state = .recording ∧ (s.entry n).started = true ∧
        (s.entry n).recLen < 5760000 then writeBlock (s.entry n).recLen
          (makeBlock (sampleAt (s.mixer.input.alertAudio.get (s.entry n).recPort))) (s.alerts.slot.get k)
        else s.alerts.slot.get k := by
  have hsplit : ∀ n : EntryNo, places8 = places8.take n.val ++ n :: places8.drop (n.val + 1) ∧
      n ∉ places8.take n.val ∧ n ∉ places8.drop (n.val + 1) := by decide
  obtain ⟨hplaces, hbefore, hafter⟩ := hsplit n
  have hfold : completeRecordings s = (places8.drop (n.val + 1)).foldl (fun s n => recordBlock n s)
      (recordBlock n ((places8.take n.val).foldl (fun s n => recordBlock n s) s)) := by
    unfold completeRecordings
    conv_lhs => rw [hplaces]
    rw [List.foldl_append, List.foldl_cons]
  have h1 := recordBlocks_apart (places8.take n.val) s hbefore hk
  rw [hfold]
  generalize (places8.take n.val).foldl (fun s n => recordBlock n s) s = u at h1
  have h2 := recordBlocks_apart (places8.drop (n.val + 1)) (recordBlock n u) hafter fun j hj => by
    rw [recordBlock_held, h1.held]
    exact hk j hj
  rw [h2.entry, h2.slot]
  have hun : (u.entry n).slot = some k := by rw [h1.entry]; exact hn
  split_ifs with hrec
  · have hon : (u.entry n).records := by rw [h1.entry]; exact hrec
    rw [recordBlock_on hun hon, setEntry_entry, if_pos rfl, h1.entry, h1.mixer, h1.slot]
    exact ⟨rfl, Two.get_set_self ..⟩
  · have hoff : ¬(u.entry n).records := by rw [h1.entry]; exact hrec
    rw [recordBlock_off hoff]
    exact ⟨h1.entry, h1.slot⟩

/-- A block is written at the end of what the slot holds, and the older samples stay. -/
theorem writeBlock_says {len : Nat} {audio old : List Sample} (h : len ≤ old.length) :
    (∀ i, i < len → sampleAt (writeBlock len (makeBlock (sampleAt audio)) old) i = sampleAt old i) ∧
      ∀ i, i < 240 → sampleAt (writeBlock len (makeBlock (sampleAt audio)) old) (len + i) = sampleAt audio i := by
  have htake : (old.take len).length = len := List.length_take_of_le h
  have hblock : (makeBlock (sampleAt audio)).length = 240 := makeBlock_length _
  have hgiven : ∀ i, i < 240 → (makeBlock (sampleAt audio)).getD i 0 = sampleAt audio i := fun i hi => makeBlock_getD _ _ _ hi
  generalize makeBlock (sampleAt audio) = block at hblock hgiven ⊢
  unfold writeBlock
  refine ⟨fun i hi => ?_, fun i hi => ?_⟩
  · rw [sampleAt, sampleAt, List.append_assoc, List.getD_append _ _ _ _ (by omega), List.getD_eq_getElem?_getD, List.getD_eq_getElem?_getD,
      List.getElem?_take_of_lt hi]
  · rw [sampleAt, List.append_assoc, List.getD_append_right _ _ _ _ (by omega), htake, Nat.add_sub_cancel_left,
      List.getD_append _ _ _ _ (by omega)]
    exact hgiven i hi

/-! The rest of a boundary changes neither. -/

theorem noteLinkDown_entry (s : State) (n : EntryNo) : ((noteLinkDown s).entry n).recLen = (s.entry n).recLen ∧
    ((noteLinkDown s).entry n).state = (s.entry n).state ∧ (noteLinkDown s).alerts.slot = s.alerts.slot := by
  unfold noteLinkDown
  split
  · exact ⟨rfl, rfl, rfl⟩
  · split
    · rw [setEntry_entry]
      split
      · rename_i hn
        rw [hn]
        exact ⟨rfl, rfl, rfl⟩
      · exact ⟨rfl, rfl, rfl⟩
    · exact ⟨rfl, rfl, rfl⟩

theorem boundary_alerts (input : BlockInput) (s : State) :
    (beginBlock input s.airBlockNow.flags (advanceTime (completeBlock s))).alerts =
      (noteLinkDown (completeRecordings (completeAudio s))).alerts.settled := by
  rw [beginBlock_only]
  show (completeBlock s).alerts.settled = _
  unfold completeBlock completeCounts
  dsimp only
  rw [noteNoFill_only]

theorem boundary_entry (input : BlockInput) (s : State) (n : EntryNo) :
    let t := beginBlock input s.airBlockNow.flags (advanceTime (completeBlock s))
    (t.entry n).recLen = ((completeRecordings (completeAudio s)).entry n).recLen ∧
      (t.entry n).state = ((completeRecordings (completeAudio s)).entry n).state ∧
      t.alerts.slot = (completeRecordings (completeAudio s)).alerts.slot := by
  intro t
  have ha : t.alerts = _ := boundary_alerts input s
  obtain ⟨hlen, hstate, hslot⟩ := noteLinkDown_entry (completeRecordings (completeAudio s)) n
  have he : t.entry n = { (noteLinkDown (completeRecordings (completeAudio s))).entry n with fresh := false } := by
    rw [State.entry, ha]
    exact Eight.get_map ..
  rw [he, ha]
  exact ⟨hlen, hstate, hslot⟩

end Recording

/-! ## The end of a recording (R139, R140) -/

section Ends
variable {s : State} {n : EntryNo}

/-- An entry whose recording has ended. -/
def AlertEntry.recorded (truncated : Bool) (e : AlertEntry) : AlertEntry :=
  { e with
    state := .pending, started := false, mark := none, fresh := true
    flags := { e.flags with
      truncated := e.flags.truncated || truncated, noAudio := e.flags.noAudio || e.recLen == 0 } }

/-- Under MANUAL with no deadline and no forward on completion the entry waits. -/
theorem endRecording_waits (tr : Bool) (c : AlertCause) (hp : (s.entry n).policy = .manual)
    (hf : (s.entry n).flags.forwardOnCompletion = false) (hd : s.sections.policy.manualDeadline = 0) :
    endRecording n tr c s =
      logAlert n .recording c (s.entry n).recLen (s.setEntry n ((s.entry n).recorded tr)) := by
  have heq : endRecording n tr c s =
      settlePending n (logAlert n .recording c (s.entry n).recLen (s.setEntry n ((s.entry n).recorded tr))) := rfl
  have hentry : (logAlert n .recording c (s.entry n).recLen (s.setEntry n ((s.entry n).recorded tr))).entry n =
      (s.entry n).recorded tr := Eight.get_set_self ..
  have hpolicy : (logAlert n .recording c (s.entry n).recLen
      (s.setEntry n ((s.entry n).recorded tr))).sections.policy = s.sections.policy := rfl
  rw [heq]
  generalize logAlert n .recording c (s.entry n).recLen (s.setEntry n ((s.entry n).recorded tr)) = t at hentry hpolicy ⊢
  have htimed : (t.entry n).timed t.time t.sections.policy = t.entry n := by
    rw [hentry, hpolicy, AlertEntry.timed, show ((s.entry n).recorded tr).policy = .manual from hp, if_neg (by decide),
      if_neg (fun h => h.2 hd)]
  rw [settlePending_timed (by rw [hentry]; exact hf), htimed, setEntry_self]

theorem recorded_entry_self (tr : Bool) (c : AlertCause) (l : Nat) :
    (logAlert n .recording c l (s.setEntry n ((s.entry n).recorded tr))).entry n = (s.entry n).recorded tr :=
  Eight.get_set_self ..

theorem recorded_entry_ne (tr : Bool) (c : AlertCause) (l : Nat) {m : EntryNo} (h : m ≠ n) :
    (logAlert n .recording c l (s.setEntry n ((s.entry n).recorded tr))).entry m = s.entry m := Eight.get_set_ne _ _ h

theorem not_isFirst {q : AlertEntry → Bool} (h : ∃ m, m < n ∧ q (s.entry m) = true) : ¬s.isFirst q n = true := by
  obtain ⟨m, hm, hq⟩ := h
  rw [isFirst_iff]
  intro hall
  rw [hall m hm] at hq
  exact Bool.false_ne_true hq

theorem ignored_recordingEnd (h : ¬s.isFirst AlertEntry.recordingEnds n = true) : Ignored (.recordingEnd n) s := by
  unfold Ignored
  show execRecordingEnd n s = _
  rw [execRecordingEnd, if_neg fun hc => h hc.2.2]

theorem ignored_recordingFull (h : ¬s.isFirst AlertEntry.recordingEnds n = true) : Ignored (.recordingFull n) s := by
  unfold Ignored
  show execRecordingFull n s = _
  rw [execRecordingFull, if_neg fun hc => h hc.2.2]

theorem completes_recordingEnd_frame (hst : (s.entry n).state = .recording) (hf : (s.entry n).fresh = false)
    (h : s.isFirst AlertEntry.recordingEnds n = true) (hm : (s.entry n).mark = some .endFrame) :
    Completes (.recordingEnd n) s (endRecording n false .recorded s) := by
  unfold Completes
  show execRecordingEnd n s = _
  rw [execRecordingEnd, if_pos ⟨hst, by simp [hf], h⟩, hm]

theorem completes_recordingEnd_break (hst : (s.entry n).state = .recording) (hf : (s.entry n).fresh = false)
    (h : s.isFirst AlertEntry.recordingEnds n = true) (hm : (s.entry n).mark = some .lineBreak) :
    Completes (.recordingEnd n) s (endRecording n true .lineBreak s) := by
  unfold Completes
  show execRecordingEnd n s = _
  rw [execRecordingEnd, if_pos ⟨hst, by simp [hf], h⟩, hm]

/-- A full slot ends the recording, in an end frame's name where one came in the block that filled it. -/
theorem completes_recordingFull (hst : (s.entry n).state = .recording) (hl : 5760000 ≤ (s.entry n).recLen)
    (h : s.isFirst AlertEntry.recordingEnds n = true) : Completes (.recordingFull n) s
      (if (s.entry n).mark = some .endFrame ∧ (!(s.entry n).fresh) = true then endRecording n false .recorded s
        else endRecording n true .full s) := by
  unfold Completes
  show execRecordingFull n s = _
  rw [execRecordingFull, if_pos ⟨hst, hl, h⟩]

/-! An end frame (R139). -/

variable {p : PortId} {f : HandedFrame} {rest : List HandedFrame}

theorem completes_alertEndFrame (hhand : (s.decoder.get p).handed = f :: rest) (hh : isAlertHeader f.bytes = false) :
    Completes (.alertEndFrame p) s (tableEnd p f (takeHanded p s)) := by
  have hfirst : s.firstHanded p false = some f := by
    unfold State.firstHanded
    rw [hhand]
    exact if_pos hh
  unfold Completes
  show execAlertEndFrame p s = _
  rw [execAlertEndFrame, hfirst]

/-- Only an end frame on the recording port marks the recording. -/
theorem tableEnd_eq (hold : s.holder (endIdentity f.bytes) = some n) (hst : (s.entry n).state = .recording) :
    tableEnd p f s = if (s.entry n).recPort = p then s.setEntry n ((s.entry n).marked .endFrame) else s := by
  unfold tableEnd
  rw [hold]
  simp only [hst, true_and]

/-! ## Expiry (R142) -/

theorem expires_iff (st : EntryState) : st.expires = true ↔ st = .recording ∨ st = .pending ∨ st = .queued := by
  cases st <;> decide

theorem expiresNow_iff (now : Time) (e : AlertEntry) : e.expiresNow now = true ↔
    (e.state = .recording ∨ e.state = .pending ∨ e.state = .queued) ∧ reached now e.expiry = true := by
  rw [AlertEntry.expiresNow, Bool.and_eq_true, expires_iff]

theorem ignored_alertExpiry (h : ¬(s.entry n).expiresNow s.time = true ∨ ¬s.isFirst (AlertEntry.expiresNow s.time) n = true) :
    Ignored (.alertExpiry n) s := by
  unfold Ignored
  show execAlertExpiry n s = _
  rw [execAlertExpiry, if_neg (by rwa [Bool.and_eq_true, not_and_or])]

theorem completes_alertExpiry (h : (s.entry n).expiresNow s.time = true)
    (hfirst : s.isFirst (AlertEntry.expiresNow s.time) n = true) : Completes (.alertExpiry n) s (expireEntry n s) := by
  unfold Completes
  show execAlertExpiry n s = _
  rw [execAlertExpiry, if_pos (by rw [h, hfirst]; rfl)]

end Ends

/-- Settles O45. -/
theorem recordingsEndAndAlertsExpire : Obligations.RecordingsEndAndAlertsExpire := by
  unfold Obligations.RecordingsEndAndAlertsExpire
  refine ⟨fun s input n k => ?_, fun s n hst hp hf hd => ⟨fun hs hfr => ?_, fun p f rest hhand hh hold => ?_, ?_⟩, fun s n => ?_⟩
  · extract_lets e old
    intro hk hn hlen
    refine ⟨_, completes_blockBoundary input s, ?_⟩
    extract_lets new
    obtain ⟨hrec, hstate, hslot⟩ := boundary_entry input s n
    obtain ⟨hentry, htape⟩ := completeRecordings_says (s := completeAudio s) (n := n) (k := k) hk hn
    have hnew : new = _ := (congrArg (Two.get · k) hslot).trans htape
    rw [hentry] at hrec hstate
    refine ⟨fun h1 h2 h3 => ?_, fun hno => ?_⟩
    · have hcond : ((completeAudio s).entry n).state = .recording ∧ ((completeAudio s).entry n).started = true ∧
          ((completeAudio s).entry n).recLen < 5760000 := ⟨h1, h2, h3⟩
      rw [if_pos hcond] at hrec hstate hnew
      obtain ⟨hold, hblock⟩ := writeBlock_says (audio := s.mixer.input.alertAudio.get e.recPort) hlen
      rw [hnew]
      exact ⟨hrec, hstate.trans h1, hold, hblock⟩
    · have hcond : ¬(((completeAudio s).entry n).state = .recording ∧ ((completeAudio s).entry n).started = true ∧
          ((completeAudio s).entry n).recLen < 5760000) := by
        rintro ⟨h1, h2, h3⟩
        rcases hno with h | h | h
        · exact h h1
        · exact Bool.false_ne_true (h.symm.trans h2)
        · exact absurd h3 (Nat.not_lt.2 h)
      rw [if_neg hcond] at hrec hnew
      exact ⟨hrec, hnew⟩
  · unfold Completes
    show execRecordingStart n s = _
    rw [execRecordingStart, if_pos ⟨hst, by simp [hs], by simp [hfr]⟩]
  · have hcomp := completes_alertEndFrame hhand hh
    rw [tableEnd_eq (s := takeHanded p s) (n := n) hold hst] at hcomp
    refine ⟨_, hcomp, ?_⟩
    split_ifs with hport
    · refine ⟨takeHanded_handed hhand, fun _ hm => ?_, fun hne => absurd hport hne, rfl⟩
      rw [setEntry_entry, if_pos rfl]
      exact marked_mark _ hm
    · exact ⟨takeHanded_handed hhand, fun h => absurd h hport, fun _ => rfl, rfl⟩
  · intro ends
    have hends : ∀ m, (s.entry m).recordingEnds = true ↔ ends m := fun m => recordingEnds_iff _
    refine ⟨fun ⟨m, hm, hend⟩ => ?_, fun hnone => ?_⟩
    · have h := not_isFirst ⟨m, hm, (hends m).2 hend⟩
      exact ⟨ignored_recordingEnd h, ignored_recordingFull h⟩
    · have hfirst : s.isFirst AlertEntry.recordingEnds n = true :=
        (isFirst_iff ..).2 fun m hm => Bool.eq_false_iff.2 (mt (hends m).1 (hnone m hm))
      refine ⟨fun hm hfr => ?_, fun hm hfr => ?_, fun hl => ?_⟩
      · refine ⟨_, completes_recordingEnd_frame hst hfr hfirst hm, ?_⟩
        rw [endRecording_waits _ _ hp hf hd, recorded_entry_self]
        exact ⟨rfl, rfl, Bool.or_false _, rfl, fun m hm => recorded_entry_ne _ _ _ hm, rfl⟩
      · refine ⟨_, completes_recordingEnd_break hst hfr hfirst hm, ?_⟩
        rw [endRecording_waits _ _ hp hf hd, recorded_entry_self]
        exact ⟨rfl, Bool.or_true _, fun m hm => recorded_entry_ne _ _ _ hm, rfl⟩
      · refine ⟨_, completes_recordingFull hst hl hfirst, ?_⟩
        split_ifs with hend
        · rw [endRecording_waits _ _ hp hf hd, recorded_entry_self]
          refine ⟨rfl, fun _ _ => Bool.or_false _, fun hno => ?_, fun m hm => recorded_entry_ne _ _ _ hm, rfl⟩
          rcases hno with h | h
          · exact absurd hend.1 h
          · exact absurd hend.2 (by simp [h])
        · rw [endRecording_waits _ _ hp hf hd, recorded_entry_self]
          refine ⟨rfl, fun hm hfr => ?_, fun _ => Bool.or_true _, fun m hm => recorded_entry_ne _ _ _ hm, rfl⟩
          exact absurd ⟨hm, by simp [hfr]⟩ hend
  · intro due
    have hdue : ∀ m, (s.entry m).expiresNow s.time = true ↔ due m := fun m => expiresNow_iff ..
    refine ⟨fun ⟨m, hm, hd⟩ => ?_, fun hd hnone => ?_, fun hair => ?_, fun hr => ?_⟩
    · exact ignored_alertExpiry (.inr (not_isFirst ⟨m, hm, (hdue m).2 hd⟩))
    · refine ⟨_, completes_alertExpiry ((hdue n).2 hd) ((isFirst_iff ..).2 fun m hm =>
        Bool.eq_false_iff.2 (mt (hdue m).1 (hnone m hm))), ?_⟩
      rw [expireEntry_entry, if_pos rfl]
      exact ⟨rfl, rfl, rfl, rfl, rfl, fun m hm => (expireEntry_entry ..).trans (if_neg hm), rfl⟩
    · refine ignored_alertExpiry (.inl fun h => ?_)
      obtain ⟨hst, -⟩ := (expiresNow_iff ..).1 h
      rw [hair] at hst
      exact absurd hst (by decide)
    · refine ignored_alertExpiry (.inl fun h => ?_)
      rw [((expiresNow_iff ..).1 h).2] at hr
      exact Bool.false_ne_true hr.symm

end Sys2Proof.Machine


/-! # Airings: their start, their end and the end of a run (O48) -/

namespace Sys2Proof.Machine

open Sys2Proof

/-! ## The delay line's pause (R120, R122) -/

section Pause
variable {s : State}

/-- The pause told of and the pause in force. -/
def Delay.pauses (d : Delay) : Bool × Bool := (d.pauseFlag, d.pauseNow)

theorem dumped_pauses (target n : Nat) (d : Delay) : (d.dumped target n).pauses = d.pauses := by
  unfold Delay.dumped Delay.rework
  dsimp only
  split_ifs <;> rfl

theorem logDelay_delay (c : DelayCause) (o s : State) : (logDelay c o s).delay = s.delay := by rw [logDelay_only]

theorem dump_pauses (src : DumpSource) (s : State) : (dump src s).2.delay.pauses = s.delay.pauses := by
  unfold dump
  split
  · dsimp only
    rw [logDelay_delay, handLog_delay]
    exact dumped_pauses ..
  · rfl

theorem refire_pauses (n : GpiNo) (s : State) : (refire n s).delay.pauses = s.delay.pauses := by
  unfold refire
  split
  · dsimp only
    rw [dump_pauses, handLog_delay]
  · rfl

theorem refireAll_pauses (s : State) : (refireAll s).delay.pauses = s.delay.pauses := by
  unfold refireAll
  generalize places8 = l
  induction l generalizing s with
  | nil => rfl
  | cons n l ih => rw [List.foldl_cons, ih, refire_pauses]

theorem noteDelay_pauses (c : DelayCause) (o s : State) : (noteDelay c o s).delay.pauses = s.delay.pauses := by
  unfold noteDelay
  dsimp only
  split
  · rw [refireAll_pauses, logDelay_delay]
  · rw [logDelay_delay]

/-- The end of a run ends the pause told of and the pause in force. -/
theorem delayRunEnd_pauses (s : State) : (delayRunEnd s).delay.pauses = (false, false) := by
  unfold delayRunEnd
  dsimp only
  split_ifs
  · rfl
  · rw [noteDelay_pauses]
    rfl
  · rw [noteDelay_pauses]
    simp only [Delay.rework]
    split <;> rfl

end Pause

/-! ## The decks' pause (R67) -/

section Decks
variable {s : State}

theorem pauseDecks_decks (s : State) : (pauseDecks s).decks = if s.decks.pause then s.decks
    else { s.decks with pause := true, deck := s.decks.deck.map Deck.paused } := by
  unfold pauseDecks
  split
  · rfl
  · rw [refreshStudio_decks]

/-- A start that becomes owed changes one flag of the deck alone. -/
theorem noteOwed_deck (x d : DeckId) (s : State) :
    (noteOwed x s).deck d = { s.deck d with owed := ((noteOwed x s).deck d).owed } ∧
      (noteOwed x s).decks.pause = s.decks.pause := by
  unfold noteOwed
  split
  · by_cases h : d = x
    · subst h
      rw [State.deck_setDeck_self]
      exact ⟨rfl, rfl⟩
    · refine ⟨?_, rfl⟩
      have hd : d = x.other := (Side.eq_or_other x d).resolve_left h
      rw [hd, State.deck_setDeck_other]
  · exact ⟨rfl, rfl⟩

theorem releaseDecks_off (h : s.decks.pause = false) : releaseDecks s = s := by
  unfold releaseDecks
  rw [h, if_neg Bool.false_ne_true]

/-- A release ends the pause; each PAUSED deck is back in its return state where it stood. -/
theorem releaseDecks_says (s : State) : (releaseDecks s).decks.pause = false ∧
    (s.decks.pause = true → ∀ d, (s.deck d).state = .paused → ((releaseDecks s).deck d).state = (s.deck d).returnTo ∧
      ((releaseDecks s).deck d).part = (s.deck d).part ∧ ((releaseDecks s).deck d).played = (s.deck d).played ∧
      ((releaseDecks s).deck d).fifo = (s.deck d).fifo) := by
  cases hp : s.decks.pause
  · rw [releaseDecks_off hp]
    exact ⟨hp, fun h => absurd h Bool.false_ne_true⟩
  · have heq : releaseDecks s = noteOwed .b (noteOwed .a (refreshStudio true
        { s with decks := { s.decks with pause := false, deck := s.decks.deck.map Deck.released } })) := if_pos hp
    have hdeck : ∀ d, (refreshStudio true { s with decks := { s.decks with
        pause := false, deck := s.decks.deck.map Deck.released } }).deck d = (s.deck d).released := fun d => by
      rw [refreshStudio_deck]
      exact Two.get_map ..
    have hpause : (refreshStudio true { s with decks := { s.decks with
        pause := false, deck := s.decks.deck.map Deck.released } }).decks.pause = false := by rw [refreshStudio_decks]
    rw [heq]
    generalize refreshStudio true { s with decks := { s.decks with
        pause := false, deck := s.decks.deck.map Deck.released } } = u at hdeck hpause
    refine ⟨?_, fun _ d hd => ?_⟩
    · rw [(noteOwed_deck .b .a _).2, (noteOwed_deck .a .a _).2, hpause]
    · have hrel : (s.deck d).released = { s.deck d with state := (s.deck d).returnTo } := if_pos hd
      rw [(noteOwed_deck .b d _).1, (noteOwed_deck .a d u).1, hdeck, hrel]
      exact ⟨rfl, rfl, rfl, rfl⟩

end Decks

/-! ## The start of an airing (R153, R155) -/

section Start
variable {s : State} {n : EntryNo}

theorem arbitrate_now (s : State) : (arbitrate s).air.now = s.topSource := rfl

theorem holdGroup_callers (b flag : Bool) (c : CallerCause) (ls : List LineNo) (s : State) :
    (holdGroup b flag c ls s).callers = s.callers.held s.time flag ls := by
  unfold holdGroup
  rw [handLogs_only]

/-- What the start of an airing makes of each unit. -/
theorem startAiring_says (n : EntryNo) (s : State) :
    let t := startAiring n s
    t.alerts = (airEntry n s).alerts ∧ t.airing = (airEntry n s).airing ∧ t.air.now = .alert ∧
      t.callers = s.callers.held s.time true s.callers.heldByAiring ∧
      (s.delayAnswer = .cut → t.delay = s.delay ∧ t.decks = (pauseDecks s).decks) ∧
      (s.delayAnswer = .pause → t.delay = { s.delay with pauseFlag := true, overflowRaised := false } ∧
        t.decks = s.decks) ∧
      t.faults = s.faults ∧ t.survey = s.survey ∧ t.link = s.link ∧ t.time = s.time := by
  intro t
  let s1 := airEntry n s
  let s2 := handLog (alertStateEntry n .queued .airing .start (s.delayAnswer == .cut) (s1.entry n).recLen (s1.entry n) s.time) s1
  let u := holdForAiring s2
  have hu : u = { s1 with callers := u.callers, mixer := u.mixer, log := u.log } := holdGroup_only ..
  have hc : u.callers = s.callers.held s.time true s.callers.heldByAiring := holdGroup_callers ..
  have ht : t = arbitrate (if s.delayAnswer = .cut then pauseDecks (delayAiring s.delayAnswer u)
      else delayAiring s.delayAnswer u) := rfl
  have hnow : ∀ v : State, v.airing = s1.airing → (arbitrate v).air.now = .alert := fun v hv => by
    rw [arbitrate_now, topSource_eq_alert, hv]
    show (if 0 < _ then AiringState.tone else .message).present = true
    split <;> rfl
  clear_value t u
  cases ha : s.delayAnswer with
  | cut =>
    rw [ha, if_pos rfl] at ht
    have hp : pauseDecks u = { u with decks := (pauseDecks u).decks, mixer := (pauseDecks u).mixer } := pauseDecks_only u
    have hd : (pauseDecks u).decks = (pauseDecks s).decks := by
      rw [pauseDecks_decks, pauseDecks_decks, hu]
      rfl
    rw [show delayAiring .cut u = u from rfl] at ht
    have hair : t.air.now = .alert := by
      rw [ht]
      refine hnow _ ?_
      rw [hp, hu]
    rw [hd] at hp
    generalize pauseDecks u = w at hp ht hd
    rw [hu] at hp
    rw [hp] at ht
    refine ⟨?_, ?_, hair, ?_, fun _ => ⟨?_, ?_⟩, fun h => (nomatch h), ?_⟩
    all_goals rw [ht]
    · rfl
    · rfl
    · exact hc
    · rfl
    · rfl
    · exact ⟨rfl, rfl, rfl, rfl⟩
  | pause =>
    rw [ha, if_neg (by decide)] at ht
    rw [hu] at ht
    refine ⟨?_, ?_, ?_, ?_, fun h => (nomatch h), fun _ => ⟨?_, ?_⟩, ?_⟩
    all_goals rw [ht]
    · rfl
    · rfl
    · exact hnow _ rfl
    · exact hc
    · rfl
    · rfl
    · exact ⟨rfl, rfl, rfl, rfl⟩

theorem airEntry_entry (n m : EntryNo) (s : State) : (airEntry n s).entry m =
    if m = n then { s.entry n with state := .airing, airedStart := some s.time } else s.entry m := by
  simp only [airEntry, State.entry, Eight.get_set]

theorem toneBlocks_eq (attention : Nat) (noAudio : Bool) : toneBlocks attention noAudio =
    if noAudio = true ∧ attention = 0 then 1600 else attention * 200 := by
  unfold toneBlocks
  simp only [Bool.and_eq_true, beq_iff_eq]

theorem airingCheck_head {q : Time} {rest : List Queued} (h : reached s.time (s.entry n).expiry = false) :
    airingCheck (⟨n, q⟩ :: rest) s = (some n, s) := by
  rw [airingCheck, h, if_neg Bool.false_ne_true]

theorem gapOver_iff (a : Airing) : a.gapOver = true ↔ a.state = .gap ∧ a.blockGiven = true := by
  rw [Airing.gapOver, Bool.and_eq_true, beq_iff_eq]

theorem completes_airingStart {q : Time} {rest : List Queued}
    (hst : s.airing.state = .idle ∨ (s.airing.state = .gap ∧ s.airing.blockGiven = true))
    (hq : s.alerts.queue = ⟨n, q⟩ :: rest) (h : reached s.time (s.entry n).expiry = false) :
    Completes .airingStart s (startAiring n s) := by
  unfold Completes
  show execAiringStart s = _
  rw [execAiringStart, if_pos (hst.imp_right (gapOver_iff _).2), checkAndStart, hq, airingCheck_head h]

theorem completes_gapEnd_next {q : Time} {rest : List Queued} (hg : s.airing.gapOver = true)
    (hq : s.alerts.queue = ⟨n, q⟩ :: rest) (h : reached s.time (s.entry n).expiry = false) :
    Completes .gapEnd s (startAiring n s) := by
  unfold Completes
  show execGapEnd s = _
  rw [execGapEnd, if_pos hg, hq, airingCheck_head h]

/-- The lines that stay on air are those taken in the block that begins with the airing. -/
theorem held_onAir (now : Time) (flag : Bool) (c : Callers) :
    (c.held now flag c.heldByAiring).onAir = c.onAir.filter (fun l => (c.line.get l).taken) := by
  refine List.filter_congr fun l hl => ?_
  cases ht : (c.line.get l).taken
  · simp [Callers.heldByAiring, hl, ht]
  · simp [Callers.heldByAiring, ht]

theorem held_line_in {c : Callers} {ls : List LineNo} {l : LineNo} (now : Time) (flag : Bool) (h : l ∈ ls) :
    (c.held now flag ls).line.get l = { c.line.get l with state := .hold, since := now, heldForAlert := flag } :=
  (Four.get_ofFn _ _).trans (if_pos (List.contains_iff_mem.2 h))

theorem held_line_out {c : Callers} {ls : List LineNo} {l : LineNo} (now : Time) (flag : Bool) (h : l ∉ ls) :
    (c.held now flag ls).line.get l = c.line.get l :=
  (Four.get_ofFn _ _).trans (if_neg (mt List.contains_iff_mem.1 h))

end Start

/-! ## The end of an airing and of a run (R156, R157) -/

section End
variable {s : State} {n : EntryNo}

theorem endRun_alerts (s : State) : (endRun s).alerts = s.alerts := by rw [endRun_only]

/-- A run's end: the airing is IDLE, the source ALERT gone, and both pauses are released. -/
theorem endRun_says (s : State) :
    let t := endRun s
    t.airing.state = .idle ∧ t.airing.entry = none ∧ t.air.now ≠ .alert ∧ t.decks.pause = false ∧
      t.delay.pauses = (false, false) ∧
      (s.decks.pause = true → ∀ d, (s.deck d).state = .paused → (t.deck d).state = (s.deck d).returnTo ∧
        (t.deck d).part = (s.deck d).part ∧ (t.deck d).played = (s.deck d).played ∧ (t.deck d).fifo = (s.deck d).fifo) ∧
      (s.decks.pause = false → t.decks = s.decks) ∧
      t.time = s.time ∧ t.callers = s.callers ∧ t.survey = s.survey ∧ t.faults = s.faults ∧ t.alerts = s.alerts := by
  intro t
  let v : State := { s with airing := { s.airing with state := .idle, entry := none, cancel := false, blockGiven := false } }
  let u := delayRunEnd v
  have ht : t = arbitrate (releaseDecks u) := rfl
  have hu : u = { v with delay := u.delay, log := u.log } := delayRunEnd_only v
  have hp : u.delay.pauses = (false, false) := delayRunEnd_pauses v
  clear_value t u
  have hd : u.decks = s.decks := by rw [hu]
  have hdeck : ∀ d, u.deck d = s.deck d := fun d => by rw [hu]; rfl
  obtain ⟨hpause, hback⟩ := releaseDecks_says u
  have hoff : u.decks.pause = false → (releaseDecks u).decks = u.decks := fun h => by rw [releaseDecks_off h]
  have hr : releaseDecks u = { u with decks := (releaseDecks u).decks, mixer := (releaseDecks u).mixer } :=
    releaseDecks_only u
  generalize releaseDecks u = w at ht hpause hback hoff hr
  have hair : w.airing = v.airing := by rw [hr, hu]
  have hdecks : t.decks = w.decks := by rw [ht]; rfl
  have htd : ∀ d, t.deck d = w.deck d := fun d => by rw [ht]; rfl
  refine ⟨?_, ?_, ?_, by rw [hdecks, hpause], ?_, fun h d hst => ?_, fun h => ?_, ?_⟩
  · rw [ht]
    show w.airing.state = _
    rw [hair]
  · rw [ht]
    show w.airing.entry = _
    rw [hair]
  · rw [ht, arbitrate_now, Ne, topSource_eq_alert, hair]
    exact Bool.false_ne_true
  · rw [ht]
    show w.delay.pauses = _
    rw [hr, hp]
  · rw [htd]
    have hback := hback (by rw [hd]; exact h) d (by rw [hdeck]; exact hst)
    rw [hdeck] at hback
    exact hback
  · rw [hdecks, hoff (by rw [hd]; exact h), hd]
  · rw [ht]
    show w.time = _ ∧ w.callers = _ ∧ w.survey = _ ∧ w.faults = _ ∧ w.alerts = _
    rw [hr, hu]
    exact ⟨rfl, rfl, rfl, rfl, rfl⟩

/-- The part as an airing's entry reaches its final state, before the run goes on or ends. -/
def State.finishes (n : EntryNo) (st : EntryState) (cause : AlertCause) (p : Bool) (s : State) : State :=
  logAlert n .airing cause s.airing.given (finishEntry n st (s.setEntry n { s.entry n with
    airedEnd := some s.time, flags := { (s.entry n).flags with partialAir := (s.entry n).flags.partialAir || p } }))

theorem closeAiring_eq (st : EntryState) (cause : AlertCause) (p : Bool) (h : s.airing.entry = some n) :
    closeAiring st cause p s = if (s.finishes n st cause p).alerts.queue.isEmpty then endRun (s.finishes n st cause p)
      else arbitrate { s.finishes n st cause p with airing := { s.airing with
        state := .gap, entry := none, cancel := false, blockGiven := false } } := by
  unfold closeAiring
  rw [h]
  rfl

theorem finishes_entry (n m : EntryNo) (st : EntryState) (cause : AlertCause) (p : Bool) (s : State) :
    (s.finishes n st cause p).entry m = if m = n then AlertEntry.finished st { s.entry n with
      airedEnd := some s.time, flags := { (s.entry n).flags with partialAir := (s.entry n).flags.partialAir || p } }
      else s.entry m := by
  have h : (s.finishes n st cause p).entry m = _ := finishEntry_entry n m st (s.setEntry n { s.entry n with
    airedEnd := some s.time, flags := { (s.entry n).flags with partialAir := (s.entry n).flags.partialAir || p } })
  rw [h, State.entry_setEntry_self]
  split_ifs with hm
  · rfl
  · exact State.entry_setEntry_ne _ _ hm

theorem finishes_queue (st : EntryState) (cause : AlertCause) (p : Bool) (h : ∀ q ∈ s.alerts.queue, q.entry ≠ n) :
    (s.finishes n st cause p).alerts.queue = s.alerts.queue :=
  List.filter_eq_self.2 fun q hq => bne_iff_ne.2 (h q hq)

theorem finishes_only (n : EntryNo) (st : EntryState) (cause : AlertCause) (p : Bool) (s : State) :
    s.finishes n st cause p = { s with
      alerts := (s.finishes n st cause p).alerts, log := (s.finishes n st cause p).log } := rfl

/-- What the end of an airing leaves: the entry's final state, and the run ended or in GAP. -/
theorem closeAiring_says (st : EntryState) (cause : AlertCause) (p : Bool) (h : s.airing.entry = some n)
    (hq : ∀ q ∈ s.alerts.queue, q.entry ≠ n) :
    let t := closeAiring st cause p s
    t.alerts = (s.finishes n st cause p).alerts ∧ t.alerts.queue = s.alerts.queue ∧
      t.time = s.time ∧ t.callers = s.callers ∧ t.survey = s.survey ∧ t.faults = s.faults ∧
      (s.alerts.queue = [] → t = endRun (s.finishes n st cause p)) ∧
      (s.alerts.queue ≠ [] → t.airing.state = .gap ∧ t.airing.entry = none ∧ t.airing.blockGiven = false ∧
        t.air.now = .alert ∧ t.decks = s.decks ∧ t.delay = s.delay) := by
  intro t
  have ht : t = _ := closeAiring_eq st cause p h
  have hqueue := finishes_queue (s := s) (n := n) st cause p hq
  have honly := finishes_only n st cause p s
  clear_value t
  generalize s.finishes n st cause p = u at ht hqueue honly ⊢
  rw [hqueue] at ht
  cases hl : s.alerts.queue with
  | nil =>
    rw [hl, List.isEmpty_nil, if_pos rfl] at ht
    obtain ⟨-, -, -, -, -, -, -, htime, hcallers, hsurvey, hfaults, halerts⟩ := endRun_says u
    rw [← ht] at htime hcallers hsurvey hfaults halerts
    refine ⟨halerts, by rw [halerts, hqueue, hl], ?_, ?_, ?_, ?_, fun _ => ht, fun hne => absurd rfl hne⟩
    · rw [htime, honly]
    · rw [hcallers, honly]
    · rw [hsurvey, honly]
    · rw [hfaults, honly]
  | cons x xs =>
    rw [hl, List.isEmpty_cons, if_neg Bool.false_ne_true] at ht
    have hnow : t.air.now = .alert := by
      rw [ht, arbitrate_now, topSource_eq_alert]
      rfl
    have hqueue' : t.alerts.queue = x :: xs := by
      rw [ht, ← hl, ← hqueue]
      rfl
    have hrest : (t.time, t.callers, t.survey, t.faults, t.decks, t.delay) =
        (s.time, s.callers, s.survey, s.faults, s.decks, s.delay) := by
      rw [ht]
      show (u.time, u.callers, u.survey, u.faults, u.decks, u.delay) = _
      rw [honly]
    simp only [Prod.mk.injEq] at hrest
    obtain ⟨htime, hcallers, hsurvey, hfaults, hdecks, hdelay⟩ := hrest
    have hgap : t.airing.state = .gap ∧ t.airing.entry = none ∧ t.airing.blockGiven = false := by
      rw [ht]
      exact ⟨rfl, rfl, rfl⟩
    have halerts : t.alerts = u.alerts := by
      rw [ht]
      rfl
    obtain ⟨hstate, hentry, hblock⟩ := hgap
    exact ⟨halerts, hqueue', htime, hcallers, hsurvey, hfaults, fun hnil => (nomatch hnil),
      fun _ => ⟨hstate, hentry, hblock, hnow, hdecks, hdelay⟩⟩

theorem completes_airingEnd (hst : s.airing.state = .tone ∨ s.airing.state = .message)
    (hg : s.airing.tone + s.airing.message ≤ s.airing.given) :
    Completes .airingEnd s (closeAiring .aired .complete false s) := by
  have hall : s.airing.allGiven = true := by
    rw [Airing.allGiven, decide_eq_true hg, Bool.and_true, Bool.or_eq_true, beq_iff_eq, beq_iff_eq]
    exact hst
  unfold Completes
  show execAiringEnd s = _
  rw [execAiringEnd, if_pos hall]

theorem completes_cancelFadeEnd (hst : s.airing.state = .fade) (hb : s.airing.blockGiven = true) :
    Completes .cancelFadeEnd s (closeAiring .cancelled .cancel true s) := by
  unfold Completes
  show execCancelFadeEnd s = _
  rw [execCancelFadeEnd, if_pos ⟨hst, hb⟩]

theorem completes_gapEnd_last (hg : s.airing.gapOver = true) (hq : s.alerts.queue = []) :
    Completes .gapEnd s (endRun s) := by
  unfold Completes
  show execGapEnd s = _
  rw [execGapEnd, if_pos hg, hq, airingCheck]

end End

/-- Settles O48. -/
theorem alertsAirAndEndTheirRun : Obligations.AlertsAirAndEndTheirRun := by
  unfold Obligations.AlertsAirAndEndTheirRun
  refine ⟨fun s n q rest hst hq hexp hrest => ?_, fun s => ⟨fun h1 h2 h3 => ?_, ?_⟩⟩
  · obtain ⟨halerts, hairing, hnow, hcallers, hcut, hpause, hfaults, hsurvey, hlink, htime⟩ := startAiring_says n s
    refine ⟨_, completes_airingStart hst hq hexp, ?_⟩
    generalize startAiring n s = t at *
    have hentry : ∀ m, t.entry m =
        if m = n then { s.entry n with state := .airing, airedStart := some s.time } else s.entry m := fun m => by
      rw [State.entry, halerts]
      exact airEntry_entry n m s
    have hline : ∀ l, t.line l = (s.callers.held s.time true s.callers.heldByAiring).line.get l := fun l => by
      rw [State.line, hcallers]
    have hself : t.entry n = { s.entry n with state := .airing, airedStart := some s.time } :=
      (hentry n).trans (if_pos rfl)
    have htone : t.airing.tone = toneBlocks s.sections.policy.attention (s.entry n).flags.noAudio := by rw [hairing]; rfl
    refine ⟨by rw [hself], by rw [hself], by rw [hairing]; rfl, ?_, hnow, by rw [htone, toneBlocks_eq], by rw [hairing]; rfl,
      by rw [hairing]; rfl, by rw [hairing]; rfl, by rw [hcallers]; exact held_onAir .., by rw [hcallers]; rfl,
      fun l hl ht => ?_, fun l ht => ?_, fun hc => ?_, hpause, fun hg => ?_,
      fun m hm => (hentry m).trans (if_neg hm), hfaults, hsurvey, hlink, htime⟩
    · have hkeep : rest.filter (fun x => x.entry != n) = rest := List.filter_eq_self.2 fun x hx => bne_iff_ne.2 (hrest x hx)
      have hqueue : t.alerts.queue = s.alerts.queue.filter (fun x => x.entry != n) := by rw [halerts]; rfl
      rw [hqueue, hq, List.filter_cons_of_neg (by simp), hkeep]
    · have hin : l ∈ s.callers.heldByAiring := List.mem_filter.2 ⟨hl, by
        show (!(s.line l).taken) = true
        rw [ht]
        rfl⟩
      rw [hline, held_line_in _ _ hin]
      exact ⟨rfl, rfl⟩
    · rw [hline]
      refine held_line_out _ _ fun hc => ?_
      have := (List.mem_filter.1 hc).2
      rw [show (s.callers.line.get l).taken = true from ht] at this
      exact Bool.false_ne_true this
    · obtain ⟨hdelay, hdecks⟩ := hcut hc
      rw [pauseDecks_decks] at hdecks
      refine ⟨?_, hdelay, fun hp => ?_, fun hp d => ?_⟩
      · rw [hdecks]
        split_ifs with hp
        · exact hp
        · rfl
      · rw [hdecks, if_pos hp]
      · rw [hp, if_neg Bool.false_ne_true] at hdecks
        have hdeck : t.deck d = (s.deck d).paused := by
          rw [State.deck, hdecks]
          exact Two.get_map ..
        intro k
        rw [hdeck]
        exact ⟨fun hk => if_pos hk, fun h1 h2 => if_neg (not_or.2 ⟨h1, h2⟩)⟩
    · have hover : s.airing.gapOver = true := by
        rcases hst with h | ⟨-, h⟩
        · rw [hg] at h
          exact nomatch h
        · exact (gapOver_iff _).2 ⟨hg, h⟩
      exact Eq.trans (completes_gapEnd_next hover hq hexp) (Eq.symm (completes_airingStart hst hq hexp))
  · unfold Completes
    show execToneEnd s = _
    rw [execToneEnd, if_pos ⟨h1, h2, h3⟩]
  · extract_lets ended gapped rest
    have hended : ∀ u : State, u.decks = s.decks → ended (endRun u) := fun u hu => by
      obtain ⟨hst, hentry, hnow, hpause, hdelay, hback, hoff, -⟩ := endRun_says u
      have hdeck : ∀ d, u.deck d = s.deck d := fun d => by rw [State.deck, hu]; rfl
      simp only [hdeck, hu] at hback hoff
      exact ⟨hst, hentry, hnow, hpause, congrArg Prod.fst hdelay, congrArg Prod.snd hdelay, hback, hoff⟩
    refine ⟨fun n hn hq => ?_, fun hst hb hq => ?_⟩
    · extract_lets final
      have hfinal : ∀ st cause p, final (closeAiring st cause p s) := fun st cause p => by
        obtain ⟨halerts, hqueue, htime, hcallers, hsurvey, hfaults, hnil, hcons⟩ := closeAiring_says st cause p hn hq
        have hentry : ∀ m, (closeAiring st cause p s).entry m = (s.finishes n st cause p).entry m := fun m => by
          rw [State.entry, halerts]
          rfl
        refine ⟨?_, ?_, hqueue, fun m hm => ?_, ⟨htime, hcallers, hsurvey, hfaults⟩, fun h => ?_, hcons⟩
        · rw [hentry, finishes_entry, if_pos rfl]
          rfl
        · rw [hentry, finishes_entry, if_pos rfl]
          rfl
        · rw [hentry, finishes_entry, if_neg hm]
        · rw [hnil h]
          exact hended _ rfl
      have hentry : ∀ st cause p, (closeAiring st cause p s).entry n = AlertEntry.finished st { s.entry n with
          airedEnd := some s.time, flags := { (s.entry n).flags with partialAir := (s.entry n).flags.partialAir || p } } :=
        fun st cause p => by
          obtain ⟨halerts, -⟩ := closeAiring_says st cause p hn hq
          rw [State.entry, halerts]
          exact (finishes_entry ..).trans (if_pos rfl)
      refine ⟨fun hst hg => ⟨_, completes_airingEnd hst hg, ?_, ?_, hfinal ..⟩,
        fun hst hb => ⟨_, completes_cancelFadeEnd hst hb, ?_, ?_, hfinal ..⟩⟩
      · rw [hentry]
        rfl
      · rw [hentry]
        show { (s.entry n).flags with partialAir := (s.entry n).flags.partialAir || false } = _
        rw [Bool.or_false]
      · rw [hentry]
        rfl
      · rw [hentry]
        show { (s.entry n).flags with partialAir := (s.entry n).flags.partialAir || true } = _
        rw [Bool.or_true]
    · refine ⟨_, completes_gapEnd_last ((gapOver_iff _).2 ⟨hst, hb⟩) hq, endRun_alerts s, ?_, hended s rfl⟩
      obtain ⟨-, -, -, -, -, -, -, htime, hcallers, hsurvey, hfaults, -⟩ := endRun_says s
      exact ⟨htime, hcallers, hsurvey, hfaults⟩

end Sys2Proof.Machine


/-! # Decks: the block's frames, and starts (O28, O29) -/

namespace Sys2Proof.Machine

open Sys2Proof

/-! ## A block's frames (R63) -/

section Block
variable {s : State} {d : DeckId}

theorem completes_deckBlock (hst : (s.deck d).state = .playing ∨ (s.deck d).state = .ending)
    (hk : (s.deck d).kind = .audio) (hb : (s.deck d).blockTaken = false) : Completes (.deckBlock d) s (deckBlock d s) := by
  unfold Completes
  show execDeckBlock d s = _
  rw [execDeckBlock, if_pos ⟨hst, hk, by simp [hb]⟩]

theorem missing_eq {k : Deck} (h : k.noMore = false) : k.missing = min 240 k.left - k.takes := by
  rw [Deck.missing, h, if_neg Bool.false_ne_true]

theorem missing_pos {k : Deck} (h : k.noMore = false) : 0 < k.missing ↔ k.takes < min 240 k.left := by
  rw [missing_eq h]
  omega

/-- The raising of the first underrun of a cue. -/
def fetchLate (d : DeckId) (k : Deck) : Raising := ⟨.fetchLate, deckUnit d, k.addr, 0, 0, zeros16⟩

/-- A block takes its frames and, at the first underrun of a cue, raises FETCH_LATE. -/
theorem deckBlock_eq (d : DeckId) (s : State) : deckBlock d s =
    { (if 0 < (s.deck d).missing ∧ (s.deck d).lateRaised = false then raise (fetchLate d (s.deck d)) s else s) with
      decks := { s.decks with deck := s.decks.deck.set d ((s.deck d).played' s.time) }
      mixer := { s.mixer with deckFrames := s.mixer.deckFrames.set d ((s.deck d).fifo.take (s.deck d).takes) } } := by
  let u : State := { s with
    decks := { s.decks with deck := s.decks.deck.set d ((s.deck d).played' s.time) }
    mixer := { s.mixer with deckFrames := s.mixer.deckFrames.set d ((s.deck d).fifo.take (s.deck d).takes) } }
  have hu : deckBlock d s = if 0 < (s.deck d).missing ∧ (!(s.deck d).lateRaised) = true
      then raise (fetchLate d (s.deck d)) u else u := rfl
  rw [hu]
  simp only [Bool.not_eq_true']
  split_ifs
  · rw [raise_eq (fetchLate d (s.deck d)) (s := s) (t := u) rfl rfl rfl rfl rfl, raise_only _ s]
  · rfl

end Block

/-- Settles O29. -/
theorem deckTakesItsFrames : Obligations.DeckTakesItsFrames := by
  unfold Obligations.DeckTakesItsFrames
  intro s d hst hkind hb hmore k left n
  have hcomp := completes_deckBlock hst hkind hb
  have hmiss : k.missing = min 240 left - n := missing_eq hmore
  have hpos : 0 < k.missing ↔ n < min 240 left := missing_pos hmore
  have hdeck : (deckBlock d s).deck d = k.played' s.time := by
    rw [deckBlock_eq]
    exact Two.get_set_self ..
  refine ⟨_, hcomp, ?_⟩
  rw [hdeck]
  refine ⟨?_, rfl, rfl, rfl, congrArg (k.part.underrunFrames + ·) hmiss, fun h => ?_, rfl, ?_, ?_⟩
  · rw [deckBlock_eq]
    exact Two.get_set_self ..
  · have h0 := decide_eq_true (hpos.2 h)
    refine ⟨?_, ?_⟩
    · show (k.part.flags.underrun || decide (0 < k.missing)) = true
      rw [h0, Bool.or_true]
    · show (k.lateRaised || decide (0 < k.missing)) = true
      rw [h0, Bool.or_true]
  · rw [deckBlock_eq]
    exact Two.get_set_other ..
  · simp only [← hpos]
    rw [deckBlock_eq]
    rfl

/-! ## Starts (R59 to R61) -/

section Starts
variable {s : State} {d : DeckId}

theorem pushWrite_nil (a : Addr) (p : PartHalf) (st : RecState) : pushWrite true a p st [] = [⟨a, p, st, .first, false⟩] := rfl

theorem running_of_state (h : s.survey.state = .running) : s.running = true := (running_iff s).2 h

/-- A deck as it starts, before its fade-out and its write. -/
def Deck.starting (now : Time) (owed noFill : Bool) (k : Deck) : Deck :=
  { k with
    state := .playing, part := k.startHalf now owed noFill, owed := false, fired := false, fading := false
    lastEnd := now }

/-- A start that does not end at once, in terms of the deck as it starts. -/
theorem startDeck_starting (d : DeckId) (ow : Bool) (s : State) (h : (s.deck d).instant = false) :
    let k := s.deck d
    let playing := k.starting s.time ow s.decks.noFill
    let t := startDeck d ow s
    t.deck d = { playing with
        fading := playing.fadesNow, writes := pushWrite s.running k.addr playing.part .playing k.writes } ∧
      t.deck d.other = s.deck d.other ∧ t.decks.runOut = false ∧ t.decks.noFill = false ∧
      t.decks.lastStarted = some d ∧ t.mixer.deckRamp.get d = startRamp playing (s.mixer.deckRamp.get d) ∧
      t.log = (handLog (segmentEntry .segmentStart (deckUnit d) s.time k.addr k.copy.tag playing.part .playing) s).log ∧
      t = { s with decks := t.decks, mixer := t.mixer, walker := t.walker, log := t.log } := startDeck_playing d ow s h

theorem naturalStart_of (h : (s.deck d.other).state = .empty ∨ (s.deck d.other).state = .ending ∨
    ((s.deck d.other).state = .playing ∧ (s.deck d.other).kind = .audio ∧
      (s.deck d.other).copy.length ≤ (s.deck d.other).copy.cueIn + (s.deck d.other).played + (s.deck d.other).copy.segue)) :
    s.naturalStart d = true := by
  unfold State.naturalStart
  dsimp only
  rcases h with h | h | ⟨h, hk, hl⟩
  · rw [h]
    rfl
  · rw [h]
    rfl
  · have hleft : decide ((s.deck d.other).left ≤ (s.deck d.other).copy.segue) = true := by
      rw [decide_eq_true_iff, Deck.left]
      omega
    rw [h, hk, hleft]
    rfl

theorem completes_segmentStart (hr : (s.deck d).state = .ready) (hp : s.decks.pause = false)
    (hh : (s.deck d).copy.hardPresent = false) (hn : s.naturalStart d = true) :
    Completes (.segmentStart d) s (startDeck d (s.deck d).owed s) := by
  have hstarts : s.startsNow d = true := by
    unfold State.startsNow State.softReady Deck.waits
    dsimp only
    rw [hr, hp, hh, hn]
    simp
  unfold Completes
  show execSegmentStart d s = _
  rw [execSegmentStart, if_pos hstarts]

theorem completes_hardStart (hst : (s.deck d).state = .ready) (hh : (s.deck d).copy.hardPresent = true)
    (hs : (s.deck d).copy.soft = false) (hr : reached s.time (s.deck d).copy.hardTime = true) (hp : s.decks.pause = false)
    (ho : (s.deck d).owed = false) (hf : (s.deck d).fired = false) : Completes (.hardStart d) s (hardStart d s) := by
  have hfires : s.firesNow d = true := by
    unfold State.firesNow Deck.waits
    dsimp only
    rw [hst, hh, hs, hr, hp, ho, hf]
    rfl
  unfold Completes
  show execHardStart d s = _
  rw [execHardStart, if_pos hfires]

theorem not_instant_audio {k : Deck} (h : k.kind = .audio) : k.instant = false := by
  rw [Deck.instant, h]
  rfl

theorem not_instant_live {k : Deck} (h : k.kind = .live) : k.instant = false := by
  rw [Deck.instant, h]
  rfl

/-! A start's gain (R60). -/

theorem stepGain_zero (g n : Nat) : stepGain 0 g n = g / n := by
  rw [stepGain_up n (Nat.zero_le g), Nat.zero_add, Nat.sub_zero]

/-- A start from silence to the record gain, over the fade-in. -/
def fadeInRamp (k : Deck) (r : Ramp) : Ramp :=
  { r with g := 0, target := 0, m := 0, base := 0 }.startAt k.copy.gain k.copy.fadeIn

theorem startRamp_audio {k : Deck} (r : Ramp) (h : k.kind = .audio) :
    startRamp k r = if k.fadesNow then (fadeInRamp k r).startAt 0 k.blocksLeft else fadeInRamp k r := by
  unfold startRamp
  rw [h]
  rfl

theorem fadeInRamp_says (k : Deck) (r : Ramp) : (fadeInRamp k r).target = k.copy.gain ∧
    (k.copy.fadeIn = 0 → (fadeInRamp k r).blk = k.copy.gain ∧ (fadeInRamp k r).base = k.copy.gain) ∧
    (0 < k.copy.fadeIn → (fadeInRamp k r).blk = k.copy.gain / k.copy.fadeIn ∧ (fadeInRamp k r).m = k.copy.fadeIn - 1) := by
  unfold fadeInRamp Ramp.startAt
  split_ifs with h
  · exact ⟨rfl, fun _ => ⟨rfl, rfl⟩, fun h0 => absurd h h0.ne'⟩
  · exact ⟨rfl, fun h0 => absurd h0 h, fun _ => ⟨stepGain_zero .., rfl⟩⟩

/-- A fade-out due at once starts from the gain in force. -/
theorem fadeOutRamp_says (k : Deck) (r : Ramp) (hb : 0 < k.blocksLeft) :
    ((fadeInRamp k r).startAt 0 k.blocksLeft).target = 0 ∧
      ((fadeInRamp k r).startAt 0 k.blocksLeft).m = k.blocksLeft - 1 ∧
      (k.copy.fadeIn = 0 → ((fadeInRamp k r).startAt 0 k.blocksLeft).blk = k.copy.gain - k.copy.gain / k.blocksLeft) := by
  obtain ⟨-, hzero, -⟩ := fadeInRamp_says k r
  rw [Ramp.startAt, if_neg hb.ne']
  refine ⟨rfl, rfl, fun h0 => ?_⟩
  show stepGain (fadeInRamp k r).base 0 k.blocksLeft = _
  rw [(hzero h0).2, stepGain_down _ (Nat.zero_le _), Nat.sub_zero]

theorem fadesNow_iff {k : Deck} (hst : k.state = .playing) (hk : k.kind = .audio) (hf : k.fading = false) :
    k.fadesNow = true ↔ 0 < k.copy.fadeOut ∧ 0 < k.left ∧ k.left ≤ k.copy.fadeOut * 240 := by
  unfold Deck.fadesNow Deck.blocksLeft
  rw [hst, hk, hf]
  simp only [beq_self_eq_true, Bool.not_false, Bool.true_and, Bool.and_eq_true, decide_eq_true_eq, and_assoc]
  refine and_congr_right fun _ => and_congr_right fun _ => ?_
  omega

/-! A hard start's cut (R61). -/

theorem cutDeck_deck_self (b : Bool) (d : DeckId) (why : EndReason) (q : Bool) (s : State) :
    (cutDeck b d why q s).deck d = { s.deck d with
      state := .ending, decided := some (.skipped, why), fading := true
      part := { (s.deck d).part with flags := { (s.deck d).part.flags with
        byRequest := (s.deck d).part.flags.byRequest || q } } } := by
  unfold cutDeck
  dsimp only
  rw [refreshStudio_deck, State.deck_mapDeckRamp, State.deck_setDeck_self]

theorem cutDeck_deck_other (b : Bool) (d : DeckId) (why : EndReason) (q : Bool) (s : State) :
    (cutDeck b d why q s).deck d.other = s.deck d.other := by
  unfold cutDeck
  dsimp only
  rw [refreshStudio_deck, State.deck_mapDeckRamp, State.deck_setDeck_other]

theorem hardStart_cuts (ho : (s.deck d.other).state = .playing) (hr : (s.deck d).state = .ready) :
    hardStart d s = startDeck d false (cutDeck true d.other .hardStart false s) := by
  have hsame : (cutDeck true d.other .hardStart false s).deck d = s.deck d := by
    have h := cutDeck_deck_other true d.other .hardStart false s
    rwa [Side.other_other] at h
  unfold hardStart
  dsimp only
  rw [if_pos ho, hsame, if_pos hr]

theorem isLate_of {k : Deck} {now : Time} (hh : k.copy.hardPresent = true) (hr : reached now k.copy.hardTime = true)
    (hl : 240 < (now - k.copy.hardTime).toNat) : k.isLate now = true := by
  rw [Deck.isLate, hh, hr, decide_eq_true hl]
  rfl

end Starts

/-- Settles O28. -/
theorem recordsStartAtTheirTime : Obligations.RecordsStartAtTheirTime := by
  unfold Obligations.RecordsStartAtTheirTime
  refine ⟨fun s d => ?_, fun s d hst hh hs hkind hr hp howed hfired hother => ?_⟩
  · intro k o left hrun hst hkind hhard hwrites hpause ho
    have hcomp := completes_segmentStart hst hpause hhard (naturalStart_of ho)
    obtain ⟨hdeck, hoth, hrunOut, hnoFill, hlast, hramp, hlog, honly⟩ :=
      startDeck_starting d k.owed s (not_instant_audio hkind)
    refine ⟨_, hcomp, ?_⟩
    generalize startDeck d k.owed s = t at *
    rw [running_of_state hrun, show (s.deck d).writes = [] from hwrites, pushWrite_nil] at hdeck
    have hpk : ((s.deck d).starting s.time k.owed s.decks.noFill).kind = .audio := hkind
    rw [startRamp_audio _ hpk] at hramp
    have hfades : Deck.fadesNow _ = true ↔ 0 < k.copy.fadeOut ∧ 0 < left ∧ left ≤ k.copy.fadeOut * 240 :=
      fadesNow_iff (k := (s.deck d).starting s.time k.owed s.decks.noFill) rfl hpk rfl
    have hin := fadeInRamp_says ((s.deck d).starting s.time k.owed s.decks.noFill) (s.mixer.deckRamp.get d)
    have hout := fadeOutRamp_says ((s.deck d).starting s.time k.owed s.decks.noFill) (s.mixer.deckRamp.get d)
    rw [hdeck]
    refine ⟨rfl, rfl, rfl, rfl, hrunOut, hnoFill, hlast, hoth, rfl, fun hno => ?_, fun h1 h2 h3 => ?_, hlog, honly⟩
    · have hnot := mt hfades.1 (by omega)
      obtain ⟨htarget, hzero, hpos⟩ := hin
      rw [hramp, if_neg hnot]
      exact ⟨Bool.eq_false_iff.2 hnot, htarget, fun h => (hzero h).1, hpos⟩
    · have hyes := hfades.2 ⟨h1, h2, h3⟩
      obtain ⟨htarget, hm, hblk⟩ := hout (by
        show 0 < (left + 239) / 240
        omega)
      rw [hramp, if_pos hyes]
      exact ⟨hyes, htarget, hm, hblk⟩
  · have hcomp := completes_hardStart hst hh hs hr hp howed hfired
    rw [hardStart_cuts hother hst] at hcomp
    have hsame : (cutDeck true d.other .hardStart false s).deck d = s.deck d := by
      have h := cutDeck_deck_other true d.other .hardStart false s
      rwa [Side.other_other] at h
    have hcut := cutDeck_deck_self true d.other .hardStart false s
    have hucut := cutDeck_only true d.other .hardStart false s
    obtain ⟨hdeck, hoth, -, -, -, -, hlog, honly⟩ :=
      startDeck_starting d false (cutDeck true d.other .hardStart false s) (by rw [hsame]; exact not_instant_live hkind)
    refine ⟨_, hcomp, ?_⟩
    generalize startDeck d false (cutDeck true d.other .hardStart false s) = t at *
    generalize cutDeck true d.other .hardStart false s = u at *
    have htime : u.time = s.time := by rw [hucut]
    rw [hsame, htime] at hdeck hlog
    rw [hcut] at hoth
    rw [hdeck, hoth]
    refine ⟨rfl, rfl, rfl, rfl, rfl, rfl, fun hl => ?_, ?_, ?_⟩
    · show ((s.deck d).part.flags.late || (s.deck d).isLate s.time) = true
      rw [isLate_of hh hr hl, Bool.or_true]
    · rw [hlog]
      exact handLog_log_eq _ (by rw [hucut]) (by rw [hucut]) (by rw [hucut]) htime
    · rw [honly, hucut]

end Sys2Proof.Machine


/-! # Decks: ends and skips (O30) -/

namespace Sys2Proof.Machine

open Sys2Proof

section Ends
variable {s : State} {d : DeckId}

theorem completes_segmentEnd (h : (s.deck d).over (s.mixer.deckRamp.get d).complete = true) :
    Completes (.segmentEnd d) s
      (endAtBoundary d (s.deck d).finalEnd.1 (s.deck d).finalEnd.2 (s.deck d).unfinished s) := by
  unfold Completes
  show execSegmentEnd d s = _
  rw [execSegmentEnd, if_pos h]

theorem ignored_segmentEnd (h : ¬(s.deck d).over (s.mixer.deckRamp.get d).complete = true) : Ignored (.segmentEnd d) s := by
  unfold Ignored
  show execSegmentEnd d s = _
  rw [execSegmentEnd, if_neg h]

theorem completes_durationComplete (hst : (s.deck d).state = .playing) (hd : (s.deck d).durationDone = true) :
    Completes (.durationComplete d) s (endAtBoundary d .aired .complete false s) := by
  unfold Completes
  show execDurationComplete d s = _
  rw [execDurationComplete, if_pos ⟨hst, hd⟩]

/-- When an AUDIO segment is over (R64, R65). -/
theorem over_audio_iff {k : Deck} {faded : Bool} (hk : k.kind = .audio) (hb : k.blockTaken = false)
    (hst : k.state = .playing ∨ k.state = .ending) : k.over faded = true ↔
      k.left = 0 ∨ (k.noMore = true ∧ k.fifo = []) ∨
        (k.state = .ending ∧ (∃ why, k.decided = some (.skipped, why)) ∧ faded = true) := by
  have hsound : (k.state == .playing || k.state == .ending) = true := by simpa using hst
  have hskip : k.decided.any (fun x => x.1 == .skipped) = true ↔ ∃ why, k.decided = some (.skipped, why) := by
    cases hd : k.decided with
    | none => simp
    | some x => simp [Prod.ext_iff]
  unfold Deck.over
  rw [hk, hb, hsound]
  simp only [Bool.true_and, Bool.not_false, Bool.or_eq_true, Bool.and_eq_true, beq_iff_eq, List.isEmpty_iff, hskip,
    or_assoc, and_assoc]

theorem over_live {k : Deck} (hk : k.kind = .live ∨ k.kind = .gap) (hb : k.blockTaken = false) (hst : k.state = .ending) :
    k.over true = true := by
  unfold Deck.over
  rw [hb, hst]
  rcases hk with h | h <;> rw [h] <;> rfl

theorem unfinished_audio {k : Deck} (hk : k.kind = .audio) : k.unfinished = decide (0 < k.left) := by
  rw [Deck.unfinished, hk]

theorem unfinished_live {k : Deck} (hk : k.kind = .live ∨ k.kind = .gap) :
    k.unfinished = decide (k.sounded * 240 < k.copy.duration) := by
  rcases hk with h | h <;> rw [Deck.unfinished, h]

theorem finalHalf_sounding {k : Deck} (why : EndReason) (tr : Bool) (h : k.state.sounding = true) :
    (k.finalHalf why tr).airedEnd = k.lastEnd := if_pos h

theorem finalHalf_silent {k : Deck} (why : EndReason) (tr : Bool) (h : k.state.sounding = false) :
    (k.finalHalf why tr).airedEnd = 0 := if_neg (ne_true_of_eq_false h)

theorem framesAired_audio {k : Deck} (why : EndReason) (tr : Bool) (h : k.kind = .audio) :
    (k.finalHalf why tr).framesAired = k.part.framesAired := if_neg (by rw [h]; decide)

theorem framesAired_live {k : Deck} (why : EndReason) (tr : Bool) (h : k.kind = .live ∨ k.kind = .gap) :
    (k.finalHalf why tr).framesAired = k.sounded * 240 := if_pos h

/-! ## Skips (R66) -/

theorem skippable_iff (k : Deck) : k.skippable = true ↔ k.state = .playing ∨ k.state = .paused := by
  rw [Deck.skippable, Bool.or_eq_true, beq_iff_eq, beq_iff_eq]

theorem skipTarget_none (h : ∀ d, (s.deck d).skippable = false) : s.skipTarget = none := by
  unfold State.skipTarget
  dsimp only
  rw [h, h, if_neg Bool.false_ne_true, if_neg Bool.false_ne_true]

/-- The deck started last, or the only one that a skip may end. -/
theorem skipTarget_eq (hd : (s.deck d).skippable = true)
    (h : s.decks.lastStarted = some d ∨ (s.deck d.other).skippable = false) : s.skipTarget = some d := by
  unfold State.skipTarget
  dsimp only
  by_cases hnew : s.decks.lastStarted.getD .a = d
  · rw [hnew, if_pos hd]
  · have hoth : s.decks.lastStarted.getD .a = d.other :=
      (Side.eq_or_other d _).resolve_left hnew
    rcases h with h | h
    · rw [h] at hnew
      exact absurd rfl hnew
    · rw [hoth, h, if_neg Bool.false_ne_true, Side.other_other, if_pos hd]

theorem cuedDeck_none (h : ∀ d, (s.deck d).state.cued = false) : s.cuedDeck = none := by
  have ha : s.decks.deck.a.state.cued = false := h .a
  have hb : s.decks.deck.b.state.cued = false := h .b
  rw [State.cuedDeck, ha, hb, if_neg Bool.false_ne_true, if_neg Bool.false_ne_true]

theorem cuedDeck_eq (hd : (s.deck d).state.cued = true) (ho : (s.deck d.other).state.cued = false) : s.cuedDeck = some d := by
  unfold State.cuedDeck
  cases d with
  | a => exact if_pos hd
  | b => exact (if_neg (ne_true_of_eq_false ho)).trans (if_pos hd)

theorem cued_iff (st : DeckState) : st.cued = true ↔ st = .loading ∨ st = .ready := by cases st <;> decide

/-- A deck whose end has been asked for. -/
def Deck.requested (k : Deck) : Deck :=
  { k with part := { k.part with flags := { k.part.flags with byRequest := true } } }

/-- What a deck that a skip ends at once leaves: its final write, SEGMENT_END, and the deck EMPTY. -/
theorem skipEnds_says (tr : Bool) (hr : s.running = true) (hw : (s.deck d).writes = []) :
    let k := s.deck d
    let p := k.requested.finalHalf .skip tr
    let t := endDeck false d .skipped .skip tr (markRequest d s)
    (t.deck d).state = .empty ∧ (t.deck d).writes = [⟨k.addr, p, .skipped, .first, false⟩] ∧
      t.deck d.other = s.deck d.other ∧
      t.log = (handLog (segmentEntry .segmentEnd (deckUnit d) (k.endTime s.time) k.addr k.copy.tag p .skipped) s).log ∧
      t = { s with decks := t.decks, mixer := t.mixer, walker := t.walker, fetch := t.fetch, log := t.log } := by
  intro k p t
  have hmark : (markRequest d s).deck d = k.requested := State.deck_setDeck_self ..
  obtain ⟨hdeck, hoth, -, hlog, honly⟩ := endDeck_empties false d .skipped .skip tr (markRequest d s)
  rw [hmark] at hdeck hlog
  have hwr : (markRequest d s).running = true := hr
  have hdeck' : t.deck d = Deck.emptied _ (pushWrite (markRequest d s).running k.addr p .skipped k.writes) := hdeck
  rw [hwr, show k.writes = [] from hw, pushWrite_nil] at hdeck'
  refine ⟨by rw [hdeck']; rfl, by rw [hdeck']; rfl, hoth.trans (State.deck_setDeck_other ..), hlog, honly⟩

/-! ## The aired end (R26, R27, R37, R65) -/

/-- A boundary takes the deck and what it gave as they stand in the block that ends. -/
theorem boundary_lastEnd (i : BlockInput) (s : State) (d : DeckId) :
    ((beginBlock i s.airBlockNow.flags (advanceTime (completeBlock s))).deck d).lastEnd =
      ((s.deck d).blockBegins (s.pendingTime.getD (s.time + 240)) (s.filledBy d)).lastEnd := by
  have hfill : (advanceTime (completeBlock s)).filledBy d = s.filledBy d := by
    show (((completeBlock s).mixer.deckFrames.get d).length == 240) = _
    rw [completeBlock_mixer]
    rfl
  have hdeck : (advanceTime (completeBlock s)).deck d = s.deck d := by
    rw [boundary_only]
    rfl
  have htime : (advanceTime (completeBlock s)).beginsAt = s.pendingTime.getD (s.time + 240) := by
    rw [boundary_only]
    rfl
  rw [beginBlock_lastEnd, hfill, hdeck, htime]

theorem blockBegins_filled {k : Deck} (now : Time) : (k.blockBegins now true).lastEnd = now := by
  show (if _ then now else k.lastEnd) = now
  rw [Bool.or_true, if_pos rfl]

theorem blockBegins_audio {k : Deck} (now : Time) (h : k.kind = .audio) : (k.blockBegins now false).lastEnd = k.lastEnd := by
  unfold Deck.blockBegins
  rw [h]
  rfl

end Ends

/-- Settles O30. -/
theorem segmentsEndAsDecided : Obligations.SegmentsEndAsDecided := by
  unfold Obligations.SegmentsEndAsDecided
  refine ⟨fun s d => ?_, fun s i => ⟨_, completes_blockBoundary i s, fun d => ⟨fun h => ?_, fun h hk => ?_⟩⟩, fun s => ?_⟩
  · intro k o after final left faded ends hrun hw
    have hr := running_of_state hrun
    have hends : ∀ c st why tr aired, k.state.sounding = true → Completes c s (endAtBoundary d st why tr s) →
        (k.finalHalf why tr).framesAired = aired → ends c st why aired tr := fun c st why tr aired hs hc ha => by
      obtain ⟨hdeck, hoth, hlog, honly⟩ := endAtBoundary_empties s d st why tr hs
      have hdeck' : _ = k.emptied (pushWrite s.running k.addr (k.finalHalf why tr) st k.writes) := hdeck
      rw [hr, hw, pushWrite_nil] at hdeck'
      exact ⟨_, k.finalHalf why tr, hc, by rw [hdeck']; rfl, by rw [hdeck']; rfl, rfl, finalHalf_sounding _ _ hs, ha, rfl, rfl,
        hoth, hlog, honly⟩
    refine ⟨fun hk hb hst => ⟨fun hover => ?_, fun hl hfed hnot => ?_⟩, fun hk => ⟨fun hst hb hf => ?_, fun hst h0 hdone => ?_⟩⟩
    · have hs : k.state.sounding = true := by rcases hst with h | h <;> rw [h] <;> rfl
      have hcomp := completes_segmentEnd ((over_audio_iff hk hb hst).2 hover)
      rw [unfinished_audio hk] at hcomp
      exact hends _ _ _ _ _ hs hcomp (framesAired_audio _ _ hk)
    · refine ignored_segmentEnd (mt (over_audio_iff hk hb hst).1 ?_)
      rintro (h | ⟨hm, he⟩ | ⟨he, -, hf⟩)
      · exact absurd h hl.ne'
      · rcases hfed with h | h
        · exact Bool.false_ne_true (h.symm.trans hm)
        · exact h he
      · rcases hnot with h | h
        · exact absurd (h.symm.trans he) (by decide)
        · exact h hf
    · have hs : k.state.sounding = true := by rw [hst]; rfl
      have hover := over_live hk hb hst
      have hcomp := completes_segmentEnd (s := s) (d := d) (by rw [show _ = true from hf]; exact hover)
      rw [unfinished_live hk] at hcomp
      exact hends _ _ _ _ _ hs hcomp (framesAired_live _ _ hk)
    · have hs : k.state.sounding = true := by rw [hst]; rfl
      have hdur : k.durationDone = true := by
        unfold Deck.durationDone
        rcases hk with h | h <;> simp [h, h0, hdone]
      exact hends _ _ _ _ _ hs (completes_durationComplete hst hdur) (framesAired_live _ _ hk)
  · rw [boundary_lastEnd, show s.filledBy d = true from beq_iff_eq.2 h, blockBegins_filled]
  · rw [boundary_lastEnd, show s.filledBy d = false from beq_eq_false_iff_ne.2 h, blockBegins_audio _ hk]
  · refine ⟨fun w hw => ?_, rfl, fun h => ?_, fun h => ?_, fun d => ?_⟩
    · have h0 : w ≠ 0 := by rintro rfl; exact absurd hw (by decide)
      have h1 : w ≠ 1 := by rintro rfl; exact absurd hw (by decide)
      rw [segmentSkip, if_neg h0, if_neg h1]
    · show skipPlaying s = _
      rw [skipPlaying, skipTarget_none fun d => Bool.eq_false_iff.2 (mt (skippable_iff _).1 (not_or.2 (h d)))]
    · show skipCued s = _
      rw [skipCued, cuedDeck_none fun d => Bool.eq_false_iff.2 (mt (cued_iff _).1 (not_or.2 (h d)))]
    · intro k o ends
      have hends : ∀ w tr, s.survey.state = .running → k.writes = [] →
          segmentSkip w s = (.done, endDeck false d .skipped .skip tr (markRequest d s)) →
          ends w (k.endTime s.time) (k.requested.finalHalf .skip tr) := fun w tr hrun hw heq => by
        obtain ⟨hst, hwr, hoth, hlog, honly⟩ := skipEnds_says (d := d) tr (running_of_state hrun) hw
        exact ⟨_, heq, hst, hwr, rfl, rfl, rfl, hoth, hlog, honly⟩
      refine ⟨fun hlast => ⟨fun hst => ?_, fun hst hrun hw => ?_⟩, fun hst ho1 ho2 hrun hw => ?_⟩
      · have htarget : s.skipTarget = some d := skipTarget_eq ((skippable_iff _).2 (.inl hst))
          (hlast.imp_right fun h => Bool.eq_false_iff.2 (mt (skippable_iff _).1 (not_or.2 h)))
        have heq : segmentSkip 0 s = (.done, cutDeck false d .skip true s) := by
          show skipPlaying s = _
          rw [skipPlaying, htarget]
          exact if_neg (by rw [show (s.deck d).state = .playing from hst]; decide)
        refine ⟨_, heq, ?_, ?_, ?_, cutDeck_deck_other .., cutDeck_only ..⟩
        · rw [cutDeck_deck_self]
        · rw [cutDeck_deck_self]
        · rw [cutDeck_deck_self]
          exact Bool.or_true _
      · have htarget : s.skipTarget = some d := skipTarget_eq ((skippable_iff _).2 (.inr hst))
          (hlast.imp_right fun h => Bool.eq_false_iff.2 (mt (skippable_iff _).1 (not_or.2 h)))
        have heq : segmentSkip 0 s = (.done, endDeck false d .skipped .skip (s.deck d).unfinished (markRequest d s)) := by
          show skipPlaying s = _
          rw [skipPlaying, htarget]
          exact if_pos hst
        have hs : k.state.sounding = true := by rw [hst]; rfl
        have htime : k.endTime s.time = k.lastEnd := if_pos hs
        exact ⟨_, finalHalf_sounding (k := k.requested) _ _ hs, htime ▸ hends 0 _ hrun hw heq⟩
      · have hcued : s.cuedDeck = some d := cuedDeck_eq ((cued_iff _).2 hst)
          (Bool.eq_false_iff.2 (mt (cued_iff _).1 (not_or.2 ⟨ho1, ho2⟩)))
        have heq : segmentSkip 1 s = (.done, endDeck false d .skipped .skip false (markRequest d s)) := by
          show skipCued s = _
          rw [skipCued, hcued]
        have hs : k.state.sounding = false := by rcases hst with h | h <;> rw [h] <;> rfl
        have htime : k.endTime s.time = s.time := if_neg (ne_true_of_eq_false hs)
        exact ⟨_, finalHalf_silent (k := k.requested) _ _ hs, htime ▸ hends 1 _ hrun hw heq⟩

end Sys2Proof.Machine


/-! # Fetches, the rescue store and run-out (O26, O31) -/

namespace Sys2Proof.Machine

open Sys2Proof

/-! ## The engine's next read (R57) -/

section Issue
variable {s : State}

theorem completes_fetchIssue {u : FetchUser} (hi : s.fetch.inFlight = none) (hc : s.chosen = some u) :
    Completes .fetchIssue s (issueFetch u s) := by
  unfold Completes
  show execFetchIssue s = _
  rw [execFetchIssue, hi, hc]

/-- With deck A alone in want it is served. -/
theorem chosen_alone (ha : (s.deck .a).wants s.sections.station.fetchMark = true)
    (hb : (s.deck .b).wants s.sections.station.fetchMark = false) (hl : s.rescue.wants = false) :
    s.chosen = some (.deck .a) := by
  have hr : s.requesters = [.deck .a] := by
    unfold State.requesters
    dsimp only
    rw [show s.decks.deck.a.wants _ = true from ha, show s.decks.deck.b.wants _ = false from hb, hl]
    rfl
  rw [State.chosen, hr]
  rfl

/-- With both decks in want the engine compares them, then the loader. -/
theorem chosen_both (ha : (s.deck .a).wants s.sections.station.fetchMark = true)
    (hb : (s.deck .b).wants s.sections.station.fetchMark = true) :
    s.chosen = some (if s.rescue.wants then s.better (s.better (.deck .a) (.deck .b)) .loader
      else s.better (.deck .a) (.deck .b)) := by
  have hr : s.requesters = .deck .a :: .deck .b :: (if s.rescue.wants then [.loader] else []) := by
    unfold State.requesters
    dsimp only
    rw [show s.decks.deck.a.wants _ = true from ha, show s.decks.deck.b.wants _ = true from hb]
    rfl
  rw [State.chosen, hr]
  cases s.rescue.wants <;> rfl

/-- The loader gives way to a requester with room in its FIFO. -/
theorem better_loader {d : DeckId} (h : (s.deck d).fifo.length < 16384) : s.better (.deck d) .loader = .deck d := by
  have hrank : (s.fetchRank (.deck d)).1 = (s.deck d).fifo.length := rfl
  have hload : (s.fetchRank .loader).1 = 16384 := rfl
  rw [State.better, if_neg (by omega)]

theorem better_b (h : (s.deck .b).fifo.length < (s.deck .a).fifo.length) :
    s.better (.deck .a) (.deck .b) = .deck .b := if_pos (.inl h)

theorem better_a (h : (s.deck .a).fifo.length < (s.deck .b).fifo.length) :
    s.better (.deck .a) (.deck .b) = .deck .a := by
  have ha : (s.fetchRank (.deck .a)).1 = (s.deck .a).fifo.length := rfl
  have hb : (s.fetchRank (.deck .b)).1 = (s.deck .b).fifo.length := rfl
  rw [State.better, if_neg (by omega)]

theorem chosen_lower {d : DeckId} (ha : (s.deck .a).wants s.sections.station.fetchMark = true)
    (hb : (s.deck .b).wants s.sections.station.fetchMark = true) (hd : s.better (.deck .a) (.deck .b) = .deck d)
    (hroom : (s.deck d).fifo.length < 16384) : s.chosen = some (.deck d) := by
  rw [chosen_both ha hb, hd, better_loader hroom]
  split <;> rfl

end Issue

/-! ## Completed reads (R57, R58, R64, R70) -/

section Reads
variable {s : State} {d : DeckId} {a : Addr} {n : Nat} {data : List Byte}

theorem fitTo_self (h : data.length = n) : fitTo n data = data := by
  rw [fitTo, ← h, List.take_left]

theorem completes_fetchReadDone_deck (hi : s.fetch.inFlight = some ⟨.deck d, a, n, true⟩) (hn : data.length = n) :
    Completes (.fetchReadDone data) s ((idleEngine s).setDeck d ((s.deck d).join data)) := by
  unfold Completes
  show execFetchReadDone data s = _
  rw [execFetchReadDone, hi]
  dsimp only
  rw [if_pos rfl, fitTo_self hn]

theorem completes_fetchReadDone_dead {u : FetchUser} (hi : s.fetch.inFlight = some ⟨u, a, n, false⟩) :
    Completes (.fetchReadDone data) s { s with fetch := ⟨none⟩ } := by
  unfold Completes
  show execFetchReadDone data s = _
  rw [execFetchReadDone, hi]
  rfl

theorem settle_counts (k : Deck) : k.settle.toFetch = k.toFetch ∧ k.settle.carry = k.carry := by
  unfold Deck.settle
  split <;> exact ⟨rfl, rfl⟩

theorem join_counts (k : Deck) (bs : List Byte) :
    (k.join bs).toFetch = k.toFetch - (k.carry ++ bs).length / k.format.frameBytes ∧
      (k.join bs).carry.length = (k.carry ++ bs).length % k.format.frameBytes := by
  obtain ⟨hto, hcarry⟩ := settle_counts { k with
    fifo := k.fifo ++ framesOf k.format (k.carry ++ bs)
    toFetch := k.toFetch - (framesOf k.format (k.carry ++ bs)).length, carry := carryOf k.format (k.carry ++ bs) }
  refine ⟨hto.trans ?_, ?_⟩
  · exact congrArg (k.toFetch - ·) (framesOf_length ..)
  · show (Deck.settle _).carry.length = _
    rw [hcarry]
    show (List.drop _ (k.carry ++ bs)).length = _
    rw [List.length_drop, Nat.mod_eq_sub_div_mul]

theorem completes_fetchReadFailed_deck (hi : s.fetch.inFlight = some ⟨.deck d, a, n, true⟩) :
    Completes .fetchReadFailed s (deckFetchFailed d (idleEngine s)) := by
  unfold Completes
  show execFetchReadFailed s = _
  rw [execFetchReadFailed, hi]
  rfl

theorem completes_fetchReadFailed_loader (hi : s.fetch.inFlight = some ⟨.loader, a, n, true⟩) :
    Completes .fetchReadFailed s (loadFailed .fetch zeros16 (idleEngine s)) := by
  unfold Completes
  show execFetchReadFailed s = _
  rw [execFetchReadFailed, hi]
  rfl

/-- A failed read of a PLAYING deck raises FETCH_ERROR, and the deck is ENDING with what it has. -/
theorem deckFetchFailed_playing (h : (s.deck d).state = .playing) : deckFetchFailed d (idleEngine s) =
    { raise ⟨.fetchError, deckUnit d, (s.deck d).addr, 0, 0, zeros16⟩ s with
      fetch := ⟨none⟩, decks := { s.decks with deck := s.decks.deck.set d (s.deck d).fetchFailed } } := by
  have hr := raise_eq ⟨.fetchError, deckUnit d, (s.deck d).addr, 0, 0, zeros16⟩ (s := s) (t := idleEngine s) rfl rfl rfl rfl rfl
  have heq : deckFetchFailed d (idleEngine s) = if (s.deck d).state = .loading ∧ (s.deck d).fifo.isEmpty then
        endDeck false d .faulted .fetchError true ((raise ⟨.fetchError, deckUnit d, (s.deck d).addr, 0, 0, zeros16⟩
          (idleEngine s)).setDeck d (s.deck d).fetchFailed)
      else (raise ⟨.fetchError, deckUnit d, (s.deck d).addr, 0, 0, zeros16⟩ (idleEngine s)).setDeck d
        (s.deck d).fetchFailed := rfl
  rw [heq, if_neg (fun hc => by rw [h] at hc; exact nomatch hc.1), hr, raise_only _ s]
  rfl

theorem fetchFailed_playing {k : Deck} (h : k.state = .playing) : k.fetchFailed = { k with
    noMore := true, part := { k.part with flags := { k.part.flags with fetchError := true } }
    state := .ending, decided := some (.faulted, .fetchError) } := by
  rw [Deck.fetchFailed, h]

/-- The store after a load that has failed. -/
def Rescue.emptied (r : Rescue) : Rescue :=
  { r with state := .empty, frames := [], len := 0, reading := false, left := 0, carry := [] }

/-- A load that fails raises FETCH_ERROR with the fill address, as the part was. -/
theorem loadFailed_eq (why : FillReason) (snap : List Byte) (s : State) : loadFailed why snap s =
    { raise ⟨.fetchError, .rescueStore, s.rescue.fill, 0, why.code, snap⟩ s with rescue := s.rescue.emptied } := by
  have hr := raise_eq ⟨.fetchError, .rescueStore, s.rescue.fill, 0, why.code, snap⟩ (s := s)
    (t := { s with rescue := s.rescue.emptied }) rfl rfl rfl rfl rfl
  rw [raise_only _ s]
  exact hr

theorem loadFailed_idle (why : FillReason) (snap : List Byte) (s : State) : loadFailed why snap (idleEngine s) =
    { raise ⟨.fetchError, .rescueStore, s.rescue.fill, 0, why.code, snap⟩ s with
      fetch := ⟨none⟩, rescue := s.rescue.emptied } := by
  have hr := raise_eq ⟨.fetchError, .rescueStore, s.rescue.fill, 0, why.code, snap⟩ (s := s)
    (t := idleEngine s) rfl rfl rfl rfl rfl
  rw [loadFailed_eq]
  show { raise ⟨.fetchError, .rescueStore, s.rescue.fill, 0, why.code, snap⟩ (idleEngine s) with
    rescue := s.rescue.emptied } = _
  rw [hr, raise_only _ s]
  rfl

end Reads

/-- Settles O26. -/
theorem fetchEngineServesJoinsAndFails : Obligations.FetchEngineServesJoinsAndFails := by
  unfold Obligations.FetchEngineServesJoinsAndFails
  refine ⟨fun s hi => ⟨fun ha hb hl => ?_, fun ha hb => ⟨fun hlt hroom => ?_, fun hlt hroom => ?_⟩⟩,
    fun s d a n data hn => ⟨fun hi => ?_, fun hi => completes_fetchReadDone_dead hi⟩,
    fun s d a n => ⟨fun hi hst => ?_, fun hi => ?_⟩⟩
  · have hcomp := completes_fetchIssue hi (chosen_alone ha hb hl)
    refine ⟨(s.deck .a).readLength, _, hcomp, rfl, ?_, ?_, Nat.min_le_right .., rfl, rfl, rfl⟩
    · exact (Nat.min_le_left ..).trans (Nat.min_le_left ..)
    · have h : (s.deck .a).readLength ≤ (s.deck .a).toFetch * (s.deck .a).format.frameBytes - (s.deck .a).carry.length :=
        (Nat.min_le_left ..).trans (Nat.min_le_right ..)
      generalize (s.deck .a).toFetch * (s.deck .a).format.frameBytes = x at h ⊢
      omega
  · exact chosen_lower ha hb (better_b hlt) hroom
  · exact chosen_lower ha hb (better_a hlt) hroom
  · intro all
    obtain ⟨hto, hcarry⟩ := join_counts (s.deck d) data
    refine ⟨_, completes_fetchReadDone_deck hi hn, ?_⟩
    rw [State.deck_setDeck_self, State.deck_setDeck_other]
    exact ⟨rfl, join_fifo .., hto, hcarry, rfl, rfl⟩
  · have hcomp := completes_fetchReadFailed_deck hi
    rw [deckFetchFailed_playing hst, fetchFailed_playing hst] at hcomp
    refine ⟨_, hcomp, ?_⟩
    refine ⟨?_, ?_, ?_, ?_, ?_, Two.get_set_other .., rfl⟩ <;>
    · simp only [State.deck]
      rw [Two.get_set_self]
  · have hcomp := completes_fetchReadFailed_loader hi
    rw [loadFailed_idle] at hcomp
    exact ⟨_, hcomp, rfl, rfl, rfl⟩

/-! ## Run-out and the fill record (R69 to R71) -/

section RunOut
variable {s : State}

theorem completes_runOutStart (hp : s.survey.state = .running ∨ s.survey.state = .detached) (hr : s.decks.runOut = false)
    (hq : s.quiet = true) : Completes .runOutStart s { s with
      decks := { s.decks with
        runOut := true, fillPos := 0, fillLive := s.rescue.state == .ready
        fillBlock := s.rescue.fillOf (s.rescue.state == .ready) 0 }
      mixer := { s.mixer with fill := if s.rescue.state == .ready
        then s.mixer.fill.startAt s.sections.station.fillGain 1 else s.mixer.fill } } := by
  unfold Completes
  show execRunOutStart s = _
  rw [execRunOutStart, if_pos (by rw [(onProgramme_iff s).2 hp, hr, hq]; rfl)]

theorem framesFrom_start {r : Rescue} {i : Nat} (hi : i < 240) (hr : 0 < r.frames.length) :
    frameAt (r.framesFrom 0) i = frameAt r.frames (i % r.frames.length) := by
  rw [Rescue.framesFrom, frameAt_makeBlock _ hi, if_neg hr.ne', Nat.zero_add]

theorem startAt_one (r : Ramp) (g : Nat) : (r.startAt g 1).blk = g := stepGain_one ..

theorem completes_fillRecordReadDone (r : ReadResult) (hf : s.fresh .fillRecord) :
    Completes (.fillRecordReadDone r) s (fillRecordReadDone r s) := by
  unfold Completes
  show execFillRecordReadDone r s = _
  rw [execFillRecordReadDone, onRead_fresh _ hf]

theorem fillRecordReadDone_failed (h : s.rescue.reading = true) :
    fillRecordReadDone none s = silenceReaders (loadFailed .readFailed zeros16 s) := by
  rw [fillRecordReadDone, h]
  rfl

theorem fillRecordReadDone_bad {bs : List Byte} (h : s.rescue.reading = true) (hb : fillFormat (hostHalfOf bs) = none) :
    fillRecordReadDone (some bs) s = silenceReaders (loadFailed .badFillRecord (snapshot16 bs) s) := by
  rw [fillRecordReadDone, h]
  simp only [Bool.not_true, if_neg Bool.false_ne_true, hb]

theorem fillRecordReadDone_good {bs : List Byte} {f : SampleFormat} (h : s.rescue.reading = true)
    (hb : fillFormat (hostHalfOf bs) = some f) : fillRecordReadDone (some bs) s = loadRecord (hostHalfOf bs) f s := by
  rw [fillRecordReadDone, h]
  simp only [Bool.not_true, if_neg Bool.false_ne_true, hb]

end RunOut

/-- Settles O31. -/
theorem runOutPlaysTheLoadedStore : Obligations.RunOutPlaysTheLoadedStore := by
  unfold Obligations.RunOutPlaysTheLoadedStore
  refine ⟨fun s hp hr hq => ?_, fun s hf hr => ⟨fun r hbad => ?_, fun bs f hgood => ?_⟩⟩
  · refine ⟨_, completes_runOutStart hp hr hq, rfl, rfl, fun hready => ?_, fun hno => ?_, fun d => rfl, rfl⟩
    · rw [hready]
      exact ⟨rfl, startAt_one .., makeBlock_length _, fun i hi h0 => framesFrom_start hi h0⟩
    · have hfalse : (s.rescue.state == .ready) = false := beq_eq_false_iff_ne.2 hno
      rw [hfalse]
      exact ⟨rfl, rfl, rfl⟩
  · have hcomp := completes_fillRecordReadDone r hf
    cases r with
    | none =>
      rw [fillRecordReadDone_failed hr, loadFailed_eq] at hcomp
      refine ⟨_, hcomp, rfl, rfl, ?_, fun d => ?_, rfl⟩
      · show (raise _ s).decks.fillBlock = _
        rw [raise_decks]
      · show (raise _ s).decks.deck.get d = _
        rw [raise_decks]
        rfl
    | some bs =>
      have hnone : fillFormat (hostHalfOf bs) = none := Option.isNone_iff_eq_none.1 hbad
      rw [fillRecordReadDone_bad hr hnone, loadFailed_eq] at hcomp
      refine ⟨_, hcomp, rfl, rfl, ?_, fun d => ?_, rfl⟩
      · show (raise _ s).decks.fillBlock = _
        rw [raise_decks]
      · show (raise _ s).decks.deck.get d = _
        rw [raise_decks]
        rfl
  · have hcomp := completes_fillRecordReadDone (some bs) hf
    rw [fillRecordReadDone_good hr hgood] at hcomp
    exact ⟨_, hcomp, rfl, rfl, rfl, rfl, rfl, rfl, fun d => rfl, rfl, rfl, rfl⟩

end Sys2Proof.Machine


/-! # Record writes in a deck and in the walker (R39, R43) -/

namespace Sys2Proof.Machine
open Sys2Proof

/-! ## The list of writes -/

section Lists
variable (w x : RecordWrite) (ws : List RecordWrite)

theorem goodHead_first_running : goodHead true ({ w with phase := .first } :: ws) = { w with phase := .last } :: ws :=
  rfl

theorem goodHead_first_stopped : goodHead false ({ w with phase := .first } :: ws) =
    failHead ({ w with phase := .first } :: ws) := rfl

theorem goodHead_last (running : Bool) : goodHead running [{ w with phase := .last }] = [] := rfl

theorem inFlightHead_of_phase {w : RecordWrite} (h : w.phase = .first ∨ w.phase = .last) :
    inFlightHead (w :: ws) = true := by
  rw [inFlightHead]
  rcases h with h | h <;> rw [h] <;> rfl

/-- At entry to DETACHED a write in flight goes on, and the newest of those behind it is held. -/
theorem holdWrites_first (h : ∀ y ∈ ws ++ [x], y.addr = w.addr) :
    holdWrites ({ w with phase := .first } :: (ws ++ [x])) = [{ w with phase := .first }, x.hold] := by
  rw [holdWrites, if_pos (inFlightHead_of_phase _ (.inl rfl)), newestWrites_same w.addr ws x h]
  rfl

/-- At entry to DETACHED a held write gives way to the newest of its record. -/
theorem holdWrites_held (h : ∀ y ∈ ws ++ [x], y.addr = w.addr) :
    holdWrites ({ w with phase := .held } :: (ws ++ [x])) = [x.hold] := by
  have hall : ∀ y ∈ ({ w with phase := .held } :: ws) ++ [x], y.addr = w.addr := by
    intro y hy
    rcases List.mem_cons.1 hy with rfl | hy
    · rfl
    · exact h y hy
  show (newestWrites (({ w with phase := .held } :: ws) ++ [x])).map RecordWrite.hold = _
  rw [newestWrites_same w.addr _ x hall]
  rfl

/-- A newer write takes the place of a held one that waits behind another record's write in flight (R39). -/
theorem pushWrite_kept (half : PartHalf) (st : RecState) (hw : w.phase = .waiting) (hx : x.addr ≠ w.addr)
    (hp : x.phase = .first ∨ x.phase = .last) (hk : w.kept = true) :
    pushWrite true w.addr half st [x, w] = [x, ⟨w.addr, half, st, .waiting, true⟩] := by
  have hxa : (x.addr == w.addr) = false := beq_eq_false_iff_ne.2 hx
  rcases hp with hp | hp <;>
    simp [pushWrite, joinWrite, issueHead, RecordWrite.replaceable, hxa, hw, hk, hp]

/-- A write that was never held is not replaced (R39). -/
theorem pushWrite_unkept (half : PartHalf) (st : RecState) (hw : w.phase = .waiting) (hx : x.addr ≠ w.addr)
    (hp : x.phase = .first ∨ x.phase = .last) (hk : w.kept = false) :
    pushWrite true w.addr half st [x, w] = [x, w, ⟨w.addr, half, st, .waiting, false⟩] := by
  have hxa : (x.addr == w.addr) = false := beq_eq_false_iff_ne.2 hx
  rcases hp with hp | hp <;>
    simp [pushWrite, joinWrite, issueHead, RecordWrite.replaceable, hxa, hw, hk, hp]

/-- The write that takes a held one's place is held. -/
theorem pushWrite_held (running : Bool) (half : PartHalf) (st : RecState) (h : w.phase = .held) :
    pushWrite running w.addr half st [w] = [⟨w.addr, half, st, .held, true⟩] := by
  simp [pushWrite, joinWrite, issueHead, RecordWrite.replaceable, RecordWrite.hold, h]

end Lists

/-! ## The completions -/

section Completions
variable {s : State} {d : DeckId}

theorem completes_recordWriteDone_good (hf : s.fresh (.recordWrite d)) (h : inFlightHead (s.deck d).writes = true) :
    Completes (.recordWriteDone d true) s
      (noteDemand (s.setDeck d { s.deck d with writes := goodHead s.running (s.deck d).writes })) := by
  unfold Completes
  show execRecordWriteDone d true s = _
  rw [execRecordWriteDone, onWrite_fresh _ _ _ hf, recordWriteDone, h]
  rfl

theorem completes_recordWriteDone_failed (hf : s.fresh (.recordWrite d)) (h : inFlightHead (s.deck d).writes = true) :
    Completes (.recordWriteDone d false) s (noteDemand ((writeError (deckUnit d) s).setDeck d
      { s.deck d with writes := failHead (s.deck d).writes, writeTried := true })) := by
  unfold Completes
  show execRecordWriteDone d false s = _
  rw [execRecordWriteDone, onWrite_fresh _ _ _ hf, recordWriteDone, h]
  rfl

/-- What a completion with the writes ws leaves of a deck's state: the deck's writes, and nothing but the decks and the
walker's memory of demand. -/
theorem noteDemand_setDeck (s : State) (d : DeckId) (k : Deck) :
    let t := noteDemand (s.setDeck d k)
    t.deck d = k ∧ t.deck d.other = s.deck d.other ∧ t = { s with decks := t.decks, walker := t.walker } := by
  refine ⟨?_, ?_, ?_⟩
  · rw [noteDemand_deck, State.deck_setDeck_self]
  · rw [noteDemand_deck, State.deck_setDeck_other]
  · rw [noteDemand_only]
    rfl

theorem recordWriteDone_good (hf : s.fresh (.recordWrite d)) (h : inFlightHead (s.deck d).writes = true) :
    ∃ t, Completes (.recordWriteDone d true) s t ∧ (t.deck d).writes = goodHead s.running (s.deck d).writes ∧
      t.deck d.other = s.deck d.other ∧ t = { s with decks := t.decks, walker := t.walker } := by
  obtain ⟨hself, hother, honly⟩ := noteDemand_setDeck s d { s.deck d with
    writes := goodHead s.running (s.deck d).writes }
  exact ⟨_, completes_recordWriteDone_good hf h, by rw [hself], hother, honly⟩

theorem recordWriteDone_failed (hf : s.fresh (.recordWrite d)) (h : inFlightHead (s.deck d).writes = true) :
    ∃ t, Completes (.recordWriteDone d false) s t ∧ (t.deck d).writes = failHead (s.deck d).writes ∧
      t.deck d.other = s.deck d.other ∧
      t = { writeError (deckUnit d) s with decks := t.decks, walker := t.walker } := by
  obtain ⟨hself, hother, honly⟩ := noteDemand_setDeck (writeError (deckUnit d) s) d { s.deck d with
    writes := failHead (s.deck d).writes, writeTried := true }
  refine ⟨_, completes_recordWriteDone_failed hf h, by rw [hself], ?_, honly⟩
  rw [hother]
  exact raise_deck ..

/-- HELD_WRITE_RETRY with an attempt to make (R39). -/
theorem completes_heldWriteRetry {w : RecordWrite} {ws : List RecordWrite} (hr : s.survey.state = .running)
    (ht : (s.deck d).writeTried = false) (hw : (s.deck d).writes = w :: ws) (hh : w.phase = .held) :
    Completes (.heldWriteRetry d) s
      (s.setDeck d { s.deck d with writes := { w with phase := .first } :: ws, writeTried := true }) := by
  have hheld : (s.deck d).heldHead = true := by
    rw [Deck.heldHead, hw]
    show (w.phase == .held) = true
    rw [hh]
    rfl
  unfold Completes
  show execHeldWriteRetry d s = _
  rw [execHeldWriteRetry]
  dsimp only
  rw [if_pos (by rw [(running_iff s).2 hr, hheld, ht]; rfl), hw]
  rfl

theorem ignored_heldWriteRetry (ht : (s.deck d).writeTried = true) : Ignored (.heldWriteRetry d) s := by
  unfold Ignored
  show execHeldWriteRetry d s = _
  rw [execHeldWriteRetry, if_neg (by rw [ht]; simp)]

theorem completes_walkerWriteDone (ok : Bool) (hf : s.fresh .walkerWrite) (h : inFlightHead s.walker.writes = true) :
    let s' := if ok then s else writeError .orderWalker s
    Completes (.walkerWriteDone ok) s { s' with
      walker := { s'.walker with writes := walkerWritesAfter s.running ok s.walker.writes } } := by
  unfold Completes
  show execWalkerWriteDone ok s = _
  rw [execWalkerWriteDone, onWrite_fresh _ _ _ hf, walkerWriteDone, h]
  rfl

/-- The third failed header read in RUNNING: DETACHED is entered, each deck's writes held as they are there (R7, R8). -/
theorem detaches (hf : s.fresh .header) (hp : s.survey.phase = .editionWord) (hn : s.survey.failedReads = 2) :
    ∃ t, Completes (.headerReadDone none) s t ∧ t.survey.state = .detached ∧
      ∀ d, (t.deck d).writes = holdWrites (s.deck d).writes := by
  have hcomp : Completes (.headerReadDone none) s (headerReadDone none s) := by
    unfold Completes
    show execHeaderReadDone none s = _
    rw [execHeaderReadDone, onRead_fresh _ hf]
  rw [headerReadDone_failed (.inl hp), headerFailed_eq, if_pos (by rw [hn]), enterDetached_only] at hcomp
  refine ⟨_, hcomp, rfl, fun d => ?_⟩
  have hdecks : s.headerCounted.decks = s.decks := by
    unfold State.headerCounted
    split
    · exact raise_decks ..
    · rfl
  rw [hdecks]
  cases d <;> rfl

end Completions

/-- Settles O25. -/
theorem recordWritesGoHalfThenState : Obligations.RecordWritesGoHalfThenState := by
  unfold Obligations.RecordWritesGoHalfThenState
  refine ⟨fun s d w hr => ⟨fun hf hw => ?_, fun hf hw => ?_, fun hf hw => ?_, fun hw => ⟨ignored_heldWriteRetry, fun ht => ?_⟩,
      fun hf hw => ?_⟩,
    fun s d w x ws haddr => ⟨fun hf hw => ?_, fun hf hr hw => ?_, fun hf hr hp hn => ?_⟩,
    fun s d w x ys zs hx hz => ⟨fun hf hp hw => ?_, fun hr ht hw => ?_⟩,
    fun w x half st hw hx hp => ⟨pushWrite_kept w x half st hw hx hp, pushWrite_unkept w x half st hw hx hp⟩,
    fun w => ⟨fun h => ?_, fun h => ?_, fun h running half st => pushWrite_held w running half st h⟩⟩
  · obtain ⟨t, ht, hws, hother, honly⟩ := recordWriteDone_good hf (by rw [hw]; rfl)
    rw [hw, (running_iff s).2 hr] at hws
    exact ⟨t, ht, hws, honly, hother⟩
  · obtain ⟨t, ht, hws, hother, honly⟩ := recordWriteDone_good hf (by rw [hw]; rfl)
    rw [hw] at hws
    exact ⟨t, ht, hws, hother, honly⟩
  · have hfly : inFlightHead (s.deck d).writes = true := by rcases hw with hw | hw <;> rw [hw] <;> rfl
    have hfail : failHead (s.deck d).writes = [{ w with phase := .held, kept := true }] := by
      rcases hw with hw | hw <;> rw [hw] <;> rfl
    obtain ⟨t, ht, hws, hother, honly⟩ := recordWriteDone_failed hf hfly
    rw [hfail] at hws
    refine ⟨t, ht, hws, ?_, honly, hother⟩
    rw [Deck.open, Deck.holdsWrite, hws]
    exact Bool.and_false _
  · refine ⟨_, completes_heldWriteRetry hr ht hw rfl, ?_, ?_, ?_, rfl, State.deck_setDeck_other ..⟩ <;>
      rw [State.deck_setDeck_self]
    exact Bool.and_false _
  · exact ⟨(completes_walkerWriteDone true hf (by rw [hw]; rfl)).trans (by rw [hw]; rfl),
      (completes_walkerWriteDone false hf (by rw [hw]; rfl)).trans (by
        rw [if_neg Bool.false_ne_true, hw, writeError_walker]
        rfl)⟩
  · have hfly : inFlightHead (s.deck d).writes = true := by rcases hw with hw | hw <;> rw [hw] <;> rfl
    have hfail : failHead (s.deck d).writes = [x.hold] := by
      rcases hw with hw | hw <;> rw [hw] <;> exact failHead_same _ x ws haddr
    obtain ⟨t, ht, hws, _⟩ := recordWriteDone_failed hf hfly
    exact ⟨t, ht, hws.trans hfail⟩
  · have hstopped : s.running = false := Bool.eq_false_iff.2 fun h => hr ((running_iff s).1 h)
    obtain ⟨t, ht, hws, _⟩ := recordWriteDone_good hf (by rw [hw]; rfl)
    rw [hw, hstopped, goodHead_first_stopped] at hws
    exact ⟨t, ht, hws.trans (failHead_same _ x ws haddr)⟩
  · obtain ⟨t, ht, hst, hws⟩ := detaches hf hp hn
    refine ⟨t, ht, hst, fun hw => ?_, fun hw => ?_⟩
    · rw [hws, hw]
      exact holdWrites_first w x ws haddr
    · rw [hws, hw]
      exact holdWrites_held w x ws haddr
  · obtain ⟨t, ht, hws, _⟩ := recordWriteDone_failed hf (by rw [hw]; exact inFlightHead_of_phase _ hp)
    rw [hw, failHead_newest w x ys zs hx hz] at hws
    exact ⟨t, ht, hws⟩
  · refine ⟨_, completes_heldWriteRetry hr ht hw rfl, ?_, rfl, State.deck_setDeck_other ..⟩
    rw [State.deck_setDeck_self]
  · rw [RecordWrite.onBus, h]
    rfl
  · rw [RecordWrite.onBus, h]
    rfl

end Sys2Proof.Machine


/-! # Walks: their beginnings, the cue, and the records passed, marked or bad (R40 to R48) -/

namespace Sys2Proof.Machine
open Sys2Proof

/-! ## The beginning of a walk (R44) -/

section Beginnings
variable {s : State}

theorem mayWalk_of (hr : s.survey.state = .running) (hd : s.demand = true) (hw : s.walker.walking = false)
    (ho : s.walker.state ≠ .noOrder) : s.mayWalk = true := by
  rw [State.mayWalk, (running_iff s).2 hr, hd, hw]
  exact bne_iff_ne.2 ho

theorem walkStart_iff : (s.mayWalk && (s.walker.state == .toExamine || s.walker.lapsed ||
      (s.walker.surveyChanged && s.survey.phase == .idle))) = true ↔
    s.mayWalk = true ∧ ((s.walker.state = .toExamine ∨ s.walker.lapsed = true) ∨
      s.walker.surveyChanged = true ∧ s.survey.phase = .idle) := by
  simp only [Bool.and_eq_true, Bool.or_eq_true, beq_iff_eq]

theorem completes_walkStart (hm : s.mayWalk = true) (h : (s.walker.state = .toExamine ∨ s.walker.lapsed = true) ∨
    s.walker.surveyChanged = true ∧ s.survey.phase = .idle) : Completes .walkStart s (beginWalk s) := by
  unfold Completes
  show execWalkStart s = _
  rw [execWalkStart, if_pos (walkStart_iff.2 ⟨hm, h⟩)]

theorem ignored_walkStart (hst : s.walker.state ≠ .toExamine) (hl : s.walker.lapsed = false)
    (hc : s.walker.surveyChanged = false) : Ignored .walkStart s := by
  have hno : ¬ ((s.walker.state = .toExamine ∨ s.walker.lapsed = true) ∨
      s.walker.surveyChanged = true ∧ s.survey.phase = .idle) := by
    rw [hl, hc]
    rintro ((h | h) | ⟨h, -⟩)
    · exact hst h
    · exact Bool.false_ne_true h
    · exact Bool.false_ne_true h
  unfold Ignored
  show execWalkStart s = _
  rw [execWalkStart, if_neg fun h => hno (walkStart_iff.1 h).2]

/-- A header edition change is forgotten at the boundary unless its pass is still in progress. -/
theorem boundary_surveyChanged (i : BlockInput) (s : State) :
    (beginBlock i s.airBlockNow.flags (advanceTime (completeBlock s))).walker.surveyChanged =
      (s.walker.surveyChanged && s.survey.phase.inPass) := by
  rw [beginBlock_only, boundary_only]
  rfl

end Beginnings

/-! ## The cue (R43, R45, R55) -/

section Cue
variable {s : State} {d : DeckId}

theorem open_of_idle (he : (s.deck d).state = .empty) (hw : (s.deck d).writes = []) : (s.deck d).open = true := by
  rw [Deck.open, Deck.holdsWrite, he, hw]
  rfl

theorem not_open (h : (s.deck d).state ≠ .empty ∨ ∃ w ∈ (s.deck d).writes, w.kept = true) : (s.deck d).open = false := by
  rw [Deck.open, Deck.holdsWrite]
  rcases h with h | h
  · rw [beq_eq_false_iff_ne.2 h, Bool.false_and]
  · rw [List.any_eq_true.2 h, Bool.not_true, Bool.and_false]

theorem not_cued {k : Deck} (hl : k.state ≠ .loading) (hr : k.state ≠ .ready) : k.state.cued = false := by
  cases h : k.state with
  | loading => exact absurd h hl
  | ready => exact absurd h hr
  | empty | playing | ending | paused => rfl

/-- Demand names an open deck, and deck A when both are open (R43). -/
theorem demandDeck_eq (he : (s.deck d).state = .empty) (hw : (s.deck d).writes = [])
    (ho : (s.deck d.other).state.cued = false)
    (hb : d = .b → (s.deck .a).state ≠ .empty ∨ ∃ w ∈ (s.deck .a).writes, w.kept = true) :
    s.demandDeck = some d := by
  have hopen := open_of_idle he hw
  have hcued : (s.deck d).state.cued = false := by
    rw [he]
    rfl
  unfold State.demandDeck
  cases d
  case a =>
    have hno : ¬ (s.decks.deck.a.state.cued || s.decks.deck.b.state.cued) = true := by
      rw [show s.decks.deck.a.state.cued = false from hcued, show s.decks.deck.b.state.cued = false from ho]
      exact Bool.false_ne_true
    rw [if_neg hno]
    exact if_pos hopen
  case b =>
    have hno : ¬ (s.decks.deck.a.state.cued || s.decks.deck.b.state.cued) = true := by
      rw [show s.decks.deck.a.state.cued = false from ho, show s.decks.deck.b.state.cued = false from hcued]
      exact Bool.false_ne_true
    have ha : ¬ s.decks.deck.a.open = true := Bool.eq_false_iff.1 (not_open (hb rfl))
    rw [if_neg hno, if_neg ha]
    exact if_pos hopen

/-- The deck that a walk cues into, its CUED write begun. -/
def State.cuedInto (s : State) (h : HostHalf) (k : SegKind) (f : SampleFormat) (d : DeckId) : Deck :=
  let x := cuedDeckOf s.walker.ptr k f (cueCopy k h) d s.time (s.deck d)
  { x with writes := pushWrite s.running x.addr x.part .cued x.writes }

/-- Where a cue leaves the pointer: at the next record to examine, or at the end of the order (R45, R47). -/
theorem cueRecord_says (h : HostHalf) (k : SegKind) (f : SampleFormat) (d : DeckId) (s : State) :
    let t := cueRecord h k f d s
    t.deck d = s.cuedInto h k f d ∧ t.deck d.other = s.deck d.other ∧ t.walker.walking = false ∧
      (h.next ≠ 0 → t.walker.ptr = h.next ∧ t.walker.state = .toExamine) ∧
      (h.next = 0 → t.walker.ptr = s.walker.ptr ∧ t.walker.state = .atEnd) ∧
      t = { s with decks := t.decks, walker := t.walker } := by
  have hself : (s.setDeck d (s.cuedInto h k f d)).deck d = s.cuedInto h k f d := State.deck_setDeck_self ..
  have hother : (s.setDeck d (s.cuedInto h k f d)).deck d.other = s.deck d.other := State.deck_setDeck_other ..
  intro t
  by_cases hn : h.next = 0
  · have ht : t = endWalk .atEnd (s.setDeck d (s.cuedInto h k f d)) := if_pos hn
    clear_value t
    rw [ht, endWalk_eq]
    exact ⟨hself, hother, rfl, fun h => absurd hn h, fun _ => ⟨rfl, rfl⟩, rfl⟩
  · have ht : t = endWalk .toExamine { s.setDeck d (s.cuedInto h k f d) with
        walker := { s.walker with ptr := h.next } } := if_neg hn
    clear_value t
    rw [ht, endWalk_eq]
    exact ⟨hself, hother, rfl, fun _ => ⟨rfl, rfl⟩, fun h => absurd h hn, rfl⟩

end Cue

/-! ## A record examined (R45 to R48) -/

section Examination
variable {s : State} {bs : List Byte}

/-- A walk that follows the next field of the record it has read, from the state u that the record left: the walker's
writes are ws, and it goes on, ends, or stops at the walk limit. -/
def Follows (s : State) (bs : List Byte) (ws : List RecordWrite) (u t : State) : Prop :=
  let h := hostHalfOf bs
  let a := s.walker.ptr
  let bad := raise ⟨.recordBad, .orderWalker, a, 0, RecordReason.chainLimit.code, snapshot16 bs⟩ u
  t.walker.writes = ws ∧
  (h.next = 0 → t.walker.ptr = a ∧ t.walker.state = .atEnd ∧ t.walker.walking = false ∧
    t = { u with walker := t.walker }) ∧
  (h.next ≠ 0 → s.walker.links < 64 → t.walker.ptr = h.next ∧ t.walker.state = .toExamine ∧
    t.walker.walking = true ∧ t.walker.links = s.walker.links + 1 ∧ t = { u with walker := t.walker }) ∧
  (h.next ≠ 0 → 64 ≤ s.walker.links → t.walker.ptr = a ∧ t.walker.state = .chainWait ∧
    t.walker.walking = false ∧ t.walker.links = 0 ∧ t = { bad with walker := t.walker })

theorem follows_follow {ws : List RecordWrite} {u v : State} (hw : s.walker.walking = true)
    (hv : v.walker = { s.walker with writes := ws }) (hu : v = { u with walker := v.walker }) :
    Follows s bs ws u (follow bs (hostHalfOf bs).next v) := by
  obtain ⟨hws, hend, hon, hlimit⟩ := follow_says bs (hostHalfOf bs).next v _ rfl
  generalize follow bs (hostHalfOf bs).next v = t at hws hend hon hlimit
  have hraise (r : Raising) : raise r v = { raise r u with walker := v.walker } := by
    rw [raise_eq r (s := u) (t := v) (by rw [hu]) (by rw [hu]) (by rw [hu]) (by rw [hu]) (by rw [hu]), raise_only r u]
    exact congrArg (fun x : State => { x with faults := (raise r u).faults, log := (raise r u).log }) hu
  have honly (h : t = { v with walker := t.walker }) : t = { u with walker := t.walker } := by
    rw [hu] at h
    exact h
  rw [hv] at hws hend hon hlimit
  refine ⟨hws, fun h => ?_, fun h hl => ?_, fun h hl => ?_⟩
  · obtain ⟨hptr, hst, hwalk, ht⟩ := hend h
    exact ⟨hptr, hst, hwalk, honly ht⟩
  · obtain ⟨hptr, hst, hwalk, hlinks, ht⟩ := hon h hl
    exact ⟨hptr, hst, hwalk.trans hw, hlinks, honly ht⟩
  · obtain ⟨hptr, hst, hwalk, hlinks, ht⟩ := hlimit h hl
    refine ⟨hptr, hst, hwalk, hlinks, ?_⟩
    rw [hraise] at ht
    exact ht

/-- The record at the pointer is marked: its SEGMENT_END entry, and its write as the walker's. -/
theorem markRecord_eq {u : State} (p : PartHalf) (st : RecState) (hr : s.survey.state = .running)
    (hws : s.walker.writes = []) (hu : u = { s with faults := u.faults, log := u.log }) :
    let e := handLog (segmentEntry .segmentEnd .orderWalker s.time s.walker.ptr (hostHalfOf bs).tag p st) u
    markRecord (hostHalfOf bs) p st u = { e with
      walker := { s.walker with writes := [⟨s.walker.ptr, p, st, .first, false⟩] } } := by
  obtain ⟨faults, log, rfl⟩ : ∃ faults log, u = { s with faults := faults, log := log } := ⟨_, _, hu⟩
  have hrun : ({ s with faults := faults, log := log } : State).running = true := (running_iff s).2 hr
  intro e
  rw [markRecord, pushWalkerWrite, hrun]
  dsimp only
  rw [hws]
  rfl

theorem recordReadDone_atEnd (hw : s.walker.walking = true) (h : s.walker.state = .atEnd) :
    recordReadDone (some bs) s = follow bs (hostHalfOf bs).next s := by
  rw [recordReadDone, hw]
  exact if_pos h

theorem recordReadDone_examine (hw : s.walker.walking = true) (h : s.walker.state ≠ .atEnd) :
    recordReadDone (some bs) s = examine bs s := by
  rw [recordReadDone, hw]
  exact if_neg h

theorem examine_draft (h : (hostHalfOf bs).state = 0) : examine bs s = endWalk .waitingDraft s := by
  rw [examine, h]
  rfl

theorem examine_ready (h : (hostHalfOf bs).state = 1) : examine bs s = readyRecord bs s := by
  rw [examine, h]
  rfl

theorem examine_final (h : (hostHalfOf bs).state = 4 ∨ (hostHalfOf bs).state = 5 ∨ (hostHalfOf bs).state = 6 ∨
    (hostHalfOf bs).state = 7) : examine bs s = follow bs (hostHalfOf bs).next s := by
  rw [examine]
  rcases h with h | h | h | h <;> rw [h] <;> rfl

theorem examine_begun (h : (hostHalfOf bs).state = 2 ∨ (hostHalfOf bs).state = 3) : examine bs s =
    if s.heldByDeck s.walker.ptr then follow bs (hostHalfOf bs).next s else staleRecord bs s := by
  rw [examine]
  rcases h with h | h <;> rw [h] <;> rfl

theorem ofCode_none {n : Nat} (h : 8 ≤ n) : RecState.ofCode n = none := by
  match n, h with
  | n + 8, _ => rfl

theorem examine_unknown (h : 8 ≤ (hostHalfOf bs).state.toNat) : examine bs s = badRecord bs .stateValue s := by
  rw [examine, ofCode_none h]

theorem examine_invalid {why : RecordReason} (h : (hostHalfOf bs).state = 1)
    (hv : validate (hostHalfOf bs) = .error why) : examine bs s = badRecord bs why s := by
  rw [examine_ready h, readyRecord, hv]

theorem examine_valid {k : SegKind} {f : SampleFormat} {d : DeckId} (h : (hostHalfOf bs).state = 1)
    (hv : validate (hostHalfOf bs) = .ok (k, f)) (hd : s.demandDeck = some d) :
    examine bs s = cueRecord (hostHalfOf bs) k f d s := by
  rw [examine_ready h, readyRecord, hv]
  dsimp only
  rw [hd]

theorem holds_iff (k : Deck) (a : Addr) :
    k.holds a = true ↔ (k.state ≠ .empty ∧ k.addr = a) ∨ ∃ w ∈ k.writes, w.addr = a := by
  simp only [Deck.holds, Bool.or_eq_true, Bool.and_eq_true, bne_iff_ne, beq_iff_eq, List.any_eq_true]

theorem heldByDeck_iff (s : State) (a : Addr) : s.heldByDeck a = true ↔
    ∃ d, ((s.deck d).state ≠ .empty ∧ (s.deck d).addr = a) ∨ ∃ w ∈ (s.deck d).writes, w.addr = a := by
  rw [State.heldByDeck, Bool.or_eq_true, holds_iff, holds_iff]
  constructor
  · rintro (h | h)
    · exact ⟨.a, h⟩
    · exact ⟨.b, h⟩
  · rintro ⟨d, h⟩
    cases d
    case a => exact .inl h
    case b => exact .inr h

end Examination

/-- Settles O23. -/
theorem walksCueGoodRecordsAndFaultBadOnes : Obligations.WalksCueGoodRecordsAndFaultBadOnes := by
  unfold Obligations.WalksCueGoodRecordsAndFaultBadOnes
  refine ⟨fun s hr hd hw ho => ?_, fun s i => ⟨_, completes_blockBoundary i s, boundary_surveyChanged i s⟩,
    fun s bs f d hf hr hw hst he hws hl hready hb h1 hv => ?_, fun s bs hf hr hw hws => ?_⟩
  · have hmay := mayWalk_of hr hd hw ho
    refine ⟨fun h => completes_walkStart hmay (.inl (.inl h)), fun h hwait => ?_, fun h => ?_, ignored_walkStart⟩
    · have hwaits : s.walker.state.waits = true := by rcases h with h | h | h <;> rw [h] <;> rfl
      exact completes_walkWaitExpired hr hd hw hwaits hwait
    · exact completes_walkStart hmay (h.imp_left .inr)
  · intro h
    have hcomp := completes_recordReadDone (some bs) hf
    rw [recordReadDone_examine hw hst, examine_valid h1 hv (demandDeck_eq he hws (not_cued hl hready) hb)] at hcomp
    obtain ⟨hdeck, hother, hwalk, hnext, hend, honly⟩ := cueRecord_says (hostHalfOf bs) .audio f d s
    refine ⟨_, hcomp, ?_⟩
    rw [hdeck]
    refine ⟨rfl, rfl, rfl, rfl, rfl, rfl, rfl, rfl, ⟨(s.cuedInto h .audio f d).part, ?_, rfl, ?_⟩, hother, hwalk, hnext, hend, honly⟩
    · show pushWrite s.running _ _ _ (s.deck d).writes = _
      rw [hws, (running_iff s).2 hr]
      rfl
    · cases d <;> rfl
  · intro h a held follows marked
    have hcomp := completes_recordReadDone (some bs) hf
    have hsame : s.walker = { s.walker with writes := [] } := by rw [← hws]
    have hpass : follows [] s (follow bs h.next s) := follows_follow hw hsame rfl
    refine ⟨fun hat => ?_, fun hat => ⟨fun hdraft => ?_, fun hpassed => ?_, fun hbegun hfree => ?_, fun why hbad => ?_⟩⟩
    · rw [recordReadDone_atEnd hw hat] at hcomp
      exact ⟨_, hcomp, hpass⟩
    · rw [recordReadDone_examine hw hat, examine_draft hdraft, endWalk_eq] at hcomp
      exact ⟨_, hcomp, rfl, rfl, rfl, hws, rfl⟩
    · rw [recordReadDone_examine hw hat] at hcomp
      have hgo : examine bs s = follow bs h.next s := by
        rcases hpassed with h4 | h5 | h6 | h7 | ⟨hbegun, hheld⟩
        · exact examine_final (.inl h4)
        · exact examine_final (.inr (.inl h5))
        · exact examine_final (.inr (.inr (.inl h6)))
        · exact examine_final (.inr (.inr (.inr h7)))
        · rw [examine_begun hbegun, if_pos ((heldByDeck_iff s a).2 hheld)]
      rw [hgo] at hcomp
      exact ⟨_, hcomp, hpass⟩
    · intro p
      rw [recordReadDone_examine hw hat, examine_begun hbegun, if_neg fun hh => hfree ((heldByDeck_iff s a).1 hh),
        staleRecord] at hcomp
      refine ⟨_, hcomp, ?_⟩
      rw [markRecord_eq (bs := bs) _ _ hr hws rfl]
      exact follows_follow hw rfl rfl
    · have hgo : examine bs s = badRecord bs why s := by
        rcases hbad with ⟨h8, rfl⟩ | ⟨h1, hv⟩
        · exact examine_unknown h8
        · exact examine_invalid h1 hv
      rw [recordReadDone_examine hw hat, hgo, badRecord] at hcomp
      refine ⟨_, badHalf s.time, hcomp, rfl, rfl, rfl, rfl, ?_⟩
      rw [show recordBad why (snapshot16 bs) s = raise ⟨.recordBad, .orderWalker, a, 0, why.code, snapshot16 bs⟩ s from rfl,
        markRecord_eq (bs := bs) _ _ hr hws (raise_only _ s)]
      exact follows_follow hw rfl rfl

end Sys2Proof.Machine


/-! # Studio lines: the debounce, the acceptance, and the re-fire of a held DUMP line (R29 to R34) -/

namespace Sys2Proof.Machine
open Sys2Proof

/-! ## The debounce (R30) -/

section Samples
variable {l : GpiLine} {level : Bool} (now : Time)

theorem sample_same (h : level = l.accepted) : l.sample now level = { l with count := 0 } := by
  rw [GpiLine.sample, if_pos h]

/-- A differing sample, before the count rises or the level is due. -/
theorem sample_differs (h : level ≠ l.accepted) : l.sample now level =
    { l with
      stamp := if l.count = 0 then now else l.stamp
      count := if l.count = 3 then 0 else l.count + 1
      due := if l.count = 3 then true else l.due } := by
  rw [GpiLine.sample, if_neg h]
  by_cases h0 : l.count = 0
  · have h3 : l.count ≠ 3 := by omega
    simp only [if_pos h0, if_neg h3]
  · by_cases h3 : l.count = 3
    · simp only [if_neg h0, if_pos h3]
    · simp only [if_neg h0, if_neg h3]

end Samples

/-! ## The acceptance (R29, R31 to R33) -/

section Acceptance
variable {s : State} {n : GpiNo}

/-- BOTH with LOG_ONLY takes either level for active (R31). -/
theorem alwaysArmed_iff (g : GpiSetting) : g.alwaysArmed = true ↔ g.sense = .both ∧ g.function = .logOnly := by
  simp only [GpiSetting.alwaysArmed, Bool.and_eq_true, beq_iff_eq]

/-- A high level is active under a rising sense. -/
theorem activeLevel_high {g : GpiSetting} (h : g.sense = .rising ∨ g.sense = .levelHigh) (level : Bool) :
    g.activeLevel level = true ↔ level = true := by
  unfold GpiSetting.activeLevel
  rcases h with h | h <;> rw [h]

/-- A low level is active under a falling sense. -/
theorem activeLevel_low {g : GpiSetting} (h : g.sense = .falling ∨ g.sense = .levelLow) (level : Bool) :
    g.activeLevel level = true ↔ level = false := by
  unfold GpiSetting.activeLevel
  rcases h with h | h <;> rw [h] <;> exact iff_of_eq (Bool.not_eq_true' _)

theorem activeLevel_both {g : GpiSetting} (h : g.sense = .both) (level : Bool) :
    g.activeLevel level = true ↔ g.function = .logOnly ∨ level = false := by
  unfold GpiSetting.activeLevel
  rw [h]
  by_cases hf : g.function = .logOnly
  · exact iff_of_true (if_pos hf) (.inl hf)
  · simp [hf]

/-- The line with its new level accepted. -/
def State.lineAccepted (s : State) (n : GpiNo) : State :=
  let l := s.gpi.get n
  { s with gpi := s.gpi.set n { l with
    accepted := !l.accepted, due := false, armed := (s.sections.station.gpi.get n).armedAt !l.accepted } }

theorem completes_gpiLevelAccepted (h : (s.gpi.get n).due = true) :
    Completes (.gpiLevelAccepted n) s (acceptLevel n s) := by
  unfold Completes
  show execGpiLevelAccepted n s = _
  rw [execGpiLevelAccepted, if_pos h]

theorem ignored_gpiLevelAccepted (h : (s.gpi.get n).due = false) : Ignored (.gpiLevelAccepted n) s := by
  unfold Ignored
  show execGpiLevelAccepted n s = _
  rw [execGpiLevelAccepted, if_neg (Bool.eq_false_iff.1 h)]

/-- An active change of an armed line with a function fires it. -/
theorem acceptLevel_fires (ha : (s.sections.station.gpi.get n).activeLevel (!(s.gpi.get n).accepted) = true)
    (harmed : (s.gpi.get n).armed = true) (hf : (s.sections.station.gpi.get n).function ≠ .none) :
    let g := s.sections.station.gpi.get n
    acceptLevel n s = (ownerActs n g.function (handLog (gpiEntry n g (!(s.gpi.get n).accepted) (s.gpi.get n).stamp
      (ownerActs n g.function (s.lineAccepted n)).1 false) (s.lineAccepted n))).2 := by
  have hset : (s.lineAccepted n).gpi.get n = { s.gpi.get n with
      accepted := !(s.gpi.get n).accepted, due := false
      armed := (s.sections.station.gpi.get n).armedAt !(s.gpi.get n).accepted } := Eight.get_set_self ..
  have hfire : acceptLevel n s = fireLine n (s.lineAccepted n) :=
    if_pos (by rw [ha, harmed]; rfl)
  have hgo : fireLine n (s.lineAccepted n) = (ownerActs n (s.sections.station.gpi.get n).function
      (handLog (gpiEntry n (s.sections.station.gpi.get n) ((s.lineAccepted n).gpi.get n).accepted
        ((s.lineAccepted n).gpi.get n).stamp
        (ownerActs n (s.sections.station.gpi.get n).function (s.lineAccepted n)).1 false) (s.lineAccepted n))).2 :=
    if_neg hf
  intro g
  rw [hfire, hgo, hset]

/-- With an inactive change, on a line not armed, or with function NONE, nothing is dispatched or written. -/
theorem acceptLevel_quiet (h : (s.sections.station.gpi.get n).activeLevel (!(s.gpi.get n).accepted) = false ∨
    (s.gpi.get n).armed = false ∨ (s.sections.station.gpi.get n).function = .none) :
    acceptLevel n s = s.lineAccepted n := by
  by_cases hgo : ((s.sections.station.gpi.get n).activeLevel (!(s.gpi.get n).accepted) && (s.gpi.get n).armed) = true
  · obtain ⟨ha, harmed⟩ := Bool.and_eq_true_iff.1 hgo
    rw [ha, harmed] at h
    have hnone : (s.sections.station.gpi.get n).function = .none := by simpa using h
    have hfire : acceptLevel n s = fireLine n (s.lineAccepted n) := if_pos hgo
    rw [hfire]
    exact if_pos hnone
  · exact if_neg hgo

end Acceptance

/-! ## The re-fire of a held level DUMP line (R32) -/

section Refire
variable {s : State}

theorem heldDump_iff (s : State) (n : GpiNo) : s.heldDump n = true ↔ (s.sections.station.gpi.get n).function = .dump ∧
    (((s.sections.station.gpi.get n).sense = .levelHigh ∧ (s.gpi.get n).accepted = true) ∨
      ((s.sections.station.gpi.get n).sense = .levelLow ∧ (s.gpi.get n).accepted = false)) := by
  simp only [State.heldDump, Bool.and_eq_true, beq_iff_eq, and_assoc]
  refine and_congr_right fun _ => ?_
  generalize s.sections.station.gpi.get n = g
  cases hs : g.sense with
  | levelHigh => simp [GpiSense.isLevel, activeLevel_high (.inr hs)]
  | levelLow => simp [GpiSense.isLevel, activeLevel_low (.inr hs)]
  | rising | falling | both => simp [GpiSense.isLevel]

theorem refire_held (n m : GpiNo) (s : State) : (refire n s).heldDump m = s.heldDump m := by
  rw [refire_only]
  rfl

theorem refire_free {n : GpiNo} (h : s.heldDump n = false) : refire n s = s := by
  rw [refire, if_neg (Bool.eq_false_iff.1 h)]

theorem foldl_refire_none {ns : List GpiNo} (h : ∀ m ∈ ns, s.heldDump m = false) :
    ns.foldl (fun s m => refire m s) s = s := by
  induction ns with
  | nil => rfl
  | cons m ns ih =>
    rw [List.foldl_cons, refire_free (h m (List.mem_cons_self ..))]
    exact ih fun x hx => h x (List.mem_cons_of_mem _ hx)

/-- Of a list of lines in which one alone holds a DUMP active, that one re-fires, once. -/
theorem foldl_refire_one {n : GpiNo} {ns : List GpiNo} (hn : n ∈ ns) (hnodup : ns.Nodup)
    (h : ∀ m, m ≠ n → s.heldDump m = false) : ns.foldl (fun s m => refire m s) s = refire n s := by
  induction ns with
  | nil => exact absurd hn List.not_mem_nil
  | cons m ns ih =>
    obtain ⟨hout, hrest⟩ := List.nodup_cons.1 hnodup
    rw [List.foldl_cons]
    by_cases hm : m = n
    · subst hm
      refine foldl_refire_none fun x hx => ?_
      rw [refire_held]
      exact h x fun e => hout (e ▸ hx)
    · rw [refire_free (h m hm)]
      exact ih ((List.mem_cons.1 hn).resolve_left (Ne.symm hm)) hrest

theorem mem_places8 : ∀ n, n ∈ places8 := by decide

theorem refireAll_one {n : GpiNo} (h : ∀ m, m ≠ n → s.heldDump m = false) : refireAll s = refire n s :=
  foldl_refire_one (mem_places8 n) (by decide) h

theorem refire_fires {n : GpiNo} (h : s.heldDump n = true) : refire n s = (dump (.line n) (handLog
    (gpiEntry n (s.sections.station.gpi.get n) (s.gpi.get n).accepted s.time (dump (.line n) s).1 true) s)).2 := by
  rw [refire, if_pos h]

theorem workOut_engaged (t d : Nat) : (workOut t d).engaged = true := by
  unfold workOut
  split_ifs <;> rfl

/-- An engagement in EXITING that brings SAFE back: its DELAY_STATE entry comes first, then the re-fires (R32, R114;
log entry 109). -/
theorem delayEngage_returns (h : s.delay.state = .exiting) (hd : s.effDump ≤ s.delay.depth) :
    let u : State := { s with delay := { s.delay with state := workOut s.sections.station.target s.delay.depth } }
    delayEngage s = (.done, refireAll (handLog (delayStateEntry .exiting .request u) u)) := by
  intro u
  have hold : s.safe = false := safe_of_state (by rw [h]; rfl)
  have hsafe : u.safe = true :=
    Bool.and_eq_true_iff.2 ⟨workOut_engaged .., decide_eq_true hd⟩
  have hlog : logDelay .request s u = handLog (delayStateEntry .exiting .request u) u := by
    rw [logDelay_changed fun e => by rw [hold, hsafe] at e; exact Bool.false_ne_true e.2, h]
  rw [delayEngage_exiting h]
  refine congrArg (Prod.mk ResultCode.done) ?_
  have hnote : noteDelay .request s u = refireAll (logDelay .request s u) := if_pos (by rw [hold, hsafe]; rfl)
  rw [← hlog]
  exact hnote

end Refire

/-- Settles O19. -/
theorem studioLinesAreDebouncedAndFired : Obligations.StudioLinesAreDebouncedAndFired := by
  unfold Obligations.StudioLinesAreDebouncedAndFired
  refine ⟨fun l level now => ⟨fun h => ?_, fun h => ?_, ?_⟩, fun s n hdue => ?_, fun s n h => ignored_gpiLevelAccepted h,
    fun s hst hprog => ?_⟩
  · rw [sample_same now h]
    exact ⟨rfl, rfl, rfl⟩
  · rw [sample_differs now h]
    refine ⟨fun hc => ?_, fun hc => ?_, fun hc => if_pos hc, fun hc => if_neg (Nat.ne_of_gt hc)⟩
    · exact ⟨if_neg (Nat.ne_of_lt hc), if_neg (Nat.ne_of_lt hc)⟩
    · exact ⟨if_pos hc, if_pos hc⟩
  · by_cases h : level = l.accepted
    · rw [sample_same now h]
    · rw [sample_differs now h]
  · intro g l level either active after owner
    have hcomp := completes_gpiLevelAccepted hdue
    have hactive : g.activeLevel level = true ↔ active := by
      show _ ↔ either ∨ _
      have heither : either ↔ g.sense = .both ∧ g.function = .logOnly := Iff.rfl
      rw [heither]
      cases hs : g.sense with
      | rising => simp [activeLevel_high (.inl hs)]
      | levelHigh => simp [activeLevel_high (.inr hs)]
      | falling => simp [activeLevel_low (.inl hs)]
      | levelLow => simp [activeLevel_low (.inr hs)]
      | both => simp [activeLevel_both hs]
    have howner : owner = ownerActs n g.function := by
      funext u
      simp only [owner]
      cases g.function <;> rfl
    refine ⟨fun hno => ?_, fun hyes => ⟨g.armedAt level, ?_, fun hquiet => ?_, fun hf harmed => ?_⟩⟩
    · have hfalse : g.activeLevel level = false := Bool.eq_false_iff.2 fun h => hno (hactive.1 h)
      have harm : g.armedAt level = true := by rw [GpiSetting.armedAt, hfalse, Bool.not_false, Bool.or_true]
      rw [acceptLevel_quiet (.inl hfalse)] at hcomp
      rw [← harm]
      exact hcomp
    · rw [GpiSetting.armedAt, hactive.2 hyes, Bool.not_true, Bool.or_false]
      exact alwaysArmed_iff g
    · rw [acceptLevel_quiet (.inr hquiet.symm)] at hcomp
      exact hcomp
    · rw [acceptLevel_fires (hactive.2 hyes) harmed hf] at hcomp
      rw [howner]
      exact hcomp
  · intro t u v holds hdepth
    have hgo : delayEngage s = (.done, refireAll v) := delayEngage_returns hst hdepth
    have hheld (m : GpiNo) : v.heldDump m = true ↔ holds m := heldDump_iff v m
    refine ⟨fun hnone => ?_, fun n hn hothers => ?_⟩
    · rw [hgo, refireAll_idle fun m => Bool.eq_false_iff.2 fun h => hnone m ((hheld m).1 h)]
    · intro entry
      have hrefusal : v.dumpRefusal = .done := by
        have hbypass : v.delay.state ≠ .bypass := (engaged_ne (workOut_engaged t s.delay.depth)).1
        rw [State.dumpRefusal, if_neg hbypass, if_neg (by rw [show v.onProgramme = true from hprog]; exact Bool.false_ne_true)]
      have hdone : (dump (.line n) v).1 = .done := by
        unfold dump
        rw [hrefusal]
      rw [hgo, refireAll_one fun m hm => Bool.eq_false_iff.2 fun h => hothers m hm ((hheld m).1 h),
        refire_fires ((hheld n).2 hn), hdone]
      rfl

end Sys2Proof.Machine


/-! # The status mirror, field by field (R17, R187; spec/12, 12.3) -/

namespace Sys2Proof.Machine
open Sys2Proof

/-! ## Bytes at their offsets -/

section Offsets
variable {bs : List Byte} {off : Nat}

/-- The bytes x stand at an offset. -/
def At (bs : List Byte) (off : Nat) (x : List Byte) : Prop := slice bs off x.length = x

/-- A field of some bytes stands at an offset with a value, little-endian. -/
def Shows (bs : List Byte) (off size value : Nat) : Prop := slice bs off size = leBytes size value

theorem at_append {x y : List Byte} : At bs off (x ++ y) ↔ At bs off x ∧ At bs (off + x.length) y := by
  unfold At slice
  rw [List.length_append, List.take_add, List.drop_drop]
  constructor
  · intro h
    have hx : x.length ≤ ((bs.drop off).take x.length).length := by
      have hlen := congrArg List.length h
      rw [List.length_append, List.length_append, List.length_take, List.length_take] at hlen
      rw [List.length_take]
      omega
    exact List.append_inj h (by rw [List.length_take] at hx ⊢; omega)
  · rintro ⟨hx, hy⟩
    rw [hx, hy]

theorem at_leBytes {n v : Nat} : At bs off (leBytes n v) ↔ Shows bs off n v := by
  unfold At Shows
  rw [leBytes_length]

theorem at_flagByte {fs : List Bool} : At bs off (flagByte fs) ↔ Shows bs off 1 (packBits fs) := at_leBytes

theorem at_byte {b : Byte} : At bs off [b] ↔ Shows bs off 1 b.toNat := by
  unfold At Shows
  rw [leBytes, leBytes, BitVec.ofNat_toNat, BitVec.setWidth_eq]
  rfl

theorem at_self (x : List Byte) : At x 0 x := slice_whole x _ rfl

theorem leBytes_zero_add (m n : Nat) : leBytes (m + n) 0 = leBytes m 0 ++ leBytes n 0 := by
  induction m with
  | zero => rw [Nat.zero_add]; rfl
  | succ m ih => rw [Nat.succ_add, leBytes, leBytes, Nat.zero_div, ih, List.cons_append]

theorem shows_zeros {m n : Nat} (hm : Shows bs off m 0) (hn : Shows bs (off + m) n 0) : Shows bs off (m + n) 0 := by
  rw [← at_leBytes, leBytes_zero_add, at_append, leBytes_length]
  exact ⟨at_leBytes.2 hm, at_leBytes.2 hn⟩

/-- One byte of those that stand at an offset. -/
theorem at_getElem {x : List Byte} (h : At bs off x) {i : Nat} (hi : i < x.length) : At bs (off + i) [x[i]] := by
  have hsplit : x = x.take i ++ ([x[i]] ++ x.drop (i + 1)) := by
    rw [List.singleton_append, List.getElem_cons_drop, List.take_append_drop]
  rw [hsplit, at_append, at_append, List.length_take, Nat.min_eq_left hi.le] at h
  exact h.2.1

end Offsets

theorem packBits_two (a b : Bool) : packBits [a, b] = bit a + 2 * bit b := by
  simp only [packBits]
  omega

theorem packBits_three (a b c : Bool) : packBits [a, b, c] = bit a + 2 * bit b + 4 * bit c := by
  simp only [packBits]
  omega

theorem packBits_four (a b c d : Bool) : packBits [a, b, c, d] = bit a + 2 * bit b + 4 * bit c + 8 * bit d := by
  simp only [packBits]
  omega

theorem packBits_six (a b c d e f : Bool) : packBits [a, b, c, d, e, f] =
    bit a + 2 * bit b + 4 * bit c + 8 * bit d + 16 * bit e + 32 * bit f := by
  simp only [packBits]
  omega

/-- A place of a list that is shown byte by byte: its value, or 0 beyond the list's end. -/
theorem placeBytes_shows {α : Type} {bs : List Byte} {off n : Nat} {f : α → Nat} {xs : List α}
    (h : At bs off (placeBytes n (xs.map f))) {i : Nat} (hi : i < n) : Shows bs (off + i) 1 (xs[i]?.elim 0 f) := by
  have hbyte := at_getElem h (i := i) (by rwa [placeBytes_length])
  have hval : [(placeBytes n (xs.map f))[i]'(by rwa [placeBytes_length])] = leBytes 1 (xs[i]?.elim 0 f) := by
    simp only [placeBytes, List.getElem_take, List.map_map]
    by_cases hx : i < xs.length
    · rw [List.getElem_append_left (by rwa [List.length_map]), List.getElem?_eq_getElem hx, List.getElem_map]
      rfl
    · rw [List.getElem_append_right (by rw [List.length_map]; omega), List.getElem?_eq_none (by omega),
        List.getElem_replicate]
      rfl
  rw [hval] at hbyte
  exact at_leBytes.1 hbyte

/-! ## The parts of the mirror and their offsets -/

theorem mirrorBytes_at (s : State) : Shows (mirrorBytes s) 0 4 (s.mirror.stamp + 1).toNat ∧
    At (mirrorBytes s) 0x004 (mirrorPart s) ∧ Shows (mirrorBytes s) 0x020 8 s.time.toNat ∧
    At (mirrorBytes s) 0x028 (mirrorPlayout s) ∧ At (mirrorBytes s) 0x0A0 (mirrorDelay s) ∧
    At (mirrorBytes s) 0x0E0 (mirrorCallers s) ∧ At (mirrorBytes s) 0x140 (mirrorAlerts s) ∧
    At (mirrorBytes s) 0x320 (mirrorLink s) ∧ At (mirrorBytes s) 0x3E0 (mirrorFaults s) := by
  have h : At (mirrorBytes s) 0 (leBytes 4 (s.mirror.stamp + 1).toNat ++ mirrorPart s ++ leBytes 8 s.time.toNat ++
      mirrorPlayout s ++ mirrorDelay s ++ mirrorCallers s ++ mirrorAlerts s ++ mirrorLink s ++ mirrorFaults s) := at_self _
  simpa only [at_append, List.length_append, leBytes_length, mirrorPart_length, mirrorPlayout_length, mirrorDelay_length,
    mirrorCallers_length, mirrorAlerts_length, mirrorLink_length, at_leBytes, and_assoc, Nat.zero_add, Nat.reduceAdd] using h

theorem mirrorBytes_length (s : State) : (mirrorBytes s).length = 2048 := by
  simp only [mirrorBytes, List.length_append, leBytes_length, mirrorPart_length, mirrorPlayout_length, mirrorDelay_length,
    mirrorCallers_length, mirrorAlerts_length, mirrorLink_length, mirrorFaults_length]

section Parts
variable {s : State} {bs : List Byte} {o : Nat}

/-- One of a run of structures of one length. -/
theorem at_flatMap {α : Type} {f : α → List Byte} {w : Nat} (hw : ∀ x, (f x).length = w) {xs : List α}
    (h : At bs o (xs.flatMap f)) {i : Nat} (hi : i < xs.length) : At bs (o + w * i) (f xs[i]) := by
  induction xs generalizing o i with
  | nil => exact absurd hi (Nat.not_lt_zero i)
  | cons x xs ih =>
    rw [List.flatMap_cons, at_append, hw] at h
    cases i with
    | zero => exact h.1
    | succ i =>
      rw [Nat.mul_succ, Nat.add_comm (w * i), ← Nat.add_assoc]
      exact ih h.2 (Nat.lt_of_succ_lt_succ hi)

/-- The structure of one of four places. -/
theorem at_four {α : Type} {f : α → List Byte} {w : Nat} (hw : ∀ x, (f x).length = w) {t : Four α}
    (h : At bs o (t.toList.flatMap f)) (n : Fin 4) : At bs (o + w * n.val) (f (t.get n)) := by
  have hget : t.get n = t.toList[n.val]'n.isLt := by fin_cases n <;> rfl
  rw [hget]
  exact at_flatMap hw h n.isLt

/-- The structure of one of eight places in order. -/
theorem at_place8 {f : Fin 8 → List Byte} {w : Nat} (hw : ∀ n, (f n).length = w) (h : At bs o (places8.flatMap f))
    (n : Fin 8) : At bs (o + w * n.val) (f n) := by
  have hget : places8[n.val]'n.isLt = n := by fin_cases n <;> rfl
  have hat := at_flatMap hw h (i := n.val) n.isLt
  rwa [hget] at hat

theorem part_shows (h : At bs 0x004 (mirrorPart s)) : Shows bs 0x004 4 s.survey.state.code ∧
    Shows bs 0x008 4 s.survey.cause.code ∧ Shows bs 0x00C 4 s.survey.appliedEdition.toNat ∧
    At bs 0x010 (refusedBytes s.survey.refused) ∧ Shows bs 0x01C 4 0 := by
  simpa only [mirrorPart, at_append, List.length_append, leBytes_length, refusedBytes_length, at_leBytes, and_assoc,
    Nat.reduceAdd] using h

theorem deck_shows {k : Deck} (h : At bs o (deckBytes k)) : Shows bs o 8 k.shown.1.toNat ∧
    Shows bs (o + 8) 4 k.shown.2 ∧ Shows bs (o + 12) 4 k.state.code ∧ Shows bs (o + 16) 4 k.fifo.length ∧
    Shows bs (o + 20) 4 0 := by
  simpa only [deckBytes, at_append, List.length_append, leBytes_length, at_leBytes, and_assoc, Nat.add_assoc,
    Nat.reduceAdd] using h

theorem shown_cued {k : Deck} (h : k.state = .loading ∨ k.state = .ready) : k.shown = (k.addr, 2) := by
  unfold Deck.shown
  rcases h with h | h <;> rw [h] <;> rfl

theorem shown_sounding {k : Deck} (h : k.state = .playing ∨ k.state = .ending ∨ k.state = .paused) :
    k.shown = (k.addr, 3) := by
  unfold Deck.shown
  rcases h with h | h | h <;> rw [h] <;> rfl

theorem shown_none {k : Deck} (h : k.state = .empty) (hw : k.writes = []) : k.shown = (0, 0) := by
  unfold Deck.shown
  rw [h, hw]
  rfl

theorem shown_write {k : Deck} {w : RecordWrite} {ws : List RecordWrite} (h : k.state = .empty)
    (hw : k.writes = w :: ws) : k.shown = (w.addr, w.state.code) := by
  unfold Deck.shown
  rw [h, hw]
  rfl

theorem delay_shows (h : At bs 0x0A0 (mirrorDelay s)) : Shows bs 0x0A0 4 s.delay.state.code ∧
    Shows bs 0x0A4 4 s.delay.depth ∧ Shows bs 0x0A8 4 s.sections.station.target ∧
    Shows bs 0x0AC 4 s.sections.station.rate ∧ Shows bs 0x0B0 4 s.effDump ∧
    Shows bs 0x0B4 4 (bit s.safe + 2 * bit s.delay.fadeIn + 4 * bit s.delay.pauseNow) ∧ Shows bs 0x0B8 8 0 ∧
    Shows bs 0x0C0 4 s.mixer.deckRamp.a.g ∧ Shows bs 0x0C4 4 s.mixer.deckRamp.b.g ∧
    Shows bs 0x0C8 4 s.mixer.studio.g ∧ Shows bs 0x0CC 4 s.mixer.fill.g ∧
    At bs 0x0D0 (s.mixer.line.toList.flatMap fun r => leBytes 4 r.g) := by
  simpa only [mirrorDelay, at_append, List.length_append, leBytes_length, at_leBytes, packBits_three, and_assoc,
    Nat.reduceAdd] using h

theorem four_flatMap_length {α : Type} {f : α → List Byte} {w : Nat} (hw : ∀ x, (f x).length = w) (t : Four α) :
    (t.toList.flatMap f).length = 4 * w := by
  simp only [Four.toList, List.flatMap_cons, List.flatMap_nil, List.length_append, List.length_nil, hw]
  omega

theorem callers_shows (h : At bs 0x0E0 (mirrorCallers s)) : At bs 0x0E0 (s.callers.line.toList.flatMap lineBytes) ∧
    At bs 0x130 (placeBytes 4 (s.callers.queue.map fun n => n.val + 1)) ∧
    At bs 0x134 (placeBytes 4 (s.callers.onAir.map fun n => n.val + 1)) ∧ Shows bs 0x138 8 0 := by
  simpa only [mirrorCallers, at_append, List.length_append, placeBytes_length, four_flatMap_length lineBytes_length,
    at_leBytes, and_assoc, Nat.reduceAdd, Nat.reduceMul] using h

theorem line_shows {l : Line} (h : At bs o (lineBytes l)) : Shows bs o 8 l.since.toNat ∧
    Shows bs (o + 8) 4 (l.tag.getD 0).toNat ∧ Shows bs (o + 12) 4 l.gain ∧ Shows bs (o + 16) 1 l.state.code ∧
    Shows bs (o + 17) 1 (bit l.heldForAlert + 2 * bit l.tag.isSome + 4 * bit (!l.framingGood)) ∧
    Shows bs (o + 18) 2 0 := by
  simpa only [lineBytes, at_append, List.length_append, leBytes_length, flagByte_length, at_leBytes, at_flagByte,
    packBits_three, and_assoc, Nat.add_assoc, Nat.reduceAdd] using h

theorem alerts_shows (h : At bs 0x140 (mirrorAlerts s)) :
    At bs 0x140 (places8.flatMap fun n => entryBytes n (s.alerts.entry.get n)) ∧
    Shows bs 0x2C0 4 s.airing.state.code ∧ Shows bs 0x2C4 4 (s.airing.entry.elim 0 fun n => n.val + 1) ∧
    Shows bs 0x2C8 4 s.airing.tone ∧ Shows bs 0x2CC 4 s.airing.message ∧ Shows bs 0x2D0 4 s.airing.given ∧
    At bs 0x2D4 (placeBytes 8 (s.alerts.queue.map fun q => q.entry.val + 1)) ∧
    Shows bs 0x2DC 4 s.sections.policy.forwardHold ∧ Shows bs 0x2E0 4 s.sections.policy.manualDeadline ∧
    Shows bs 0x2E4 4 s.sections.policy.attention ∧ Shows bs 0x2E8 4 s.airing.gain.g ∧ Shows bs 0x2EC 20 0 ∧
    Shows bs 0x300 4 s.air.now.code ∧
    Shows bs 0x304 4 (bit s.air.crossfade.isSome + 2 * bit s.air.fading + 4 * bit s.monitor.rescue) ∧
    Shows bs 0x308 4 s.monitor.state.code ∧ Shows bs 0x30C 4 s.monitor.silence ∧ Shows bs 0x310 4 s.monitor.recovery ∧
    Shows bs 0x314 12 0 := by
  have hlen : (places8.flatMap fun n => entryBytes n (s.alerts.entry.get n)).length = 384 := by
    simp only [places8, List.flatMap_cons, List.flatMap_nil, List.length_append, List.length_nil, entryBytes_length]
  simpa only [mirrorAlerts, at_append, List.length_append, leBytes_length, placeBytes_length, hlen, at_leBytes,
    packBits_three, and_assoc, Nat.reduceAdd] using h

theorem entry_free {n : EntryNo} {e : AlertEntry} (h : At bs o (entryBytes n e)) (hf : e.state = .free) :
    Shows bs o 1 (n.val + 1) ∧ Shows bs (o + 1) 47 0 := by
  rw [entryBytes, if_pos hf] at h
  simpa only [at_append, leBytes_length, at_leBytes] using h

theorem entry_shows {n : EntryNo} {e : AlertEntry} (h : At bs o (entryBytes n e)) (hf : e.state ≠ .free) :
    Shows bs o 1 (n.val + 1) ∧ Shows bs (o + 1) 1 e.state.code ∧ Shows bs (o + 2) 1 e.originClass.toNat ∧
    Shows bs (o + 3) 1 e.policy.code ∧ Shows bs (o + 4) 3 e.event.toNat ∧ Shows bs (o + 7) 1 (slotNumber e.slot) ∧
    Shows bs (o + 8) 8 e.ident.sender.toNat ∧ Shows bs (o + 16) 2 e.ident.message.toNat ∧
    Shows bs (o + 18) 2 e.copies ∧
    Shows bs (o + 20) 1 (bit e.flags.truncated + 2 * bit e.flags.noAudio + 4 * bit e.flags.forwardOnCompletion +
      8 * bit e.flags.deadline + 16 * bit e.flags.partialAir + 32 * bit e.flags.linkDown) ∧
    Shows bs (o + 21) 1 (bit e.heardA + 2 * bit e.heardB) ∧ Shows bs (o + 22) 1 e.resolution.code ∧
    Shows bs (o + 23) 1 (bit e.holdUntil.isSome + 2 * bit e.deadline.isSome) ∧ Shows bs (o + 24) 4 e.recLen ∧
    Shows bs (o + 28) 4 0 ∧ Shows bs (o + 32) 8 e.expiry.toNat ∧
    Shows bs (o + 40) 8 ((e.holdUntil.orElse fun _ => e.deadline).getD 0).toNat := by
  rw [entryBytes, if_neg hf] at h
  simpa only [at_append, List.length_append, leBytes_length, flagByte_length, List.length_cons, List.length_nil,
    at_leBytes, at_flagByte, at_byte, EntryFlags.list, packBits_six, packBits_two, and_assoc, Nat.add_assoc,
    Nat.reduceAdd] using h

theorem link_shows (h : At bs 0x320 (mirrorLink s)) : At bs 0x320 (portBytes s.link.port.a) ∧
    At bs 0x360 (portBytes s.link.port.b) ∧ Shows bs 0x3A0 4 (sideCode s.link.active) ∧
    Shows bs 0x3A4 4 (switchCode s.link.pendingSwitch) ∧ Shows bs 0x3A8 8 (s.link.hold.getD 0).toNat ∧
    Shows bs 0x3B0 4 s.link.nextSeq.toNat ∧ Shows bs 0x3B4 4 s.link.queue.length ∧
    Shows bs 0x3B8 4 (bit s.link.windowOpen) ∧ Shows bs 0x3BC 4 s.link.discards ∧
    Shows bs 0x3C0 8 (s.link.latency.getD 0) ∧ Shows bs 0x3C8 4 s.link.carrier.code ∧
    At bs 0x3CC (telemetryBytes s.link.telemetry) ∧
    Shows bs 0x3D8 4 (bit s.link.hold.isSome + 2 * bit s.link.latency.isSome + 4 * bit s.link.telemetry.isSome) ∧
    Shows bs 0x3DC 4 0 := by
  simpa only [mirrorLink, at_append, List.length_append, leBytes_length, portBytes_length, telemetryBytes_length,
    at_leBytes, packBits_three, and_assoc, Nat.reduceAdd] using h

theorem port_shows {x : Port} (h : At bs o (portBytes x)) : Shows bs o 4 x.state.code ∧ Shows bs (o + 4) 4 x.training ∧
    Shows bs (o + 8) 4 x.age ∧ Shows bs (o + 12) 4 x.bad ∧ Shows bs (o + 16) 4 (bit x.latest.isSome) ∧
    At bs (o + 20) (fitTo 28 (x.latest.getD [])) ∧ Shows bs (o + 48) 16 0 := by
  simpa only [portBytes, at_append, List.length_append, leBytes_length, fitTo_length, at_leBytes, and_assoc, Nat.add_assoc,
    Nat.reduceAdd] using h

theorem telemetry_shows {x : Telemetry} (h : At bs 0x3CC (telemetryBytes (some x))) : Shows bs 0x3CC 1 (sideCode x.port) ∧
    Shows bs 0x3CD 1 x.flags.toNat ∧ Shows bs 0x3CE 2 x.forward.toNat ∧ Shows bs 0x3D0 2 x.reflected.toNat ∧
    Shows bs 0x3D2 2 0 ∧ Shows bs 0x3D4 4 x.peak.toNat := by
  simpa only [telemetryBytes, at_append, List.length_append, leBytes_length, List.length_cons, List.length_nil, at_leBytes,
    at_byte, and_assoc, Nat.reduceAdd] using h

theorem faults_shows (h : At bs 0x3E0 (mirrorFaults s)) : Shows bs 0x3E0 4 s.faults.status.toNat ∧
    Shows bs 0x3E4 4 s.faults.repeated.toNat ∧ Shows bs 0x3E8 4 s.sections.station.mask.toNat ∧
    At bs 0x3EC (faultKinds.map fun k => BitVec.ofNat 8 (s.classOf k).code) ∧
    Shows bs 0x3FE 1 (bit s.faults.multiple) ∧ Shows bs 0x3FF 1 (bit s.faults.first.isSome) ∧
    At bs 0x400 (firstBytes s.faults.first) ∧ Shows bs 0x42A 38 0 ∧ Shows bs 0x450 4 s.log.head.toNat ∧
    Shows bs 0x454 4 s.log.dropped ∧ Shows bs 0x458 8 0 ∧
    Shows bs 0x460 1 (packBits (s.gpi.toList.map GpiLine.accepted)) ∧
    Shows bs 0x461 1 (bit (gpo s).callerOnAir + 2 * bit (gpo s).delaySafe + 4 * bit (gpo s).alertOnAir +
      8 * bit (gpo s).stationFault) ∧ Shows bs 0x462 14 0 ∧ Shows bs 0x470 912 0 := by
  have hlen : faultKinds.length = 18 := rfl
  simpa only [mirrorFaults, at_append, List.length_append, List.length_map, hlen, leBytes_length, firstBytes_length,
    flagByte_length, at_leBytes, at_flagByte, packBits_four, and_assoc, Nat.reduceAdd] using h

theorem first_shows {f : FirstFault} (h : At bs 0x400 (firstBytes (some f))) : Shows bs 0x400 4 f.kind.code ∧
    Shows bs 0x404 4 f.raisedBy.code ∧ Shows bs 0x408 8 f.time.toNat ∧ Shows bs 0x410 8 f.subject.toNat ∧
    At bs 0x418 (fitTo 16 f.snapshot) ∧ Shows bs 0x428 2 f.message.toNat := by
  simpa only [firstBytes, at_append, List.length_append, leBytes_length, fitTo_length, at_leBytes, and_assoc,
    Nat.reduceAdd] using h

/-- The class of each fault kind stands at its number (R17). -/
theorem class_shows (h : At bs 0x3EC (faultKinds.map fun k => BitVec.ofNat 8 (s.classOf k).code)) (k : FaultKind) :
    Shows bs (0x3EC + k.code) 1 (s.classOf k).code := by
  have hk : k.code < faultKinds.length := by cases k <;> decide
  have hat : faultKinds[k.code] = k := by cases k <;> rfl
  have hbyte := at_getElem h (i := k.code) (by rwa [List.length_map])
  rw [List.getElem_map, hat] at hbyte
  exact at_leBytes.1 hbyte

end Parts

/-- Settles O3. -/
theorem mirrorShowsTheState : Obligations.MirrorShowsTheState := by
  unfold Obligations.MirrorShowsTheState
  intro s shows
  obtain ⟨hstamp, hpart, htime, hplayout, hdelay, hcallers, halerts, hlink, hfaults⟩ := mirrorBytes_at s
  have hlength := mirrorBytes_length s
  obtain ⟨hstate, hcause, hedition, hrefused, hpad⟩ := part_shows hpart
  simp only [mirrorPlayout, at_append, List.length_append, leBytes_length, deckBytes_length, at_leBytes, and_assoc,
    Nat.reduceAdd] at hplayout
  obtain ⟨hclock, hgood, htrim, hclockPad, hptr, hwalker, hwalkerPad, hdeckA, hdeckB, hstore, hlen, hstorePad⟩ := hplayout
  obtain ⟨hdst, hdepth, htarget, hrate, hdump, hdflags, hdpad, hrampA, hrampB, hstudio, hfill, hlineGains⟩ :=
    delay_shows hdelay
  obtain ⟨hlines, hqueue, honAir, -⟩ := callers_shows hcallers
  obtain ⟨hentries, hairing, hentry, htone, hmessage, hgiven, halertQueue, hforward, hmanual, hattention, hgain, hairingPad,
    hnow, hairFlags, hmonitor, hsilence, hrecovery, hmonitorPad⟩ := alerts_shows halerts
  obtain ⟨hportA, hportB, hactive, hpending, hhold, hseq, hsend, hwindow, hdiscards, hlatency, hcarrier, htelemetry,
    hlinkFlags, hlinkPad⟩ := link_shows hlink
  obtain ⟨hstatus, hrepeated, hmask, hclasses, hmultiple, hhas, hfirst, hfirstPad, hhead, hdropped, hlogPad, hgpi, hgpo,
    hgpoPad, hrest⟩ := faults_shows hfaults
  refine ⟨hlength, ⟨hstamp, hstate, hcause, hedition, fun hno => ?_, fun r hr => ?_⟩, ⟨htime, hclock, hgood, htrim, hclockPad⟩,
    ⟨hptr, hwalker, hwalkerPad⟩, fun d o hd => ?_, ⟨hstore, hlen, hstorePad⟩,
    ⟨hdst, hdepth, htarget, hrate, hdump, hdflags, hdpad⟩, ⟨hrampA, hrampB, hstudio, hfill, fun n => ?_⟩, fun n => ?_,
    fun i hi => ⟨placeBytes_shows hqueue hi, placeBytes_shows honAir hi⟩, fun n => ?_,
    ⟨hairing, hentry, htone, hmessage, hgiven, fun i hi => placeBytes_shows halertQueue hi, hforward, hmanual, hattention,
      hgain, hairingPad⟩,
    ⟨hnow, hairFlags, hmonitor, hsilence, hrecovery, hmonitorPad⟩, fun p o hp => ?_,
    ⟨?_, ?_, fun h hh => ?_, hseq, hsend, hwindow, hdiscards, fun l hl => ?_, hcarrier, fun x hx => ?_, hlinkFlags, hlinkPad⟩,
    ⟨hstatus, hrepeated, hmask, class_shows hclasses, hmultiple, hhas, fun f hf => ?_, hfirstPad⟩, hhead, hdropped, hlogPad,
    hgpi, hgpo, shows_zeros (m := 14) (n := 912) hgpoPad hrest⟩
  · rw [hno] at hrefused
    exact shows_zeros (m := 12) (n := 4) (at_leBytes.1 hrefused) hpad
  · rw [hr] at hrefused
    simp only [refusedBytes, at_append, List.length_append, leBytes_length, at_leBytes, and_assoc, Nat.reduceAdd] at hrefused
    obtain ⟨hsec, hreason, hed⟩ := hrefused
    exact ⟨hsec, hreason, hed, hpad⟩
  · intro k
    have hdeck : At (mirrorBytes s) o (deckBytes k) := by
      rcases hd with ⟨rfl, rfl⟩ | ⟨rfl, rfl⟩
      · exact hdeckA
      · exact hdeckB
    obtain ⟨haddr, hrec, hst, hfifo, hz⟩ := deck_shows hdeck
    refine ⟨fun he => ⟨fun hw => ?_, fun w ws hw => ?_⟩, fun hc => ?_, fun hp => ?_, hst, hfifo, hz⟩
    · rw [shown_none he hw] at haddr hrec
      exact ⟨haddr, hrec⟩
    · rw [shown_write he hw] at haddr hrec
      exact ⟨haddr, hrec⟩
    · rw [shown_cued hc] at haddr hrec
      exact ⟨haddr, hrec⟩
    · rw [shown_sounding hp] at haddr hrec
      exact ⟨haddr, hrec⟩
  · exact at_leBytes.1 (at_four (fun r => leBytes_length ..) hlineGains n)
  · exact line_shows (at_four lineBytes_length hlines n)
  · intro o e
    have hat : At (mirrorBytes s) o (entryBytes n e) := at_place8 (fun n => entryBytes_length ..) hentries n
    by_cases hf : e.state = .free
    · obtain ⟨hnumber, hzeros⟩ := entry_free hat hf
      exact ⟨hnumber, fun _ => hzeros, fun h => absurd hf h⟩
    · obtain ⟨hnumber, hst, horigin, hpolicy, hevent, hslot, hsender, hident, hcopies, hflags, hheard, hresolution, htimers,
        hrec, hpad, hexpiry, htimer⟩ := entry_shows hat hf
      refine ⟨hnumber, fun h => absurd h hf, fun _ => ⟨hst, horigin, hpolicy, hevent, hslot, hsender, hident, hcopies, hflags,
        hheard, hresolution, htimers, hrec, hpad, hexpiry, fun h hh => ?_, fun h hno hh => ?_⟩⟩
      · rw [hh] at htimer
        exact htimer
      · rw [hno, hh] at htimer
        exact htimer
  · intro x
    have hport : At (mirrorBytes s) o (portBytes x) := by
      rcases hp with ⟨rfl, rfl⟩ | ⟨rfl, rfl⟩
      · exact hportA
      · exact hportB
    obtain ⟨hst, htraining, hage, hbad, hhasLatest, hlatest, hpad⟩ := port_shows hport
    refine ⟨hst, htraining, hage, hbad, hhasLatest, fun hno => ?_, fun bs hbs hsize => ?_, hpad⟩
    · rw [hno] at hlatest
      exact at_leBytes.1 hlatest
    · rw [hbs, Option.getD_some, fitTo_self hsize, At, hsize] at hlatest
      exact hlatest
  · cases hside : s.link.active <;> rw [hside] at hactive <;> exact hactive
  · exact hpending
  · rw [hh] at hhold
    exact hhold
  · rw [hl] at hlatency
    exact hlatency
  · rw [hx] at htelemetry
    obtain ⟨hside, hflags, hfwd, hrefl, hz, hpeak⟩ := telemetry_shows htelemetry
    refine ⟨?_, hflags, hfwd, hrefl, hz, hpeak⟩
    cases hport : x.port <;> rw [hport] at hside <;> exact hside
  · rw [hf] at hfirst
    obtain ⟨hkind, hby, hat, hsubject, hsnap, hmessage⟩ := first_shows hfirst
    refine ⟨hkind, hby, hat, hsubject, fun hsize => ?_, hmessage⟩
    rw [fitTo_self hsize, At, hsize] at hsnap
    exact hsnap

end Sys2Proof.Machine
